-- ==== Sys2Proof/Word.lean ====
section
/-! DEFINITION. The plainest words of the model: bytes, 64-bit words and their byte and bit fields. Field values are held as
natural numbers below two to the power of the field's width. -/
namespace Sys2Proof

/-- One byte. -/
abbrev Byte := BitVec 8

/-- A 64-bit register or memory word. -/
abbrev W64 := BitVec 64

/-- Bits [hi:lo] of a number (R5). -/
def bitsOf (v hi lo : Nat) : Nat := (v >>> lo) % 2 ^ (hi + 1 - lo)

/-- Bit `b` of a number as 0 or 1. -/
def bitOf (v b : Nat) : Nat := (v >>> b) % 2

/-- Bit `b` of a number. -/
def testB (v b : Nat) : Bool := (v >>> b) % 2 == 1

/-- `v` with bit `b` set. -/
def setB (v b : Nat) : Nat := if testB v b then v else v + 2 ^ b

/-- `v` with bit `b` cleared. -/
def clrB (v b : Nat) : Nat := if testB v b then v - 2 ^ b else v

/-- `v` with bits [lo + w - 1 : lo] replaced by `x` (R5). -/
def putBits (v lo w x : Nat) : Nat :=
  v % 2 ^ lo + (x % 2 ^ w) * 2 ^ lo + (v >>> (lo + w)) * 2 ^ (lo + w)

/-- A count that stays at its largest value once it has reached it. -/
def satAdd (w a b : Nat) : Nat := min (a + b) (2 ^ w - 1)

/-- The two's-complement value of the low `w` bits of `v`. -/
def toSigned (w v : Nat) : Int :=
  if v % 2 ^ w < 2 ^ (w - 1) then (v % 2 ^ w : Nat) else ((v % 2 ^ w : Nat) : Int) - (2 ^ w : Nat)

/-- The low `w` bits of an integer in two's complement. -/
def ofSigned (w : Nat) (x : Int) : Nat := (x % (2 ^ w : Nat)).toNat

/-- GTC value `a` is earlier than `b` when b - a modulo 2^64, taken as an i64, is positive (R37). -/
def gtcBefore (a b : Nat) : Bool :=
  let d := (b + 2 ^ 64 - a % 2 ^ 64) % 2 ^ 64
  decide (0 < d ∧ d < 2 ^ 63)

/-- The quotient rounded up. -/
def ceilDiv (a b : Nat) : Nat := (a + b - 1) / b

/-- The number that little-endian bytes spell (R5). -/
def leNat : List Byte → Nat
  | [] => 0
  | b :: bs => b.toNat + 256 * leNat bs

/-- The `n` little-endian bytes of a number (R5). -/
def leBytes : Nat → Nat → List Byte
  | 0, _ => []
  | n + 1, v => BitVec.ofNat 8 v :: leBytes n (v / 256)

end Sys2Proof
end

