-- ==== Sys2Proof/Syntax.lean ====
section
/-! DEFINITION. The commands that the block takes from outside: one constructor per row of the operation table
(spec/opcode_table.json), with the operands the spec gives that step. No row of the table gives any bits, so a command is
its constructor and operands and nothing else. -/
namespace Sys2Proof

/-- A physical tile, 0 to 39 (R16). -/
abbrev Tile := Fin 40

/-- A fabric link of the package: link p of F-die f is 16 × f + p. -/
abbrev Link := Fin 64

/-- A compute die or its stack, 0 to 19 (R14). -/
abbrev CDie := Fin 20

/-- An F-die, 0 to 3 (R14). -/
abbrev FDie := Fin 4

/-- A control-core register number, 0 to 31 (Table 3.1). -/
abbrev RegNo := Fin 32


/-- A fabric packet (R334, Table 14.3): the header's fields and the data. `poison` has bit i set when data granule i carries
poison, folded as the POISON field folds it. -/
structure Packet where
  op : Nat
  cls : Nat
  ttl : Nat
  resent : Bool
  srcNode : Nat
  dstNode : Nat
  srcTile : Nat
  tag : Nat
  addr : Nat
  len : Nat
  atype : Nat
  stamp : Nat
  d : Nat
  cnt : Nat
  cntEn : Bool
  taint : Bool
  status : Nat
  poison : Nat
  data : List Byte
deriving DecidableEq, Repr

/-- How DETECT classifies the far end of a lane (R321). -/
inductive LaneClass where
  | termination | open_ | short | driver
deriving DecidableEq, Repr

/-- What ALIGN finds on a lane: whether it locked, the sign of its pattern, and the lane ID it carries (R322). -/
structure LaneAlign where
  locked : Bool
  inverted : Bool
  laneId : Fin 4
deriving DecidableEq, Repr

/-- What the two ends exchange in CONFIG (R322, R323, R328): the peer's usable logical lanes, its identity and ACK_NEXT, whether
lanes lead to two different peers, and the measured round trip. -/
structure PeerConfig where
  lanes : BitVec 4
  maxW : Fin 5
  node : BitVec 16
  fdie : BitVec 2
  port : BitVec 4
  ackNext : BitVec 16
  conflict : Bool
  roundTrip : BitVec 16
deriving DecidableEq, Repr

/-- A link block as it arrives (Table 13.1), with what the FEC and CRC checks found of it (R312, R317) and the packets whose
last byte it carries. -/
structure RxBlock where
  seq : BitVec 16
  ackNext : BitVec 16
  nak : Bool
  credits : List (BitVec 24)
  packets : List Packet
  msg : BitVec 8
  fecCorrected : BitVec 32
  fecUncorrectable : BitVec 16
  crcOk : Bool
  sync : Bool
deriving DecidableEq, Repr


/-- The atomic operations (Table 14.4). -/
inductive AmoOp where
  | add | min | max | cas
deriving DecidableEq, Repr

/-- The operand types of atomics, ATYPE 0 to 5 (Table 14.3). -/
inductive AType where
  | i32 | i64 | u32 | u64 | f32 | f64
deriving DecidableEq, Repr

/-- Where a load's answer goes (gp0 discards it, R65): a gp register, a whole short-vector register, or its low 64 bits fpN. -/
inductive Dest where
  | gp (r : RegNo)
  | sv (r : RegNo)
  | fp (r : RegNo)
deriving DecidableEq, Repr


/-- Integer ALU operations (Table 3.2). -/
inductive AluOp where
  | add | sub | and_ | or_ | xor_ | shl | shr | cmp | sel
deriving DecidableEq, Repr

/-- Integer multiplications (Table 3.2). -/
inductive MulOp where
  | mul | mulh
deriving DecidableEq, Repr

/-- Integer divisions (Table 3.2). -/
inductive DivOp where
  | div | rem
deriving DecidableEq, Repr

/-- An integer operand: a general register or an immediate. -/
inductive Opd where
  | gp (r : RegNo)
  | imm (v : W64)
deriving DecidableEq, Repr

/-- Branches (Table 3.2): b.cond on two registers with a condition code, j, call with its link register, ret through it. -/
inductive BrKind where
  | cond (code : Fin 16) (ra rb : RegNo)
  | jump
  | call (link : RegNo)
  | ret (link : RegNo)
deriving DecidableEq, Repr

/-- Scalar FP operations (Table 3.2). -/
inductive FpOp where
  | fadd | fmul | fma
deriving DecidableEq, Repr

/-- Unpipelined scalar FP operations (Table 3.2). -/
inductive FpDivOp where
  | fdiv | fsqrt
deriving DecidableEq, Repr

/-- Scalar FP formats. -/
inductive FpFmt where
  | fp32 | fp64
deriving DecidableEq, Repr

/-- Short-vector arithmetic (Table 3.2). -/
inductive SvOp where
  | add | fma
deriving DecidableEq, Repr

/-- Short-vector element formats: 4 × FP64, 8 × FP32, 16 × FP16 or BF16, 32 × INT8. -/
inductive SvFmt where
  | fp64 | fp32 | fp16 | bf16 | int8
deriving DecidableEq, Repr

/-- Short-vector permute and convert (Table 3.2); `code` is what the instruction selects by. -/
inductive SvMove where
  | perm
  | cvt (code : Fin 256)
deriving DecidableEq, Repr

/-- The two forms of issue (R71): the even–odd short-vector pair, or a data-memory address in a general register. -/
inductive IssueForm where
  | pair (k : Fin 16)
  | mem (ra : RegNo)
deriving DecidableEq, Repr

/-- Time reads (Table 3.2). -/
inductive TimeReg where
  | gtc | cyc
deriving DecidableEq, Repr

/-- A switchable function (R467): a power domain, an engine of a tile, or the scrubber. -/
inductive Func where
  | dom (d : Fin 174)
  | vx (t : Tile)
  | sv (t : Tile)
  | fs (t : Tile)
  | dm (t : Tile)
  | ce (t : Tile)
  | cv (t : Tile) (u : Fin 2)
  | scrub
deriving DecidableEq, Repr

/-- A line that interface training finds failed: its channel, and its position in a codeword (R283, R285). -/
structure FailedLine where
  channel : Fin 128
  position : Fin 18
deriving DecidableEq, Repr

/-- A rennet image (R457): what its 64-byte header holds (FORMAT, entry PC, the SHA3-256 of both images), the two images, and the signature. -/
structure RennetImage where
  format : BitVec 16
  entry : BitVec 14
  digest : List Byte
  imem : List Byte
  dmem : List Byte
  sig : List Byte
deriving DecidableEq, Repr

/-- A frame schedule that an arm message carries (R44, R60). -/
structure SchedMsg where
  len : BitVec 64
  base : BitVec 64
  number : BitVec 64
deriving DecidableEq, Repr

/-- What a tree broadcast carries (R459): a rennet image, an arm message (R60), or a cancel that names the failed node if one is known. -/
inductive BContent where
  | rennet (img : RennetImage)
  | arm (job : Fin 64) (depth : BitVec 8) (l k : BitVec 64) (sched : Option SchedMsg)
  | cancel (job : Fin 64) (node : BitVec 16)
deriving DecidableEq, Repr

/-- A broadcast message: its identifier, the digest of its content, and the content (R460). -/
structure BMsg where
  ident : BitVec 32
  digest : BitVec 256
  content : BContent
deriving DecidableEq, Repr

/-- A child of a failed child, and its alternate parent where it has one (R459, R461). -/
structure Orphan where
  node : BitVec 16
  alternate : Option (BitVec 16)
deriving DecidableEq, Repr

/-- What a subtree report lists (R462): failed packages, unreached ones, and those that refused an image. -/
structure SubReport where
  failed : List (BitVec 16)
  unreached : List (BitVec 16)
  refused : List (BitVec 16)
deriving DecidableEq, Repr

/-- Boundary-scan instructions (R489). -/
inductive TapInstr where
  | idcode | bypass | samplePreload | extest | extestPulse | extestTrain | priv
deriving DecidableEq, Repr

/-- Where the firmware places a shard of a checkpoint: the policy's destination, by its number, and the local address there (R403, R411). -/
structure Place where
  dest : Fin 4
  addr : BitVec 48
deriving DecidableEq, Repr

/-- The cut order of one tile (Table 18.5): the trailer offset, the offset of the destination table, and the places of the tile's curds. -/
structure TileOrder where
  tile : Tile
  trailer : BitVec 24
  table : BitVec 24
  curds : List (BitVec 16 × Place)
deriving DecidableEq, Repr

/-- A shard as its writer posted it: KIND, CURD, the writer's node, the STEP and EPOCH of its header, the status posted in place of the record (0 for a
record), its poison, its destination (0 node and HOST for the staging region) and address, and from the digest record its length, SHA3-256 and
CRC-32C; and whether it has reached host storage. -/
structure Shard where
  kind : Nat
  curd : Nat
  writer : Nat
  step : Nat
  epoch : Nat
  status : Nat
  poison : Bool
  node : Nat
  host : Bool
  addr : Nat
  len : Nat
  sha : List Byte
  crc : Nat
  stored : Bool
deriving DecidableEq, Repr

/-- What loading one shard found (R418): its KIND and CURD, its header's JOB_ID, STEP, GEN and EPOCH, the SHA3-256 and CRC-32C of what was loaded, whether
the trailer read with poison, and the status of a read that failed (0 for none). -/
structure ShardCheck where
  kind : Fin 3
  curd : BitVec 16
  jobId : W64
  step : W64
  gen : BitVec 32
  epoch : BitVec 16
  sha : List Byte
  crc : BitVec 32
  poison : Bool
  status : Byte
deriving DecidableEq, Repr


/-- The commands of the block: one constructor per row of the operation table, in its order. -/
inductive Instr where
  /-- SYNC_MESSAGE_SEND (R38): Every 65,536 cycles each end of a sync-tree link sends a timestamped sync message ahead of queued payload. -/
  | syncMessageSend (link : Link)
  /-- SYNC_MESSAGE (R38): A received sync message gives a round-trip measurement; the offset is updated and lock or loss of lock is judged. -/
  | syncMessage (link : Link) (upstream : Bool) (srcTime : W64) (roundTrip : BitVec 32) (srcHops : BitVec 6)
  /-- CABLE_MARKER (R40): A marker with its serial GTC word arrives on GTC_SYNC_IN; a cable slave aligns to the carried value plus GT_CABLE_DLY. -/
  | cableMarker (word : W64)
  /-- SYNC_OUT_MARKER (R40): At every GTC multiple of 2^20 in a cable mode the package drives a marker edge and its preceding serial word on GTC_SYNC_OUT. -/
  | syncOutMarker
  /-- LOSS_OF_SOURCE (R41): The upstream time source is lost; HOLDOVER and LOCK_LOST set and the last frequency is held. -/
  | lossOfSource
  /-- GT_CTL_WRITE (R529): A write of GT_CTL changes the time mode with immediate effects on LOCKED, HOLDOVER and LOCK_LOST. -/
  | gtCtlWrite (value : W64)
  /-- FRAME_ARM (R44): A write of GT_FRAME_CTL.ARM stages a frame schedule (PEND set) or refuses it (REFUSED set). -/
  | frameArm (value : W64)
  /-- SCHEDULE_TAKES_EFFECT (R45): A pending schedule takes effect at its base; GT_FRAME_CUR, GT_FRAME_NUM and GT_TICK_NEXT change and PEND clears. -/
  | scheduleTakesEffect
  /-- GEYSER_TICK (R43): Each replica reaching a tick value asserts the geyser tick: tiles open frames and frame-boundary work runs. -/
  | geyserTick
  /-- GT_TILE_DONE (R50): A write of GT_TILE.DONE closes the tile's oldest open frame, loading GT_TILE.LATE if late. -/
  | gtTileDone (tile : Tile)
  /-- OVERRUN_LATE_LIMIT (R51): A frame still open at the tick ending frame n+64 gets its overrun record with LATE 0xFFFF_FFFF. -/
  | overrunLateLimit (tile : Tile)
  /-- FRAME_OVERRUN_RECORD (R51): The firmware writes a frame-overrun rind-log record and posts a FRAME_OVERRUN event. -/
  | frameOverrunRecord
  /-- LAUNCH_ARM (R60): A write of GT_LAUNCH_CTL.ARM puts an Idle slot into Armed or Refused, optionally arming the staged schedule. -/
  | launchArm (slot : Fin 4) (value : W64) (depth : BitVec 8)
  /-- LAUNCH_TAKEN (R61): When the GTC equals L, every tile of an Armed slot's job starts its entry and the slot becomes Taken. -/
  | launchTaken (slot : Fin 4)
  /-- LAUNCH_CANCEL (R62): A write of GT_LAUNCH_CTL.CANCEL cancels the slot within [arm, L), withdraws a pending staged schedule, or sets TOO_LATE. -/
  | launchCancel (slot : Fin 4) (failedNode : BitVec 16)
  /-- LAUNCH_RELEASE (R64): A write of GT_LAUNCH_CTL.RELEASE returns a Cancelled, Taken or Refused slot to Idle. -/
  | launchRelease (slot : Fin 4)
  /-- LAUNCH_DECISION_CANCEL (R63): A member failure reaching the root before K, or loss of both parents, cancels the launch fabric-wide or locally. -/
  | launchDecisionCancel (slot : Fin 4) (bothParentsLost : Bool) (failedNode : BitVec 16)
  /-- INTEGER_ALU (R68): An integer ALU instruction executes with 1-cycle latency. -/
  | integerAlu (tile : Tile) (op : AluOp) (rd : RegNo) (ra : RegNo) (b : Opd) (rc : RegNo)
  /-- INTEGER_MULTIPLY (R68): mul or mulh executes with 3-cycle latency. -/
  | integerMultiply (tile : Tile) (op : MulOp) (rd : RegNo) (ra : RegNo) (b : Opd)
  /-- INTEGER_DIVIDE (R68): div or rem executes over 34 unpipelined cycles. -/
  | integerDivide (tile : Tile) (op : DivOp) (rd : RegNo) (ra : RegNo) (b : Opd)
  /-- BRANCH (R68): A branch, jump, call or return resolves; a taken one adds 2 cycles. -/
  | branch (tile : Tile) (kind : BrKind) (target : BitVec 16)
  /-- LOCAL_LOAD (R68): ld.l reads core data memory. -/
  | localLoad (tile : Tile) (dest : Dest) (base : RegNo) (off : W64) (size : Fin 32)
  /-- LOCAL_STORE (R68): st.l writes core data memory. -/
  | localStore (tile : Tile) (src : Dest) (base : RegNo) (off : W64) (size : Fin 32)
  /-- TILE_STORE_LOAD (R246): ld.t requests a tile-store read through pool agent 0. -/
  | tileStoreLoad (tile : Tile) (dest : Dest) (base : RegNo) (off : W64) (size : Fin 32)
  /-- TILE_STORE_STORE (R77): st.t writes tile store, stalling while a marked source targets outside the caldera. -/
  | tileStoreStore (tile : Tile) (src : Dest) (base : RegNo) (off : W64) (size : Fin 32)
  /-- STACK_REMOTE_LOAD (R69): ld.g issues a stack or remote load taking a tracker entry. -/
  | stackRemoteLoad (tile : Tile) (dest : Dest) (base : RegNo) (off : W64) (size : Fin 32)
  /-- STACK_REMOTE_STORE (R69): st.g issues a stack or remote store taking a tracker entry. -/
  | stackRemoteStore (tile : Tile) (src : Dest) (base : RegNo) (off : W64) (size : Fin 32)
  /-- FLAGGED_STORE (R344): st.gf enters the tracker to wait for all earlier stores, flags and atomics, or is refused if bit 63 is set. -/
  | flaggedStore (tile : Tile) (src : Dest) (base : RegNo) (off : W64)
  /-- REMOTE_ATOMIC (R341): amo.add, amo.min, amo.max or amo.cas issues a remote or stack atomic. -/
  | remoteAtomic (tile : Tile) (op : AmoOp) (ty : AType) (dest : Dest) (base : RegNo) (off : W64) (operand : Dest) (compare : Dest)
  /-- SCALAR_FP (R68): A scalar FP add, multiply or FMA executes under TC_FCSR. -/
  | scalarFp (tile : Tile) (op : FpOp) (fmt : FpFmt) (rd : RegNo) (ra : RegNo) (rb : RegNo) (rc : RegNo)
  /-- SCALAR_FP_DIVIDE (R68): fdiv or fsqrt executes unpipelined. -/
  | scalarFpDivide (tile : Tile) (op : FpDivOp) (fmt : FpFmt) (rd : RegNo) (ra : RegNo) (rb : RegNo)
  /-- SHORT_VECTOR_ARITHMETIC (R68): sv.add or sv.fma executes on a short-vector register. -/
  | shortVectorArithmetic (tile : Tile) (op : SvOp) (fmt : SvFmt) (rd : RegNo) (ra : RegNo) (rb : RegNo) (rc : RegNo)
  /-- SHORT_VECTOR_PERMUTE (R68): sv.perm or sv.cvt executes. -/
  | shortVectorPermute (tile : Tile) (op : SvMove) (rd : RegNo) (ra : RegNo) (rb : RegNo)
  /-- DESCRIPTOR_ISSUE (R71): issue or issue.m sends a 64 B descriptor to an engine queue, stalling while full or raising exception 0x06. -/
  | descriptorIssue (tile : Tile) (engine : Fin 8) (form : IssueForm)
  /-- VECTOR_ENGINE_INSTRUCTION (R143): The core checks a vx.* instruction at issue and queues it to engine 7 or raises an exception. -/
  | vectorEngineInstruction (tile : Tile) (word : BitVec 32)
  /-- COUNTER_WAIT (R75): wait.ge begins waiting for a counter to reach a value. -/
  | counterWait (tile : Tile) (counter : RegNo) (rv : RegNo)
  /-- COUNTER_WAIT_DEADLINE (R75): wait.dl begins waiting for a counter or a GTC deadline, ending at once if the deadline has passed. -/
  | counterWaitDeadline (tile : Tile) (counter : RegNo) (rv : RegNo) (rdl : RegNo)
  /-- WAIT_RELEASE (R75): A waiting counter reaches its value and the wait ends in the next cycle. -/
  | waitRelease (tile : Tile)
  /-- WAIT_DEADLINE (R75): The GTC reaches a wait.dl deadline and the wait ends with 0 in gp1. -/
  | waitDeadline (tile : Tile)
  /-- COUNTER_READ (R74): cnt.rd returns a completion counter value. -/
  | counterRead (tile : Tile) (rd : RegNo) (counter : RegNo)
  /-- COUNTER_SET (R74): cnt.set sets a counter to a value plus that cycle's increments. -/
  | counterSet (tile : Tile) (counter : RegNo) (rs : RegNo)
  /-- SUMMARY_READ (R76): sum.ld reads a summary slot. -/
  | summaryRead (tile : Tile) (rd : RegNo) (slot : RegNo) (word : Fin 4)
  /-- BRANCH_ON_SUMMARY (R76): b.sum branches when a slot's status class is selected by the mask. -/
  | branchOnSummary (tile : Tile) (slot : RegNo) (mask : BitVec 16) (target : BitVec 16)
  /-- TIME_READ (R34): rd.gtc or rd.cyc reads the GTC replica or cycle counter. -/
  | timeRead (tile : Tile) (rd : RegNo) (which : TimeReg)
  /-- RANDOM_DRAW (R232): rn.get draws the next output of a slot, stalls, or returns 0 with an error flag. -/
  | randomDraw (tile : Tile) (rd : RegNo) (slot : Fin 4)
  /-- EXCEPTION_RETURN (R78): eret clears INEXC and resumes at TC_EPC, taking any pending load-answer exception first. -/
  | exceptionReturn (tile : Tile)
  /-- LOAD_ANSWER (R530): A load's answer registers; the destination is written or a deferred load-answer exception is taken. -/
  | loadAnswer (tile : Tile) (n : Fin 64)
  /-- INTERRUPT_ENTRY (R78): An enabled pending interrupt is taken as exception 0x10 while INEXC is 0. -/
  | interruptEntry (tile : Tile)
  /-- DOUBLE_FAULT_MESSAGE (R440): The hardware writes the DOUBLE_FAULT message into T2F as soon as the tile holds the slot. -/
  | doubleFaultMessage (tile : Tile)
  /-- TC_RUN (R66): A write of TC_CTL.RUN starts the core at TC_EPC.PC or halts it. -/
  | tcRun (tile : Tile) (value : W64)
  /-- TC_STEP (R84): A write of TC_CTL.STEP issues one cycle while halted, when debug is unlocked. -/
  | tcStep (tile : Tile)
  /-- TC_CNT_WRITE (R74): A firmware or core write of TC_CNT sets a counter, plus that cycle's increments. -/
  | tcCntWrite (tile : Tile) (counter : RegNo) (value : W64)
  /-- CONTEXT_SAVE_DONE (R81): After queued descriptors complete and the context is saved, TC_PREEMPT.DONE sets. -/
  | contextSaveDone (tile : Tile)
  /-- PREEMPT_DEFERRAL_LIMIT (R81): A switch not DONE within 8 frames of the request makes the firmware command return 0x12. -/
  | preemptDeferralLimit (tile : Tile)
  /-- TILE_WATCHDOG (R84): TC_WDOG.FRAMES frames pass without GT_TILE.DONE; FIRED sets with a safety interrupt. -/
  | tileWatchdog (tile : Tile)
  /-- CONTEXT_RESTORE (R83): A tile restores a context image, checking its CRC and register lengths. -/
  | contextRestore (tile : Tile) (remote : List Byte)
  /-- MMA (R97): A matrix MMA descriptor starts and runs its k-steps and epilogues under the recurrence. -/
  | mma (tile : Tile)
  /-- EPI (R97): A matrix EPI descriptor drains a held bank through the epilogue into tile store. -/
  | epi (tile : Tile)
  /-- MMF (R131): A sliced floating-point product prepares images, runs pair passes and rounds each block. -/
  | mmf (tile : Tile)
  /-- MATRIX_COMPLETION (R98): A matrix descriptor completes, writing its summary and incrementing its counter. -/
  | matrixCompletion (tile : Tile)
  /-- MX_BIST_START (R110): A write of MX_BIST.START on an idle engine starts the 131,072-cycle array self-test. -/
  | mxBistStart (tile : Tile)
  /-- MX_BIST_DONE (R110): The self-test ends, setting DONE and FAIL/FAIL_COL for unreplaced defects. -/
  | mxBistDone (tile : Tile)
  /-- VX_SETVL (R141): vx.setvl sets SEW and VL, clipping to VLMAX. -/
  | vxSetvl (tile : Tile)
  /-- VX_BCAST (R144): vx.bcast writes a scalar into every active element. -/
  | vxBcast (tile : Tile)
  /-- VX_LD (R144): vx.ld loads contiguous elements from tile store. -/
  | vxLd (tile : Tile)
  /-- VX_ST (R144): vx.st stores contiguous elements to tile store. -/
  | vxSt (tile : Tile)
  /-- VX_LDS (R149): vx.lds loads strided elements. -/
  | vxLds (tile : Tile)
  /-- VX_STS (R149): vx.sts stores strided elements. -/
  | vxSts (tile : Tile)
  /-- VX_GATHER (R149): vx.gather loads indexed elements. -/
  | vxGather (tile : Tile)
  /-- VX_SCATTER (R150): vx.scatter stores indexed elements in ascending index. -/
  | vxScatter (tile : Tile)
  /-- VX_SCATADD (R150): vx.scatadd adds indexed elements into memory in ascending index. -/
  | vxScatadd (tile : Tile)
  /-- VX_ARITH (R151): vx.arith performs add, sub, mul, fma, min, max, div or sqrt. -/
  | vxArith (tile : Tile)
  /-- VX_LOGIC (R152): vx.logic performs integer logic and shifts. -/
  | vxLogic (tile : Tile)
  /-- VX_CMP (R144): vx.cmp writes a comparison mask. -/
  | vxCmp (tile : Tile)
  /-- VX_SEL (R144): vx.sel selects elements by v0. -/
  | vxSel (tile : Tile)
  /-- VX_CVT (R153): vx.cvt converts format, drawing random outputs when stochastic. -/
  | vxCvt (tile : Tile)
  /-- VX_WMUL (R156): vx.wmul forms exact widened products into a register pair. -/
  | vxWmul (tile : Tile)
  /-- VX_DOT (R156): vx.dot forms grouped dot products into wider lanes. -/
  | vxDot (tile : Tile)
  /-- VX_PERM (R144): vx.perm permutes elements by index. -/
  | vxPerm (tile : Tile)
  /-- VX_SLIDE (R144): vx.slide shifts elements by a scalar amount. -/
  | vxSlide (tile : Tile)
  /-- VX_RED (R157): vx.red reduces a register by the fixed tree into element 0. -/
  | vxRed (tile : Tile)
  /-- VX_XCLR (R158): vx.xclr clears a long accumulator. -/
  | vxXclr (tile : Tile)
  /-- VX_XDOT (R158): vx.xdot adds an exact dot product into a long accumulator. -/
  | vxXdot (tile : Tile)
  /-- VX_XSUM (R158): vx.xsum adds an exact sum into a long accumulator. -/
  | vxXsum (tile : Tile)
  /-- VX_XRD (R159): vx.xrd reads a long accumulator rounded to FP64. -/
  | vxXrd (tile : Tile)
  /-- VX_TLD (R161): vx.tld loads a tile register. -/
  | vxTld (tile : Tile)
  /-- VX_TST (R161): vx.tst stores a tile register. -/
  | vxTst (tile : Tile)
  /-- VX_TBC (R162): vx.tbc applies a broadcast operation to a tile register. -/
  | vxTbc (tile : Tile)
  /-- VX_TEW (R162): vx.tew applies an element-wise operation to tile registers. -/
  | vxTew (tile : Tile)
  /-- VX_TRED (R162): vx.tred reduces a tile register by rows or columns. -/
  | vxTred (tile : Tile)
  /-- VX_TTR (R162): vx.ttr transposes a tile register in place. -/
  | vxTtr (tile : Tile)
  /-- VX_TROW (R162): vx.trow copies a tile row to a vector register. -/
  | vxTrow (tile : Tile)
  /-- VX_TPUT (R162): vx.tput writes a vector register into a tile row. -/
  | vxTput (tile : Tile)
  /-- VX_SUMM (R163): vx.summ starts a summary function of a register or accumulator. -/
  | vxSumm (tile : Tile)
  /-- VX_SUMMARY_COMPLETE (R163): At st + o + d a summary writes its slot and increments its counter. -/
  | vxSummaryComplete (tile : Tile)
  /-- VX_MARK (R165): vx.mark, after earlier completions, increments a counter and optionally writes a status slot. -/
  | vxMark (tile : Tile)
  /-- VX_LEND (R166): vx.lend hands all three vector pipes to the paired solve until it releases them. -/
  | vxLend (tile : Tile)
  /-- VX_VTYPE_WRITE (R171): A write of VX_VTYPE sets VL and SEW when idle, clipping or ignoring invalid values. -/
  | vxVtypeWrite (tile : Tile) (value : W64)
  /-- VX_FCSR_WRITE (R171): A write of VX_FCSR takes effect only while the engine is idle and its queue empty. -/
  | vxFcsrWrite (tile : Tile) (value : W64)
  /-- VX_RNSEL_WRITE (R171): A write of VX_RNSEL takes effect only while the engine is idle and its queue empty. -/
  | vxRnselWrite (tile : Tile) (value : W64)
  /-- SV_LOAD (R174): SV_LOAD validates a structure image onto a handle, or re-reads AVAL with VALONLY. -/
  | svLoad (tile : Tile)
  /-- SV_UPDATE (R175): SV_UPDATE applies changed-entry records into AVAL. -/
  | svUpdate (tile : Tile)
  /-- SV_SOLVE (R180): SV_SOLVE starts: decode, then lend wait, iterate 0, factorisation and outer iterations. -/
  | svSolve (tile : Tile)
  /-- SV_FREE (R177): SV_FREE invalidates a handle. -/
  | svFree (tile : Tile)
  /-- SOLVE_PHASE_END (R183): A solve phase or iteration ends and the overflow, rejection, acceptance, tolerance and limit tests apply. -/
  | solvePhaseEnd (tile : Tile)
  /-- SOLVE_DEADLINE (R186): The solve deadline D is reached and the solve returns its best iterate and enters End. -/
  | solveDeadline (tile : Tile)
  /-- SOLVER_COMPLETION (R191): A solver descriptor completes, writing summary and report and releasing its lend. -/
  | solverCompletion (tile : Tile)
  /-- SV_PIV_THRESH_WRITE (R200): A write of SV_PIV_THRESH takes effect only while the solver is idle. -/
  | svPivThreshWrite (tile : Tile) (value : W64)
  /-- FS_OPEN (R206): The FS_OPEN instruction issues and a speculation window opens in the next cycle, or none opens. -/
  | fsOpen (tile : Tile) (form : IssueForm)
  /-- FS_OPEN_START (R207): The FS_OPEN descriptor starts and is checked; a refused one squashes its window. -/
  | fsOpenStart (tile : Tile)
  /-- HALO_ARRIVAL (R208): ARR_CNT reaching ARR_VAL starts the granule-by-granule compare. -/
  | haloArrival (tile : Tile)
  /-- COMPARE_END (R208): The compare ends and the window resolves as confirm or squash. -/
  | compareEnd (tile : Tile)
  /-- HALO_LATE (R208): WAIT_LIM is reached before arrival and the window squashes with 0x15. -/
  | haloLate (tile : Tile)
  /-- FORCE_SQUASH (R208): A write of FS_CTL.FORCE_SQUASH squashes the open window with 0x16. -/
  | forceSquash (tile : Tile)
  /-- FS_CALDERA_WRITE (R201): A write of FS_CALDERA sets the caldera or is ignored with CFG_IGN. -/
  | fsCalderaWrite (tile : Tile) (value : W64)
  /-- RN_SLOT_LOAD (R228): RN_SLOT_CTL.CMD = 1 loads a stream image into a slot after the waits of R229. -/
  | rnSlotLoad (tile : Tile) (slot : Fin 4) (value : W64)
  /-- RN_SLOT_SAVE (R228): RN_SLOT_CTL.CMD = 2 saves a slot's state to its image. -/
  | rnSlotSave (tile : Tile) (slot : Fin 4) (value : W64)
  /-- RN_SLOT_TRANSFER_DONE (R230): A load or save ends after 2,445 cycles, setting STATUS and incrementing its counter. -/
  | rnSlotTransferDone (tile : Tile) (slot : Fin 4)
  /-- RN_OWNER_WRITE (R229): A write of RN_SLOT_CTL.OWNER takes effect after earlier vx work, fills and windows finish. -/
  | rnOwnerWrite (tile : Tile) (slot : Fin 4) (value : W64)
  /-- RN_FILL_START (R234): RN_FILL_CTL.START starts a fill of random outputs into tile store, or is ignored with FILL_REF. -/
  | rnFillStart (tile : Tile) (value : W64)
  /-- RN_FILL_DONE (R234): A fill ends and increments its counter. -/
  | rnFillDone (tile : Tile)
  /-- COPY (R248): A DMA COPY descriptor starts, moving and optionally hashing rows. -/
  | copy (tile : Tile)
  /-- HASH (R251): A DMA HASH descriptor reads and hashes its source. -/
  | hash (tile : Tile)
  /-- ZERO (R248): A DMA ZERO descriptor writes unpoisoned zero granules. -/
  | zero (tile : Tile)
  /-- DMA_COMPLETION (R250): A DMA descriptor completes after its writes, counted write, flag and digest are acknowledged. -/
  | dmaCompletion (tile : Tile)
  /-- DM_REC_WRITE (R258): A write of DM_REC_ADDR or DM_REC_CTL takes effect only while no window is open. -/
  | dmRecWrite (tile : Tile) (ctl : Bool) (value : W64)
  /-- STACK_REQUEST (R266): A long or narrow stack request is admitted to a channel queue round-robin over sources. -/
  | stackRequest (source : Fin 44) (write : Bool) (long : Bool) (addr : BitVec 40) (len : Fin 33) (data : List Byte) (poison : BitVec 2)
  /-- STACK_ATOMIC (R265): An atomic is performed at the controller as an uninterrupted sector read-modify-write. -/
  | stackAtomic (source : Fin 44) (addr : BitVec 40) (op : AmoOp) (ty : AType) (operand : W64) (compare : W64)
  /-- STACK_READ_RESPONSE (R270): A stack read's data leaves the controller, decoded and classified per granule. -/
  | stackReadResponse (stack : CDie) (channel : Fin 128) (entry : Fin 32)
  /-- STACK_WRITE_ACK (R267): A stack write is acknowledged 24 cycles after it registers. -/
  | stackWriteAck (stack : CDie) (channel : Fin 128)
  /-- REFRESH_WINDOW (R273): At each multiple of tREFI every bank of the package is refreshed in one 294-cycle window. -/
  | refreshWindow
  /-- STACK_TEMP_SAMPLE (R275): Each stack temperature is sampled every 16,384 cycles; the band may rise. -/
  | stackTempSample (stack : CDie) (temp : BitVec 16)
  /-- BAND_FALL_CHECK (R275): At a tick, or every 2^20 cycles without a schedule, the band falls if hysteresis allows. -/
  | bandFallCheck
  /-- LS_CTL_WRITE (R284): A write of LS_CTL sets trip, hysteresis and interrupt, ignoring out-of-range TRIP. -/
  | lsCtlWrite (stack : CDie) (value : W64)
  /-- SCRUB_READ_DUE (R297): Every EC_SCRUB_PERIOD cycles a scrub read falls due for the next window, or LAG counts. -/
  | scrubReadDue
  /-- UNCORRECTABLE_RECORD (R296): The firmware writes at most one rind-log record per bucket per frame for uncorrectable reads. -/
  | uncorrectableRecord (bucket : Fin 60)
  /-- BUCKET_LEAK (R294): Every LEAK-th tick each nonzero bucket of the class loses 1. -/
  | bucketLeak (cls : Fin 2)
  /-- BKT_CFG_WRITE (R295): A write of EC_BKT_CFG sets DEPTH, LEAK and IRQ_EN, dropping levels above a new DEPTH. -/
  | bktCfgWrite (cls : Fin 2) (value : W64)
  /-- BUCKET_CLEAR (R310): EC_BKT_CFG.CLR sets every level of the class to 0. -/
  | bucketClear (cls : Fin 2)
  /-- SCRUB_PERIOD_WRITE (R297): A write of EC_SCRUB_PERIOD sets the scrub period, ignoring values below 2,048. -/
  | scrubPeriodWrite (value : W64)
  /-- PPR_START (R302): EC_PPR.START repairs a stack row onto a run-time spare, or is refused. -/
  | pprStart (value : W64)
  /-- PPR_DONE (R302): A post-package repair ends after 2,100,000 cycles and releases the channel. -/
  | pprDone
  /-- TS_REPAIR_START (R303): EC_TS_REPAIR.START maps a tile-store row onto its bank's spare, or is refused. -/
  | tsRepairStart (value : W64)
  /-- TS_REPAIR_DONE (R303): The 64-cycle tile-store row copy ends and the bank resumes. -/
  | tsRepairDone
  /-- RAW_WRITE (R308): EC_TEST_CTL.CMD = 1 writes data and check bits raw, or is refused. -/
  | rawWrite (value : W64)
  /-- RAW_READ (R308): EC_TEST_CTL.CMD = 2 reads data and check bits raw, or is refused. -/
  | rawRead (value : W64)
  /-- RAW_ACCESS_DONE (R309): A raw access is served after queued requests and BUSY clears. -/
  | rawAccessDone
  /-- LINK_BLOCK_SEND (R313): A link sends its next 50-flit link block, with idle flits when nothing is queued. -/
  | linkBlockSend (link : Link)
  /-- LINK_BLOCK_RECEIVE (R317): A received link block is checked, delivered in SEQ order or discarded, and its credits and acknowledgement applied. -/
  | linkBlockReceive (link : Link) (block : RxBlock)
  /-- LINK_DETECT (R321): A DETECT attempt classifies each lane's far end and leads to ALIGN, HELD or a repeat. -/
  | linkDetect (link : Link) (lane0 : LaneClass) (lane1 : LaneClass) (lane2 : LaneClass) (lane3 : LaneClass)
  /-- LINK_ALIGN (R322): ALIGN locks lanes, corrects polarity and maps lanes, then enters CONFIG. -/
  | linkAlign (link : Link) (lane0 : LaneAlign) (lane1 : LaneAlign) (lane2 : LaneAlign) (lane3 : LaneAlign)
  /-- LINK_ALIGN_TIMEOUT (R320): ALIGN locks no lane within its limit and the link is HELD with ALIGN_TIMEOUT. -/
  | linkAlignTimeout (link : Link)
  /-- LINK_CONFIG (R323): CONFIG agrees the lane set, measures flight and moves to QUALIFY, ACTIVE or HELD. -/
  | linkConfig (link : Link) (peer : PeerConfig)
  /-- LINK_QUALIFY_END (R325): The QUALIFY soak ends; the link enters ACTIVE or HELD. -/
  | linkQualifyEnd (link : Link) (corr0 : BitVec 32) (corr1 : BitVec 32) (corr2 : BitVec 32) (corr3 : BitVec 32) (uncorrectable : Bool)
  /-- LINK_PROBATION_END (R326): After 16,777,216 cycles of probation the link passes or goes DOWN. -/
  | linkProbationEnd (link : Link) (worst : BitVec 32) (uncorrectable : Bool)
  /-- LINK_RETRAIN_TIMEOUT (R320): RETRAIN exceeds its limit or finds no lane and the link goes DOWN. -/
  | linkRetrainTimeout (link : Link) (noLane : Bool)
  /-- LINK_DOWN_END (R320): After 16 cycles in DOWN the link enters DETECT. -/
  | linkDownEnd (link : Link)
  /-- LANE_SHORT (R322): The current sense trips on a lane; its driver is disabled and an ACTIVE link retrains. -/
  | laneShort (link : Link) (lane : Fin 4)
  /-- LANE_LOCK_LOSS (R320): A lane loses lock; LOCK_LOST sets and an ACTIVE link retrains. -/
  | laneLockLoss (link : Link) (lane : Fin 4)
  /-- LINK_RESTART (R327): FL_CTL.RESTART drains the link, sends DOWN_NOTICE and retrains from DETECT, or leaves HELD. -/
  | linkRestart (link : Link) (value : W64)
  /-- LINK_DRAIN_TIMEOUT (R327): Entries still unacknowledged 1,048,576 cycles into a drain are handed back. -/
  | linkDrainTimeout (link : Link)
  /-- FORWARD_PACKET (R332): An F-die forwards a packet by its routing entry's buckets, to its own NI, or answers 0x64. -/
  | forwardPacket (fdie : FDie)
  /-- PACKET_ARRIVAL (R337): A packet registers at its destination NI and is held, delivered late, or discarded as stale. -/
  | packetArrival (fdie : FDie)
  /-- PACKET_RELEASE (R54): The destination NI releases a held packet at STAMP + D and serves it under R339. -/
  | packetRelease (fdie : FDie)
  /-- LOAD (R340): A LOAD request is served from a tile store, stack or replica buffer. -/
  | load (point : Fin 5)
  /-- STORE (R340): A STORE request writes its bytes and, when counted, increments a destination counter. -/
  | store (point : Fin 5)
  /-- FLAG (R345): A FLAG request writes its value, with bit 63 set when tainted. -/
  | flag (point : Fin 5)
  /-- CE_DATA (R370): A CE_DATA store lands collective data and notifies the destination collective engine. -/
  | ceData (point : Fin 5)
  /-- AMO_ADD (R341): AMO_ADD adds the operand and returns the prior value. -/
  | amoAdd (point : Fin 5)
  /-- AMO_MIN (R341): AMO_MIN stores the minimum and returns the prior value. -/
  | amoMin (point : Fin 5)
  /-- AMO_MAX (R341): AMO_MAX stores the maximum and returns the prior value. -/
  | amoMax (point : Fin 5)
  /-- AMO_CAS (R341): AMO_CAS swaps on a bit-equal compare and returns the prior value. -/
  | amoCas (point : Fin 5)
  /-- RECONCILE (R349): A peer NI answers RECONCILE with the last SEQ its receiver delivered on the link. -/
  | reconcile (point : Fin 5)
  /-- CE_TOKEN (R370): A CE_TOKEN (READY, ABORT or BARRIER) is delivered to a collective engine or triggered agent. -/
  | ceToken (point : Fin 5)
  /-- TRACKER_RESPONSE (R342): A response registers at the source tracker, releasing its entry and any waiting requests. -/
  | trackerResponse (tile : Tile)
  /-- TRACKER_TIMEOUT (R352): An entry unanswered by STAMP + D + 2 × T_STALE is released with 0x62. -/
  | trackerTimeout (tile : Tile)
  /-- FLAG_SEND (R344): Once earlier requests complete, a flagged store is sent, sent tainted, or completed with the failing status. -/
  | flagSend (tile : Tile)
  /-- RECONCILE_ANSWER (R350): The RECONCILE answer arrives; delivered blocks are dropped and the rest resent with RESENT = 1. -/
  | reconcileAnswer (link : Link)
  /-- RECONCILE_TIMEOUT (R351): No RECONCILE answer within 1,048,576 cycles makes the peer unreachable. -/
  | reconcileTimeout (link : Link)
  /-- HELD_REQUEST_ANSWER (R351): At STAMP + D + T_STALE a held request to an unreachable peer is answered 0x62. -/
  | heldRequestAnswer (link : Link)
  /-- ROUTE_ENTRY_WRITE (R359): NI_RT_IDX.WRITE writes NI_RT_DATA into a routing entry from the next cycle. -/
  | routeEntryWrite (fdie : FDie) (value : W64)
  /-- ROUTE_ENTRY_READ (R359): NI_RT_IDX.READ loads a routing entry into NI_RT_DATA in 4 cycles. -/
  | routeEntryRead (fdie : FDie) (value : W64)
  /-- NI_CTL_WRITE (R330): A write of NI_CTL sets NODE and STALE_LOG2, ignored while links are up or out of range. -/
  | niCtlWrite (fdie : FDie) (value : W64)
  /-- NI_MAP_WRITE (R359): A write of NI_MAP sets the tile map until the first tile domain leaves OFF. -/
  | niMapWrite (fdie : FDie) (logical : Fin 64) (value : W64)
  /-- NI_REPL_FLIP_WRITE (R357): A write of NI_REPL_FLIP arms a replica flip at AT, or is ignored with REPL_REF. -/
  | niReplFlipWrite (fdie : FDie) (region : Fin 64) (value : W64)
  /-- REPL_FLIP_AT (R357): At GTC AT the region's ACTIVE bit toggles in all four NIs. -/
  | replFlipAt (region : Fin 64)
  /-- ALLREDUCE (R368): An ALLREDUCE starts its fixed sequence of components. -/
  | allreduce (tile : Tile)
  /-- REDUCE_SCATTER (R367): A REDUCE_SCATTER starts on one level or FLAT. -/
  | reduceScatter (tile : Tile)
  /-- ALLGATHER (R370): An ALLGATHER starts on one level or FLAT. -/
  | allgather (tile : Tile)
  /-- BROADCAST (R371): A collective BROADCAST starts from ROOT. -/
  | broadcast (tile : Tile)
  /-- BARRIER (R364): A BARRIER starts by dissemination, optionally advancing the epoch at completion. -/
  | barrier (tile : Tile)
  /-- PERMUTE (R372): A PERMUTE runs its barrier, then sends its table entries. -/
  | permute (tile : Tile)
  /-- COLLECTIVE_PIECE_SEND (R371): At its paced cycle a piece or token is sent, or lateness accrues to CE_STALL. -/
  | collectivePieceSend (agent : Fin 44)
  /-- COLLECTIVE_TIMEOUT (R374): An awaited READY, piece or token exceeds the CE_TIMEOUT bound and the member aborts. -/
  | collectiveTimeout (agent : Fin 44)
  /-- COLLECTIVE_SOFTWARE_ABORT (R374): A write of CE_CTL.ABORT aborts the running collective with reason SOFTWARE. -/
  | collectiveSoftwareAbort (tile : Tile)
  /-- COLLECTIVE_COMPLETION (R371): A collective completes E_last + 32 cycles after its start, writing its summary. -/
  | collectiveCompletion (agent : Fin 44)
  /-- STALE_HOLD_END (R375): T_STALE after an abort the engine may start collectives on that communicator again. -/
  | staleHoldEnd (tile : Tile)
  /-- TRIGGERED_GO (R380): CE_TRIG_CTL.GO starts a triggered-agent slot in the next cycle. -/
  | triggeredGo (slot : Fin 4)
  /-- TRIGGERED_AT (R380): The GTC reaching a nonzero CE_TRIG_AT starts a triggered-agent slot. -/
  | triggeredAt (slot : Fin 4)
  /-- CUT_ORDER (R403): For a triggering step the firmware assigns a generation and posts cut orders to each tile. -/
  | cutOrder (job : Fin 64) (step : W64) (orders : List TileOrder)
  /-- CHECKPOINT_CUT (R404): The tick ending a triggering step is the cut; the CK_FRAMES pause begins. -/
  | checkpointCut (job : Fin 64) (entry : BitVec 48) (entryPlace : Place) (layoutPlace : Place)
  /-- MANIFEST_WRITE (R413): Once every shard is posted and stored, the root writes the manifest to its destinations. -/
  | manifestWrite (job : Fin 64) (others : List Shard) (places : List (BitVec 48)) (rootStatus : Byte)
  /-- CHECKPOINT_DEADLINE (R415): A shard not posted by T_cut + (CK_FRAMES + 8) frames makes the generation 0x82. -/
  | checkpointDeadline (job : Fin 64) (others : List Shard)
  /-- HOST_SHARD_TRANSFER (R411): The firmware moves a posted shard from staging to host storage over Aqord. -/
  | hostShardTransfer (job : Fin 64) (kind : Fin 3) (curd : BitVec 16)
  /-- RESTORE_LOAD_COMPLETE (R419): Restore loading ends; the restore is refused or the epoch, contexts and launch are set. -/
  | restoreLoadComplete (shards : List ShardCheck) (l : W64) (k : W64) (depth : BitVec 8) (sched : Option SchedMsg)
  /-- MANAGEMENT_PERIOD (R422): A management period starts at a tick or every 26,250 cycles and the cores take work by class. -/
  | managementPeriod (started : BitVec 16)
  /-- TELEMETRY_SAMPLE (R509): Every 8 × 2^TELEM_SHIFT periods each counter group is sampled. -/
  | telemetrySample
  /-- MAILBOX_HANDOVER (R429): A host store of OWN = 1 hands a mailbox to the firmware and sets MB_PEND, or is discarded. -/
  | mailboxHandover (mailbox : Fin 64) (port : Fin 2) (seq : BitVec 8) (cmd : BitVec 16) (ifver : BitVec 8) (reqLen : BitVec 16) (tag : W64) (payload : List Byte)
  /-- GET_VERSION (R441): GET_VERSION returns the interface version, N, image hash and beat counts. -/
  | getVersion (mailbox : Fin 64)
  /-- GET_STATUS (R441): GET_STATUS returns MB_STAT and each domain's function state. -/
  | getStatus (mailbox : Fin 64)
  /-- GET_FABRIC_MAP (R441): GET_FABRIC_MAP returns each link's state, width, class, cause and peer. -/
  | getFabricMap (mailbox : Fin 64)
  /-- FUNC_SET (R434): FUNC_SET enables or disables a domain or engine function, latching if in transition. -/
  | funcSet (mailbox : Fin 64)
  /-- FUNC_GET (R441): FUNC_GET returns a function's state and pending bits. -/
  | funcGet (mailbox : Fin 64)
  /-- POWER_CAP (R470): POWER_CAP sets PM_CAP.WATTS from the next sample. -/
  | powerCap (mailbox : Fin 64)
  /-- DORMANT (R473): DORMANT enters the Dormant state, or returns 0x8C while a job is set up. -/
  | dormant (mailbox : Fin 64)
  /-- NODE_SET (R330): NODE_SET writes the node ID to all four NIs, refused while links are up. -/
  | nodeSet (mailbox : Fin 64)
  /-- ROUTE_WRITE (R441): ROUTE_WRITE writes routing entries to all four F-dies. -/
  | routeWrite (mailbox : Fin 64)
  /-- LINK_CTL (R441): LINK_CTL restarts a link or sets its lane mask, width or expected peer. -/
  | linkCtl (mailbox : Fin 64)
  /-- TIME_CTL (R441): TIME_CTL sets the time mode, sync output and cable delay. -/
  | timeCtl (mailbox : Fin 64)
  /-- REPL_SET (R355): REPL_SET writes a replicated-region entry to all four NIs. -/
  | replSet (mailbox : Fin 64)
  /-- REPL_FLIP (R357): REPL_FLIP arms a replica flip at a tick on all four NIs. -/
  | replFlip (mailbox : Fin 64)
  /-- JOB_SETUP (R442): JOB_SETUP checks the layout, runs the reuse test, writes stream images and returns READY_AT and STREAMS_AT. -/
  | jobSetup (mailbox : Fin 64) (agree : Bool)
  /-- SETUP_READY (R442): When READY_AT and STREAMS_AT have passed the firmware posts SETUP_READY. -/
  | setupReady (job : Fin 64)
  /-- JOB_ARM (R443): JOB_ARM arms the root's launch slot and relays the arm by tree broadcast. -/
  | jobArm (mailbox : Fin 64)
  /-- JOB_CANCEL (R443): JOB_CANCEL cancels a launch and relays the cancel by tree broadcast. -/
  | jobCancel (mailbox : Fin 64)
  /-- JOB_END (R441): JOB_END stops the job's tiles at the next tick and releases the context. -/
  | jobEnd (mailbox : Fin 64)
  /-- PREEMPT (R81): PREEMPT requests context switches of named tiles and reports those that reached DONE. -/
  | preempt (mailbox : Fin 64)
  /-- TILE_RESET (R465): TILE_RESET resets or releases named logical tiles. -/
  | tileReset (mailbox : Fin 64)
  /-- CKPT_POLICY (R402): CKPT_POLICY sets a job's checkpoint triggers, pause and destinations. -/
  | ckptPolicy (mailbox : Fin 64)
  /-- RESTORE (R416): RESTORE selects a generation, checks the layout and starts loading shards. -/
  | restore (mailbox : Fin 64) (copies : List (List Byte)) (headers : List (List Byte))
  /-- RESTORE_RESULT (R418): RESTORE_RESULT returns a restore's status and offending shards. -/
  | restoreResult (mailbox : Fin 64)
  /-- TELEM_READ (R510): TELEM_READ returns the latest sample of a counter group. -/
  | telemRead (mailbox : Fin 64)
  /-- RIND_READ (R499): RIND_READ returns up to 62 consecutive rind-log records. -/
  | rindRead (mailbox : Fin 64)
  /-- EVENT_WAIT (R436): EVENT_WAIT holds a mailbox to be filled with queued events. -/
  | eventWait (mailbox : Fin 64)
  /-- EVENT_WAIT_TIMEOUT (R436): TIMEOUT cycles after acknowledgement a held EVENT_WAIT is returned. -/
  | eventWaitTimeout (mailbox : Fin 64)
  /-- ATTEST (R490): ATTEST carries one SPDM request and returns one SPDM response. -/
  | attest (mailbox : Fin 64)
  /-- TILE_MESSAGE_POST (R439): A tile store of T2F with OWN = 1 hands a message to the firmware and sets MB_TILE_PEND. -/
  | tileMessagePost (tile : Tile) (value : W64)
  /-- TILE_MESSAGE_TAKE (R439): The firmware takes a T2F message in the job-control class and returns the slot with STATUS. -/
  | tileMessageTake (tile : Tile) (step : W64) (epoch : BitVec 16)
  /-- F2T_POST (R439): A firmware store of F2T with OWN = 1 sets TC_IPEND.MAILBOX. -/
  | f2tPost (tile : Tile) (kind : BitVec 8) (len : BitVec 8) (seq : BitVec 8)
  /-- F2T_RETURN (R439): The tile returns the F2T slot by storing OWN = 0. -/
  | f2tReturn (tile : Tile) (value : W64)
  /-- MGMT_WATCHDOG (R420): A management core's watchdog fires, logging a record and resetting domain 169 into recovery. -/
  | mgmtWatchdog (core : Fin 8) (periods : BitVec 32)
  /-- MGMT_SRAM_UE (R420): An uncorrectable management SRAM error logs a record and resets domain 169 into recovery. -/
  | mgmtSramUe (offset : BitVec 22)
  /-- AUX_POWER_ON (R447): The aux rail rises; domain 168 reaches ON, reads the fuses and opens the rind log and I3C. -/
  | auxPowerOn (reversed : Bool)
  /-- RAILS_GOOD (R446): All four rails have been within limits for 1 ms with PKG_RESET_N high; cold bring-up begins. -/
  | railsGood
  /-- RAIL_LOSS (R446): The core, SerDes or stack rail leaves its limits; every domain but 168 loses power. -/
  | railLoss (rails : BitVec 3)
  /-- PKG_RESET_PIN (R449): PKG_RESET_N held low for 105 cycles resets every domain but 168. -/
  | pkgResetPin
  /-- PKG_RESET (R449): A write of PM_CTL.PKG_RESET resets every domain but 168. -/
  | pkgReset
  /-- BOOT_IMAGE (R480): BOOT_IMAGE has the boot ROM verify the loaded firmware image and start it or enter recovery. -/
  | bootImage (image : List Byte)
  /-- RENNET_LOAD (R458): The verified rennet image is written to every in-service tile, which checks it and sets RUN. -/
  | rennetLoad (image : Option RennetImage) (badTiles : List Tile)
  /-- TREE_BROADCAST (R460): A package receives a broadcast message, acknowledges the hop and forwards it to its children. -/
  | treeBroadcast (src : Option (BitVec 16)) (msg : BMsg) (children : List (BitVec 16))
  /-- HOP_ACK (R460): A hop acknowledgement registers at the sender. -/
  | hopAck (sender : BitVec 16) (ident : BitVec 32) (named : Option (BitVec 16))
  /-- HOP_ACK_TIMEOUT (R461): No hop acknowledgement within T_ack; the child is failed and its children are adopted. -/
  | hopAckTimeout (child : BitVec 16) (ident : BitVec 32) (orphans : List Orphan)
  /-- ADOPT (R461): An alternate parent receives ADOPT and sends the broadcast to the named package. -/
  | adopt (sender : BitVec 16) (ident : BitVec 32) (named : BitVec 16)
  /-- SUBTREE_REPORT (R462): A package with reports or failures for all children sends its subtree report to its parent. -/
  | subtreeReport (ident : BitVec 32) (child : Option (BitVec 16)) (report : SubReport)
  /-- PM_DOM_EN_WRITE (R467): A write of PM_DOM.EN is an enable or disable request for a power domain. -/
  | pmDomEnWrite (domain : Fin 174) (enable : Bool)
  /-- VX_CTL_EN_WRITE (R170): A write of VX_CTL.EN requests enable or disable of the vector engine. -/
  | vxCtlEnWrite (tile : Tile) (enable : Bool)
  /-- SV_CTL_EN_WRITE (R198): A write of SV_CTL.EN requests enable or disable of the solver engine. -/
  | svCtlEnWrite (tile : Tile) (enable : Bool)
  /-- FS_CTL_EN_WRITE (R222): A write of FS_CTL.EN requests enable or disable of the speculation unit. -/
  | fsCtlEnWrite (tile : Tile) (enable : Bool)
  /-- DM_CTL_EN_WRITE (R255): A write of DM_CTL.EN requests enable or disable of the DMA engine. -/
  | dmCtlEnWrite (tile : Tile) (enable : Bool)
  /-- CE_CTL_EN_WRITE (R379): A write of CE_CTL.EN requests enable or disable of the collective engine. -/
  | ceCtlEnWrite (tile : Tile) (enable : Bool)
  /-- EC_SCRUB_CTL_EN_WRITE (R300): A write of EC_SCRUB_CTL.EN requests enable or disable of the scrubber. -/
  | ecScrubCtlEnWrite (enable : Bool)
  /-- CV_CTL_EN_WRITE (R508): A write of CV_CTL.EN0 or EN1 requests enable or disable of a check-value unit. -/
  | cvCtlEnWrite (tile : Tile) (enable0 : Bool) (enable1 : Bool)
  /-- FUNCTION_STARTING_END (R467): A function's STARTING duration ends; it enters ON, or DRAINING if a disable is latched. -/
  | functionStartingEnd (func : Func) (failed : List FailedLine)
  /-- FUNCTION_DRAINING_END (R467): A function's DRAINING ends; it enters OFF, or STARTING if an enable is latched. -/
  | functionDrainingEnd (func : Func)
  /-- STAGGER_SLOT_GRANT (R468): A 31,500-cycle start slot is granted to the lowest waiting domain among 0–79. -/
  | staggerSlotGrant
  /-- POWER_SAMPLE (R470): Every 1,050 cycles package power is sampled and the cap and thermal target duties are updated. -/
  | powerSample (watts : BitVec 16) (dieMax : BitVec 16) (hotDie : Fin 25)
  /-- DUTY_STEP (R470): D steps by 1 toward the target duty, at most once per 128 cycles. -/
  | dutyStep
  /-- DIE_WARNING (R470): A die sensor reaches DIE_WARN and the thermal duty becomes 2. -/
  | dieWarning (temp : BitVec 16) (die : Fin 25)
  /-- THERMAL_CRITICAL (R472): A die reaches DIE_CRIT or a stack TRIP + 5 °C; THERMTRIP_N asserts and CRIT sets. -/
  | thermalCritical
  /-- FUSE_PROGRAM (R456): PM_FUSE_CTL.PROG programs PM_FUSE_DATA into the next field fuse entry, or is refused. -/
  | fuseProgram
  /-- FUSE_PROGRAM_DONE (R456): Fuse programming ends after 105,000 cycles with the valid fuse blown last. -/
  | fuseProgramDone
  /-- WAKE_PIN (R474): WAKE_N held low for 105 cycles wakes the package from Dormant. -/
  | wakePin
  /-- WAKE_WRITE (R474): A write of PM_CTL.WAKE wakes the package from Dormant. -/
  | wakeWrite
  /-- WAKE_ALARM (R474): The GTC reaching PM_WAKE_AT wakes the package from Dormant. -/
  | wakeAlarm
  /-- WAKE_COMPLETE (R475): The wake sequence ends with FW_READY set, or recovery on a digest mismatch. -/
  | wakeComplete
  /-- MEASUREMENT_EXTEND (R486): SC_EXT_CTL.GO extends a measurement slot 3–7, or is ignored with REFUSED. -/
  | measurementExtend (value : W64)
  /-- LIFECYCLE_SCRAP (R487): A write of SC_LC.SCRAP in RMA moves the lifecycle to SCRAPPED. -/
  | lifecycleScrap
  /-- TAP_INSTRUCTION (R489): A boundary-scan instruction is loaded and served, or acts as BYPASS. -/
  | tapInstruction (instr : TapInstr)
  /-- RIND_RECORD_WRITE (R495): Every 2,100 cycles the writer writes the next queued record and updates the write state. -/
  | rindRecordWrite
  /-- LAST_GASP (R498): The aux rail falls; the log flushes its queue, writes LAST_GASP and stops. -/
  | lastGasp
  /-- BB_WRITE_GO (R495): BB_WR_CTL.GO queues a firmware record, or is held or ignored. -/
  | bbWriteGo (value : W64)
  /-- BB_READ (R499): A write of BB_RD_IDX starts a record read. -/
  | bbRead (value : W64)
  /-- BB_READ_DONE (R499): After 32 cycles BB_RD_DATA holds the record and BUSY clears. -/
  | bbReadDone
  /-- I3C_POINTER_WRITE (R500): A 4-byte I3C private write sets the read pointer. -/
  | i3cPointerWrite (pointer : BitVec 32)
  /-- I3C_WAKE_WRITE (R500): A 5-byte I3C private write to PM_CTL writes PM_CTL.WAKE. -/
  | i3cWakeWrite (pointer : BitVec 32) (data : Byte)
  /-- I3C_PRIVATE_READ (R500): An I3C private read returns bytes from the pointer onward. -/
  | i3cPrivateRead (count : BitVec 16)
  /-- I3C_DYNAMIC_ADDRESS (R500): ENTDAA or SETDASA assigns the I3C dynamic address. -/
  | i3cDynamicAddress (address : BitVec 7)
  /-- I3C_GETSTATUS (R522): GETSTATUS returns the target status with the lane-swap bit. -/
  | i3cGetstatus
  /-- I3C_SWAP_DETECT (R522): At domain 168 start or after bus silence the target checks for and corrects swapped lines. -/
  | i3cSwapDetect (edges : BitVec 16)
  /-- CV_ARM (R501): A CV_ARM descriptor arms a check-value unit on a snoop point, or is refused. -/
  | cvArm (tile : Tile) (unit : Fin 2)
  /-- CV_RECORD_DECISION (R503): 8 cycles after a record's last byte the unit checks its CRC, alive counter and poison. -/
  | cvRecordDecision (tile : Tile) (unit : Fin 2)
  /-- CV_DEADLINE (R505): The GTC reaching DEADLINE completes the armed descriptor. -/
  | cvDeadline (tile : Tile) (unit : Fin 2)
  /-- CV_DISARM (R505): A write of CV_CTL.DISARM completes the unit's armed descriptor. -/
  | cvDisarm (tile : Tile) (unit : Fin 2)
  /-- REGISTER_WRITE (R9): A write of a register field with no row of its own acts by its access code. -/
  | registerWrite (addr : BitVec 48) (value : W64) (core : Bool)
  /-- ADOPT_TIMEOUT (R461): An ADOPT that goes unacknowledged for T_ack makes the sender report the named package's subtree as unreached. -/
  | adoptTimeout (ident : BitVec 32) (named : BitVec 16)
  /-- MEASUREMENT_EXTEND_DONE (R486): The crypto engine finishes an extend of a measurement slot, updates SC_MEAS and clears SC_EXT_CTL.BUSY. -/
  | measurementExtendDone
deriving DecidableEq, Repr

end Sys2Proof
end

