-- ==== Sys2Proof/Decode.lean ====
section
/-! DEFINITION. The command that a word spells by the operation table's bits. No row of spec/opcode_table.json gives any bits,
so no word spells a command. -/
namespace Sys2Proof

/-- The command a word spells: none, since the table gives no row any bits. -/
def decodeTableWord (_nbits _w : Nat) : Option Instr := none

end Sys2Proof
end

