-- ==== Sys2Proof/Machine/Sha3.lean ====
section
/-! DEFINITION. SHA3-256 after FIPS 202 (R251): the Keccak-f[1600] permutation on 25 lanes, lane x + 5y, and the sponge at a rate of
136 bytes. -/
namespace Sys2Proof.Machine

/-- The round constants. -/
def keccakRC : List Nat :=
  [0x0000000000000001, 0x0000000000008082, 0x800000000000808A, 0x8000000080008000, 0x000000000000808B, 0x0000000080000001,
   0x8000000080008081, 0x8000000000008009, 0x000000000000008A, 0x0000000000000088, 0x0000000080008009, 0x000000008000000A]
  ++ [0x000000008000808B, 0x800000000000008B, 0x8000000000008089, 0x8000000000008003, 0x8000000000008002, 0x8000000000000080,
   0x000000000000800A, 0x800000008000000A, 0x8000000080008081, 0x8000000000008080, 0x0000000080000001, 0x8000000080008008]

/-- The rotation of each lane. -/
def keccakRot : List Nat := [0, 1, 62, 28, 27, 36, 44, 6, 55, 20, 3, 10, 43, 25, 39, 41, 45, 15, 21, 8, 18, 2, 61, 56, 14]

/-- A 64-bit value rotated left. -/
def rotl64 (v n : Nat) : Nat := (v * 2 ^ n + v / 2 ^ (64 - n)) % 2 ^ 64

/-- One round. -/
def keccakRound (a : List Nat) (rc : Nat) : List Nat :=
  let c := (List.range 5).map fun x => (List.range 5).foldl (fun m y => m ^^^ a.getD (x + 5 * y) 0) 0
  let a := a.mapIdx fun i v => v ^^^ c.getD ((i + 4) % 5) 0 ^^^ rotl64 (c.getD ((i + 1) % 5) 0) 1
  let b := (List.range 25).map fun i =>
    let s := (i % 5 + 3 * (i / 5)) % 5 + 5 * (i % 5)
    rotl64 (a.getD s 0) (keccakRot.getD s 0)
  (List.range 25).map fun i =>
    let at_ := fun dx => b.getD ((i % 5 + dx) % 5 + 5 * (i / 5)) 0
    let v := at_ 0 ^^^ ((2 ^ 64 - 1 - at_ 1) &&& at_ 2)
    if i = 0 then v ^^^ rc else v

/-- The permutation. -/
def keccakF (a : List Nat) : List Nat := keccakRC.foldl keccakRound a

/-- The lanes of an empty sponge. -/
def keccakZero : List Nat := List.replicate 25 0

/-- A block of 136 bytes enters the sponge. -/
def sha3Block (a : List Nat) (bs : List Byte) : List Nat :=
  keccakF (a.mapIdx fun i v => if i < 17 then v ^^^ leNat ((bs.drop (8 * i)).take 8) else v)

/-- Bytes enter the sponge after those that wait; the rest waits for a whole block. -/
def sha3Absorb : Nat → List Nat → List Byte → List Nat × List Byte
  | 0, a, bs => (a, bs)
  | n + 1, a, bs => if bs.length < 136 then (a, bs) else sha3Absorb n (sha3Block a (bs.take 136)) (bs.drop 136)

/-- The digest of what has been absorbed and the bytes that wait. -/
def sha3Final (a : List Nat) (pend : List Byte) : List Byte :=
  let last := (pend ++ 6 :: List.replicate (135 - pend.length) 0).mapIdx fun i b => if i = 135 then b ||| 0x80 else b
  ((sha3Block a last).take 4).flatMap (leBytes 8)

/-- SHA3-256 of a byte string. -/
def sha3_256 (bs : List Byte) : List Byte :=
  let r := sha3Absorb (bs.length / 136 + 1) keccakZero bs
  sha3Final r.1 r.2

end Sys2Proof.Machine
end

