-- ==== Sys2Proof/Config.lean ====
section
/-! DEFINITION. What an implementation fixes and the spec leaves open: free values. None has a body, so no proof can see its
value and a statement that involves one holds for every value of it. Each is named in the assumption log. -/
namespace Sys2Proof.Config

/-- The clock correction GT_STAT.SLEW that the slewing loop picks for a measured offset (R35, R41 bound it by 10 ppm and do
not give it). DESIGN CHOICE, safe: log entry 6. -/
opaque slew : Int → Nat

/-- The instruction address at which the entry of a job context starts on a tile (R61 names the entry; no rule gives its
address). DESIGN CHOICE, safe: log entry 7. -/
opaque jobEntry : Nat → Nat → Nat

/-- The KIND number, STATUS and flag bits of the records the firmware writes, which the firmware interface specification
defines (Table 21.3). DESIGN CHOICE, safe: log entry 8. -/
opaque fwKind : Nat → Nat

/-- The bytes that a record or an event of a given kind holds for its data, where the spec lists the data without widths or
offsets (Tables 18.4 and 21.3). DESIGN CHOICE, safe: log entry 9. -/
opaque packData : Nat → List Nat → List Byte

/-- What a CV_MISMATCH record holds for the values of a check that its descriptor does not make (Table 21.6 states none). DESIGN CHOICE, safe: log entry 39. -/
opaque cvUnchecked : Nat

/-- A fresh value for a result the spec leaves undefined, chosen by the counter that State holds for it. DESIGN CHOICE, safe: log entry 65. -/
opaque fresh : Nat → Nat → Nat

/-- What domain 168's own oscillator counts in a number of clock cycles, within 1,000 ppm (R496). DESIGN CHOICE, safe: log entry 67. -/
opaque shadowDrift : Nat → Nat

/-- Whether a fused multiply-add of zero, infinity and a quiet NaN raises invalid (IEEE 754-2019 leaves it to the
implementation). DESIGN CHOICE, safe: log entry 66. -/
opaque fmaNanInvalid : Bool

/-- Whether the comparisons less and less-or-equal raise invalid for a quiet NaN (R144 names no predicate). DESIGN CHOICE, safe: log entry 66. -/
opaque lessSignals : Bool

/-! What the control core's instructions give where Table 3.2 names them and states no result. -/

/-- The result of cmp. DESIGN CHOICE, safe: log entry 33. -/
opaque cmpValue : Nat → Nat → Nat

/-- Whether sel picks its first source for a selector value. DESIGN CHOICE, safe: log entry 33. -/
opaque selPicks : Nat → Bool

/-- Whether shr keeps the sign. DESIGN CHOICE, safe: log entry 33. -/
opaque shrArith : Bool

/-- The result of a shift by 64 or more: left (true) or right, the value and the count. DESIGN CHOICE, safe: log entry 33. -/
opaque shiftOver : Bool → Nat → Nat → Nat

/-- Whether mulh reads its sources as signed. DESIGN CHOICE, safe: log entry 33. -/
opaque mulhSigned : Bool

/-- Whether div and rem read their sources as signed. DESIGN CHOICE, safe: log entry 33. -/
opaque divSigned : Bool

/-- The quotient or remainder (true) for a divisor of zero or a quotient that passes the range. DESIGN CHOICE, safe: log entry 33. -/
opaque divCorner : Bool → Nat → Nat → Nat

/-- Whether a branch condition code holds for two values. DESIGN CHOICE, safe: log entry 33. -/
opaque condHolds : Nat → Nat → Nat → Bool

/-- Whether an access of a size at an address that is no multiple of the size counts as misaligned. DESIGN CHOICE, safe: log entry 33. -/
opaque misaligned : Nat → Nat → Bool

/-- The bits above a narrow load's bytes in its destination, for a size and the loaded value. DESIGN CHOICE, safe: log entry 33. -/
opaque loadUpper : Nat → Nat → Nat

/-- The results of sv.perm on two registers, and of sv.cvt with the flags it raises. DESIGN CHOICE, safe: log entry 33. -/
opaque svPerm : Nat → Nat → Nat

opaque svCvt : Nat → Nat → Nat

opaque svCvtFlags : Nat → Nat → Nat

/-- The FP32 value that a CG or BiCGSTAB vector update forms from a, x and y for y + a × x: R182 names the methods and no rule says
whether the update is fused. DESIGN CHOICE, safe: log entry 30. -/
opaque axpy : Nat → Nat → Nat → Nat

/-! The crypto engine (R477, R480, R483). FIPS 204 is not part of the spec, and the fused secrets are each package's own. -/

/-- Whether a signature verifies under a public key: key, message, signature. DESIGN CHOICE, safe: log entry 49. -/
opaque mldsaVerify : List Byte → List Byte → List Byte → Bool

/-- The signature of a message under the key pair that a 32-byte seed gives. DESIGN CHOICE, safe: log entry 49. -/
opaque mldsaSign : List Byte → List Byte → List Byte

/-- The public key of the key pair that a 32-byte seed gives. DESIGN CHOICE, safe: log entry 49. -/
opaque mldsaPublic : List Byte → List Byte

/-- The unique device secret. DESIGN CHOICE, safe: log entry 49. -/
opaque uds : List Byte

/-- The hash fused in a key slot, as a 256-bit number. DESIGN CHOICE, safe: log entry 49. -/
opaque keyHash : Nat → Nat

/-- The 64-byte header of a rennet image (R457 gives no offsets): FORMAT, the two lengths, the entry PC and the digest. DESIGN CHOICE, safe: log entry 49. -/
opaque rennetHeader : Nat → Nat → Nat → Nat → List Byte → List Byte

/-- The certificate chain of SPDM slot 0 (R484): the certificates written at manufacture, and the Alias certificate over slot 0, slot 1 and the Alias
public key. DESIGN CHOICE, safe: log entry 49. -/
opaque certChain : List Byte → List Byte → List Byte → List Byte

/-- The DMTF value type of the measurement of a slot, which Table 20.4 does not give. DESIGN CHOICE, safe: log entry 60. -/
opaque measType : Nat → Nat

end Sys2Proof.Config
end

