-- ==== Sys2Proof/Machine/Float.lean ====
section
/-! DEFINITION. Floating-point arithmetic after IEEE 754-2019 on exact dyadic numbers (R68, R96, R151 to R156): every operation
computes its exact value and rounds it once. Flag bits: 0 invalid, 1 divide by zero, 2 overflow, 3 underflow, 4 inexact, as
TC_FCSR.FLAGS. -/
namespace Sys2Proof.Machine

/-- The floating-point formats (Table 6.2). -/
inductive Fmt where
  | fp16 | bf16 | fp32 | fp64 | e4m3 | e5m2
deriving DecidableEq, Repr

/-- Exponent bits. -/
def Fmt.ew : Fmt → Nat
  | .fp16 => 5 | .bf16 => 8 | .fp32 => 8 | .fp64 => 11 | .e4m3 => 4 | .e5m2 => 5

/-- Fraction bits. -/
def Fmt.mw : Fmt → Nat
  | .fp16 => 10 | .bf16 => 7 | .fp32 => 23 | .fp64 => 52 | .e4m3 => 3 | .e5m2 => 2

/-- Width in bits. -/
def Fmt.bits (f : Fmt) : Nat := f.ew + f.mw + 1

/-- The exponent of the unit in the last place of subnormal numbers. -/
def Fmt.q0 (f : Fmt) : Int := 2 - (2 : Int) ^ (f.ew - 1) - f.mw

/-- The canonical quiet NaN (R151). -/
def Fmt.nan : Fmt → Nat
  | .fp16 => 0x7E00 | .bf16 => 0x7FC0 | .fp32 => 0x7FC00000 | .fp64 => 0x7FF8000000000000 | .e4m3 => 0x7F | .e5m2 => 0x7E

/-- The largest finite encoding without its sign. -/
def Fmt.maxMag : Fmt → Nat
  | .e4m3 => 0x7E
  | f => (2 ^ f.ew - 1) * 2 ^ f.mw - 1

/-- The sign bit in place. -/
def Fmt.sgn (f : Fmt) (neg : Bool) : Nat := if neg then 2 ^ (f.ew + f.mw) else 0

/-- Infinity with a sign; E4M3 has none, and its overflow encodings stand here (R153). -/
def Fmt.inf (f : Fmt) (neg : Bool) : Nat := f.sgn neg + (f.maxMag + 1)

/-- What an encoding means: a NaN, an infinity, or (−1)^neg · m · 2^e. -/
inductive FV where
  | nan (signaling : Bool)
  | inf (neg : Bool)
  | fin (neg : Bool) (m : Nat) (e : Int)
deriving DecidableEq, Repr

/-- The meaning of an encoding. -/
def Fmt.decode (f : Fmt) (b : Nat) : FV :=
  let neg := testB b (f.ew + f.mw)
  let ex := (b >>> f.mw) % 2 ^ f.ew
  let fr := b % 2 ^ f.mw
  if f = .e4m3 then
    if ex = 15 ∧ fr = 7 then .nan false
    else if ex = 0 then .fin neg fr f.q0 else .fin neg (8 + fr) (f.q0 + ex - 1)
  else if ex = 2 ^ f.ew - 1 then
    if fr = 0 then .inf neg else .nan (!testB fr (f.mw - 1))
  else if ex = 0 then .fin neg fr f.q0
  else .fin neg (2 ^ f.mw + fr) (f.q0 + ex - 1)

/-- A rounding: to nearest with ties to even, toward zero, up, down, or stochastic with a 32-bit draw (R154). -/
inductive RMode where
  | ne | tz | up | dn
  | stoch (r : Nat)
deriving DecidableEq, Repr

/-- The rounding that a code of TC_FCSR.RM selects. -/
def RMode.ofCode (c : Nat) : RMode := match c % 4 with | 0 => .ne | 1 => .tz | 2 => .up | _ => .dn

/-- m · 2^e in units of 2^q after rounding, and whether the rounding changed it. -/
def roundAt (rm : RMode) (neg : Bool) (m : Nat) (e q : Int) : Nat × Bool :=
  if q ≤ e then (m * 2 ^ (e - q).toNat, false)
  else
    let d := 2 ^ (q - e).toNat
    let k := m / d
    let r := m % d
    let away := match rm with
      | .ne => decide (d < 2 * r ∨ (2 * r = d ∧ k % 2 = 1))
      | .tz => false
      | .up => decide (r ≠ 0) && !neg
      | .dn => decide (r ≠ 0) && neg
      | .stoch x => decide (2 ^ 32 ≤ r * 2 ^ 32 / d + x % 2 ^ 32)
    (if away then k + 1 else k, decide (r ≠ 0))

/-- An overflow rounds to the largest finite magnitude and not to infinity. -/
def overflowToMax (rm : RMode) (neg : Bool) : Bool :=
  match rm with
  | .tz => true
  | .up => neg
  | .dn => !neg
  | _ => false

/-- (−1)^neg · m · 2^e rounded once to a format, with its flags; tininess is detected after rounding (R151). `sat` holds an
overflow at the largest finite value (R153). -/
def Fmt.round (f : Fmt) (rm : RMode) (sat : Bool) (neg : Bool) (m : Nat) (e : Int) : Nat × Nat :=
  if m = 0 then (f.sgn neg, 0)
  else
    let top : Int := e + Nat.log2 m
    let q := max (top - f.mw) f.q0
    let (k, inexact) := roundAt rm neg m e q
    let mag := k + (q - f.q0).toNat * 2 ^ f.mw
    if f.maxMag < mag then
      (if sat || overflowToMax rm neg then f.sgn neg + f.maxMag else f.inf neg, 4 + 16)
    else
      let free := (roundAt rm neg m e (top - f.mw)).1
      let tiny := decide ((if free = 2 ^ (f.mw + 1) then top + 1 else top) < f.q0 + f.mw)
      (f.sgn neg + mag, if inexact then (if tiny then 8 + 16 else 16) else 0)

/-- An exact dyadic number n · 2^e. -/
structure Dy where
  n : Int
  e : Int
deriving DecidableEq, Repr

/-- Zero. -/
def Dy.zero : Dy := ⟨0, 0⟩

/-- The exact sum. -/
def Dy.add (a b : Dy) : Dy :=
  if a.n = 0 then b else if b.n = 0 then a
  else
    let e := min a.e b.e
    ⟨a.n * 2 ^ (a.e - e).toNat + b.n * 2 ^ (b.e - e).toNat, e⟩

/-- The exact product. -/
def Dy.mul (a b : Dy) : Dy := ⟨a.n * b.n, a.e + b.e⟩

/-- The exact negation. -/
def Dy.neg (a : Dy) : Dy := ⟨-a.n, a.e⟩

/-- a < b. -/
def Dy.lt (a b : Dy) : Bool := decide ((a.add b.neg).n < 0)

/-- a ≤ b. -/
def Dy.le (a b : Dy) : Bool := decide ((a.add b.neg).n ≤ 0)

/-- An integer as a dyadic number. -/
def Dy.ofInt (n : Int) : Dy := ⟨n, 0⟩

/-- The dyadic number of a finite value. -/
def dyOf (neg : Bool) (m : Nat) (e : Int) : Dy := ⟨if neg then -(m : Int) else m, e⟩

/-- A dyadic number rounded once; `zneg` is the sign of an exact zero. -/
def Fmt.roundDy (f : Fmt) (rm : RMode) (zneg : Bool) (d : Dy) : Nat × Nat :=
  f.round rm false (if d.n = 0 then zneg else decide (d.n < 0)) d.n.natAbs d.e

/-- The flags of NaN operands: invalid when one is signaling. -/
def nanFlags (l : List FV) : Nat := if l.any (fun v => match v with | .nan true => true | _ => false) then 1 else 0

/-- A value is a NaN. -/
def FV.isNan : FV → Bool
  | .nan _ => true
  | _ => false

/-- A value is zero. -/
def FV.isZero : FV → Bool
  | .fin _ 0 _ => true
  | _ => false

/-- A value is an infinity. -/
def FV.isInf : FV → Bool
  | .inf _ => true
  | _ => false

/-- The sign of a value. -/
def FV.neg : FV → Bool
  | .nan _ => false
  | .inf n => n
  | .fin n _ _ => n

/-- A value with the other sign. -/
def FV.negate : FV → FV
  | .nan s => .nan s
  | .inf n => .inf !n
  | .fin n m e => .fin (!n) m e

/-- The exact product of two values: none for infinity times zero. -/
def FV.mul : FV → FV → Option FV
  | .nan s, _ => some (.nan s)
  | _, .nan s => some (.nan s)
  | .inf n, b => if b.isZero then none else some (.inf (n != b.neg))
  | a, .inf n => if a.isZero then none else some (.inf (n != a.neg))
  | .fin n m e, .fin n' m' e' => some (.fin (n != n') (m * m') (e + e'))

/-- The sum of two values that are no NaN, rounded to `f`. -/
def Fmt.addV (f : Fmt) (rm : RMode) (a b : FV) : Nat × Nat :=
  match a, b with
  | .inf n, .inf n' => if n = n' then (f.inf n, 0) else (f.nan, 1)
  | .inf n, _ => (f.inf n, 0)
  | _, .inf n => (f.inf n, 0)
  | .fin n m e, .fin n' m' e' =>
    f.roundDy rm (if n = n' then n else decide (rm = .dn)) ((dyOf n m e).add (dyOf n' m' e'))
  | _, _ => (f.nan, 0)

/-- a + b. -/
def Fmt.add (f : Fmt) (rm : RMode) (a b : Nat) : Nat × Nat :=
  let x := f.decode a
  let y := f.decode b
  if x.isNan || y.isNan then (f.nan, nanFlags [x, y]) else f.addV rm x y

/-- a − b. -/
def Fmt.sub (f : Fmt) (rm : RMode) (a b : Nat) : Nat × Nat :=
  let x := f.decode a
  let y := f.decode b
  if x.isNan || y.isNan then (f.nan, nanFlags [x, y]) else f.addV rm x y.negate

/-- A value rounded to `f`. -/
def Fmt.ofFV (f : Fmt) (rm : RMode) (sat : Bool) : FV → Nat × Nat
  | .nan s => (f.nan, if s then 1 else 0)
  | .inf n => (f.inf n, 0)
  | .fin n m e => f.round rm sat n m e

/-- a × b, read in format `g` and rounded to `f`. -/
def Fmt.mulFrom (f g : Fmt) (rm : RMode) (a b : Nat) : Nat × Nat :=
  let x := g.decode a
  let y := g.decode b
  if x.isNan || y.isNan then (f.nan, nanFlags [x, y])
  else match x.mul y with
    | none => (f.nan, 1)
    | some v => f.ofFV rm false v

/-- a × b. -/
def Fmt.mul (f : Fmt) (rm : RMode) (a b : Nat) : Nat × Nat := f.mulFrom f rm a b

/-- a × b + c, rounded once. Whether zero times infinity plus a quiet NaN raises invalid is the implementation's (IEEE
754-2019, 7.2). -/
def Fmt.fma (f : Fmt) (rm : RMode) (a b c : Nat) : Nat × Nat :=
  let x := f.decode a
  let y := f.decode b
  let z := f.decode c
  if x.isNan || y.isNan then (f.nan, nanFlags [x, y, z])
  else match x.mul y with
    | none => (f.nan, if z.isNan then (if Config.fmaNanInvalid then 1 else nanFlags [z]) else 1)
    | some v => if z.isNan then (f.nan, nanFlags [z]) else f.addV rm v z

/-- a ÷ b. -/
def Fmt.div (f : Fmt) (rm : RMode) (a b : Nat) : Nat × Nat :=
  match f.decode a, f.decode b with
  | .nan s, y => (f.nan, nanFlags [.nan s, y])
  | x, .nan s => (f.nan, nanFlags [x, .nan s])
  | .inf n, y => if y.isInf then (f.nan, 1) else (f.inf (n != y.neg), 0)
  | .fin n _ _, .inf n' => (f.sgn (n != n'), 0)
  | .fin n m e, .fin n' m' e' =>
    if m' = 0 then (if m = 0 then (f.nan, 1) else (f.inf (n != n'), 2))
    else if m = 0 then (f.sgn (n != n'), 0)
    else
      let sh := f.mw + 3 + Nat.log2 m'
      let num := m * 2 ^ sh
      f.round rm false (n != n') (2 * (num / m') + (if num % m' = 0 then 0 else 1)) (e - e' - sh - 1)

/-- The bits of a square root from bit `k` down. -/
def isqrtFrom (n : Nat) : Nat → Nat → Nat
  | 0, r => r
  | k + 1, r => isqrtFrom n k (if (r + 2 ^ k) * (r + 2 ^ k) ≤ n then r + 2 ^ k else r)

/-- The integer square root. -/
def isqrt (n : Nat) : Nat := isqrtFrom n (Nat.log2 n / 2 + 1) 0

/-- The square root of m · 2^e for m above zero, rounded to `f`. -/
def Fmt.sqrtPos (f : Fmt) (rm : RMode) (m : Nat) (e : Int) : Nat × Nat :=
  let sh := 2 * (f.mw + 3) + (if (e - 2 * (f.mw + 3)) % 2 = 0 then 0 else 1)
  let v := m * 2 ^ sh
  let r := isqrt v
  f.round rm false false (2 * r + (if r * r = v then 0 else 1)) ((e - sh) / 2 - 1)

/-- √a. -/
def Fmt.sqrt (f : Fmt) (rm : RMode) (a : Nat) : Nat × Nat :=
  match f.decode a with
  | .nan s => (f.nan, nanFlags [.nan s])
  | .inf n => if n then (f.nan, 1) else (f.inf false, 0)
  | .fin n m e => if m = 0 then (f.sgn n, 0) else if n then (f.nan, 1) else f.sqrtPos rm m e

/-- The order of two values that are no NaN; −0 equals +0. -/
def FV.cmp (a b : FV) : Ordering :=
  match a, b with
  | .inf n, .inf n' => if n = n' then .eq else if n then .lt else .gt
  | .inf n, _ => if n then .lt else .gt
  | _, .inf n => if n then .gt else .lt
  | .fin n m e, .fin n' m' e' =>
    let d := ((dyOf n m e).add (dyOf n' m' e').neg).n
    if d < 0 then .lt else if d = 0 then .eq else .gt
  | _, _ => .eq

/-- a lies below b in the order of minimum and maximum, in which −0 is below +0 (R151). -/
def FV.below (a b : FV) : Bool := a.cmp b == .lt || (a.cmp b == .eq && a.neg && !b.neg)

/-- The IEEE 754-2019 minimum. -/
def Fmt.min (f : Fmt) (a b : Nat) : Nat × Nat :=
  let x := f.decode a
  let y := f.decode b
  if x.isNan || y.isNan then (f.nan, nanFlags [x, y]) else (if y.below x then b else a, 0)

/-- The IEEE 754-2019 maximum. -/
def Fmt.max (f : Fmt) (a b : Nat) : Nat × Nat :=
  let x := f.decode a
  let y := f.decode b
  if x.isNan || y.isNan then (f.nan, nanFlags [x, y]) else (if x.below y then b else a, 0)

/-- A comparison: 0 equal, 1 not equal, 2 less, 3 less or equal. Less and less-or-equal may signal invalid for a quiet NaN: the
spec names no predicate of IEEE 754-2019, so that is free. -/
def Fmt.compare (f : Fmt) (fn a b : Nat) : Bool × Nat :=
  let x := f.decode a
  let y := f.decode b
  if x.isNan || y.isNan then
    (fn % 4 == 1, if 2 ≤ fn % 4 ∧ Config.lessSignals then 1 else nanFlags [x, y])
  else
    let o := x.cmp y
    (match fn % 4 with | 0 => o == .eq | 1 => o != .eq | 2 => o == .lt | _ => o != .gt, 0)

/-- A value of format `g` converted to format `f` (R153); `sat` is VX_CTL.SAT8 for the FP8 targets. -/
def Fmt.convert (f g : Fmt) (rm : RMode) (sat8 : Bool) (a : Nat) : Nat × Nat :=
  let fp8 := f == .e4m3 || f == .e5m2
  match g.decode a with
  | .nan s => (f.nan, nanFlags [.nan s])
  | .inf n => if f = .e4m3 then (if sat8 then f.sgn n + f.maxMag else f.inf n, 1) else (f.inf n, 0)
  | .fin n m e => f.round rm (fp8 && sat8) n m e

/-- A signed integer converted to a format (R153). -/
def Fmt.ofInt (f : Fmt) (rm : RMode) (sat8 : Bool) (x : Int) : Nat × Nat :=
  f.round rm ((f == .e4m3 || f == .e5m2) && sat8) (decide (x < 0)) x.natAbs 0

/-- A value of format `g` converted to a signed integer of `w` bits, saturating; a NaN gives 0 (R153). -/
def Fmt.toInt (g : Fmt) (rm : RMode) (w a : Nat) : Nat × Nat :=
  match g.decode a with
  | .nan _ => (0, 1)
  | .inf n => (if n then 2 ^ (w - 1) else 2 ^ (w - 1) - 1, 1)
  | .fin n m e =>
    let (k, inexact) := roundAt rm n m e 0
    let v : Int := if n then -(k : Int) else k
    if v < -(2 : Int) ^ (w - 1) then (2 ^ (w - 1), 1)
    else if (2 : Int) ^ (w - 1) ≤ v then (2 ^ (w - 1) - 1, 1)
    else (ofSigned w v, if inexact then 16 else 0)

end Sys2Proof.Machine
end

