-- ==== Sys2Proof/Machine/Codes.lean ====
section
/-! DEFINITION. The codes of the spec: the field GF(2^8) and the RS(18,16) stack code (R285), the (72,64) code of the tile
stores (R291), and CRC-32C (R251). -/
namespace Sys2Proof.Machine

/-- Multiplication by α = 0x02 in GF(2^8) with field polynomial 0x11D (R285). -/
def gfTimes2 (a : Nat) : Nat := let d := 2 * (a % 256); if d < 256 then d else d ^^^ 0x11D

/-- `n` steps of multiplication in GF(2^8). -/
def gfMulN : Nat → Nat → Nat → Nat
  | 0, _, _ => 0
  | n + 1, a, b => (if b % 2 = 1 then a else 0) ^^^ gfMulN n (gfTimes2 a) (b / 2)

/-- Multiplication in GF(2^8). -/
def gfMul (a b : Nat) : Nat := gfMulN 8 (a % 256) (b % 256)

/-- α^n in GF(2^8). -/
def gfAlpha : Nat → Nat
  | 0 => 1
  | n + 1 => gfTimes2 (gfAlpha n)

/-- a^(2^n - 2) by repeated squaring, from the accumulated power. -/
def gfInvN : Nat → Nat → Nat
  | 0, _ => 1
  | n + 1, a => let q := gfMul a a; gfMul q (gfInvN n q)

/-- The inverse in GF(2^8): a^254 is the product of a^2, a^4, …, a^128. -/
def gfInv (a : Nat) : Nat := gfInvN 7 a

/-- The symbol of data line `l` in a codeword of 16 bytes: its bit b is bit l of beat b (R260, R285). -/
def lineSymbol (cw : List Byte) (l : Nat) : Nat :=
  (List.range 8).foldl (fun m b => m + (bitOf (leNat ((cw.drop (2 * b)).take 2)) l) * 2 ^ b) 0

/-- The check symbols that give a codeword of 16 data bytes the roots 1 and α, check line 0 in the low byte (R285). -/
def rsCheck (cw : List Byte) : Nat :=
  let a := (List.range 16).foldl (fun x l => x ^^^ lineSymbol cw l) 0
  let b := (List.range 16).foldl (fun x l => x ^^^ gfMul (lineSymbol cw l) (gfAlpha (l + 2))) 0
  let c1 := gfMul (a ^^^ b) (gfInv 3)
  (a ^^^ c1) + 256 * c1

/-- How a codeword decodes on its own (R286). -/
inductive CwClass where
  | clean | single (p : Nat) | other
deriving DecidableEq, Repr

/-- The class of a codeword with syndromes S0 and S1: single at p when S1 / S0 = α^p for a position p up to 17 (R286). -/
def cwClass (s0 s1 : Nat) : CwClass :=
  if s0 = 0 ∧ s1 = 0 then .clean
  else if s0 = 0 then .other
  else match (List.range 18).find? fun p => gfMul s0 (gfAlpha p) == s1 with
    | some p => .single p
    | none => .other

/-- The syndromes of a codeword whose stored check symbols differ from the right ones by `diff`. -/
def diffSyn (diff : Nat) : Nat × Nat :=
  ((diff % 256) ^^^ (diff / 256), (diff % 256) ^^^ gfTimes2 (diff / 256))

/-- The check-symbol difference that gives the syndromes (S0, S1). -/
def synDiff (s0 s1 : Nat) : Nat := let c1 := gfMul (s0 ^^^ s1) (gfInv 3); (s0 ^^^ c1) + 256 * c1

/-- The poison marks m_0 to m_3 (R289). -/
def poisonMark (w : Nat) : Nat := match w % 4 with | 0 => 0xA5 | 1 => 0x5A | 2 => 0xC3 | _ => 0x3C

/-- The bytes of a codeword with the error value `e` removed at symbol position `p`; positions 0 and 1 are check lines and
carry no data (R285). -/
def fixSymbol (cw : List Byte) (p e : Nat) : List Byte :=
  if p < 2 then cw
  else cw.mapIdx fun k x =>
    let b := k / 2
    let l := p - 2
    if testB e b ∧ l / 8 = k % 2 then BitVec.ofNat 8 (x.toNat ^^^ 2 ^ (l % 8)) else x

/-- The columns of data bits 0 to 63 of the tile-store code (R291). -/
def hsiaoColumns : List Nat :=
  [0x07, 0x0B, 0x0D, 0x0E, 0x13, 0x15, 0x16, 0x19, 0x1A, 0x1C, 0x23, 0x25, 0x26, 0x29, 0x2A, 0x2C, 0x31, 0x32,
   0x34, 0x38, 0x43, 0x45, 0x46, 0x49, 0x4A, 0x4C, 0x51, 0x52, 0x54, 0x58, 0x61, 0x62, 0x64, 0x68, 0x70, 0x83,
   0x85, 0x86, 0x89, 0x8A, 0x8C, 0x91, 0x92, 0x94, 0x98, 0xA1, 0xA2, 0xA4, 0xA8, 0xB0, 0xC1, 0xC2, 0xC4, 0xC8,
   0xD0, 0xE0]
  ++ [0x1F, 0x2F, 0x37, 0x3B, 0x3D, 0x3E, 0x4F, 0x57]

/-- The check bits of a 64-bit word: the xor of the columns of its set bits (R291). -/
def hsiaoCheck (w : Nat) : Nat :=
  (hsiaoColumns.foldl (fun (m : Nat × Nat) c => (if m.2 % 2 = 1 then m.1 ^^^ c else m.1, m.2 / 2)) (0, w)).1

/-- How a tile-store word decodes from its syndrome (R291): clean, a data bit to flip, a bad check bit, or uncorrectable. -/
inductive WordClass where
  | clean | dataBit (b : Nat) | checkBit | uncorrectable
deriving DecidableEq, Repr

/-- The class of a tile-store word with syndrome `syn` (R291). -/
def wordClass (syn : Nat) : WordClass :=
  if syn = 0 then .clean
  else match hsiaoColumns.findIdx? (· == syn) with
    | some b => .dataBit b
    | none => if (List.range 8).any fun j => 2 ^ j == syn then .checkBit else .uncorrectable

/-- One bit of a reflected CRC. -/
def crcBit (poly c : Nat) : Nat := if c % 2 = 1 then (c / 2) ^^^ poly else c / 2

/-- `n` bits of a reflected CRC. -/
def crcBits (poly : Nat) : Nat → Nat → Nat
  | 0, c => c
  | n + 1, c => crcBits poly n (crcBit poly c)

/-- The running CRC-32C over bytes: polynomial 0x1EDC_6F41 reflected, before the final xor (R251). -/
def crc32cRun (c : Nat) (bs : List Byte) : Nat := bs.foldl (fun c b => crcBits 0x82F63B78 8 (c ^^^ b.toNat)) c

/-- CRC-32C of bytes: initial value and final xor 0xFFFF_FFFF (R251). -/
def crc32c (bs : List Byte) : Nat := crc32cRun 0xFFFFFFFF bs ^^^ 0xFFFFFFFF

end Sys2Proof.Machine
end

