-- ==== Sys2Proof/Machine/Sparse.lean ====
section
/-! DEFINITION. Sparse data by key in one canonical form: a list of (key, value) pairs whose key numbers strictly rise and
whose values differ from what an unlisted key reads as. `num` numbers the keys, `dflt` gives what an unlisted key reads as.
Equal contents are equal lists, because a write of the unlisted value removes the entry. -/
namespace Sys2Proof.Machine

/-- The value at `k`; an unlisted key reads as `dflt k`. -/
def sget {κ α : Type} (num : κ → Nat) (dflt : κ → α) : List (κ × α) → κ → α
  | [], k => dflt k
  | (k', v) :: t, k => if num k' = num k then v else sget num dflt t k

/-- The list with the entry (k, v) in its place among rising key numbers. -/
def sins {κ α : Type} (num : κ → Nat) : List (κ × α) → κ → α → List (κ × α)
  | [], k, v => [(k, v)]
  | (k', v') :: t, k, v =>
    if num k < num k' then (k, v) :: (k', v') :: t
    else if num k' = num k then (k, v) :: t
    else (k', v') :: sins num t k v

/-- The list with `k` holding `v`: the unlisted value leaves no entry. -/
def sput {κ α : Type} [DecidableEq α] (num : κ → Nat) (dflt : κ → α) (l : List (κ × α)) (k : κ) (v : α) : List (κ × α) :=
  if v = dflt k then l.filter (fun e => num e.1 != num k) else sins num l k v

/-- Every listed key number is above `n`, strictly rising, and no value is the unlisted one. -/
def swfFrom {κ α : Type} [DecidableEq α] (num : κ → Nat) (dflt : κ → α) : Option Nat → List (κ × α) → Bool
  | _, [] => true
  | lo, (k, v) :: t =>
    (match lo with | none => true | some n => decide (n < num k)) && !decide (v = dflt k) && swfFrom num dflt (some (num k)) t

/-- The canonical form. -/
def swf {κ α : Type} [DecidableEq α] (num : κ → Nat) (dflt : κ → α) (l : List (κ × α)) : Bool := swfFrom num dflt none l

/-- A sparse map on numbers whose unlisted keys hold nothing. -/
abbrev NMap (α : Type) := List (Nat × Option α)

/-- What a number-keyed map holds at `k`, if anything. -/
def NMap.find {α : Type} (m : NMap α) (k : Nat) : Option α := sget id (fun _ => none) m k

/-- A number-keyed map with `k` holding `v` (`none` removes the entry). -/
def NMap.put {α : Type} [DecidableEq α] (m : NMap α) (k : Nat) (v : Option α) : NMap α := sput id (fun _ => none) m k v

/-- A number-keyed map of lists: an unlisted key holds the empty list. -/
abbrev LMap (α : Type) := List (Nat × List α)

/-- The list held at `k`. -/
def LMap.at {α : Type} (m : LMap α) (k : Nat) : List α := sget id (fun _ => []) m k

/-- The map with the list `l` at `k`. -/
def LMap.set {α : Type} [DecidableEq α] (m : LMap α) (k : Nat) (l : List α) : LMap α := sput id (fun _ => []) m k l

end Sys2Proof.Machine
end

