-- ==== Sys2Proof/Machine/Fields.lean ====
section
/-! DEFINITION. Every software-visible register field of the package: the names, widths, access codes and reset values
of the "Bits | Field | Access | Reset | Meaning" tables (Tables 2.8, 3.7, 4.9, 5.8, 6.9, 7.9, 8.6, 9.5, 10.9, 11.5, 12.3,
13.6, 14.10, 15.11, 18.10, 19.7, 20.6, 21.9 and 21.11). A field of register REG named F is the constructor REG_F; the two
bucket-class registers EC_BKT_CFG_STK and EC_BKT_CFG_TS share the constructors EC_BKT_CFG_* (instance 0 and 1), and the
mailbox fields MB_*_X stand once for T2F and once for F2T. A field is named together with two instance numbers: i is the
block (tile, stack, link or F-die number; 0 for a package-level block), j the entry inside the block (slot, counter, lane,
domain, word; 0 where there is one). -/
namespace Sys2Proof.Machine

/-- The register fields of the spec, in the order of its tables. -/
inductive Fld where
  -- chapter 02
  | GT_CTL_MODE
  | GT_CTL_SYNC_OUT_EN
  | GT_CTL_OVR_IRQ
  | GT_STAT_LOCKED
  | GT_STAT_HOLDOVER
  | GT_STAT_LOCK_LOST
  | GT_STAT_HOPS
  | GT_STAT_SLEW
  | GT_STAT_OFFSET
  | GT_TIME_VALUE
  | GT_FRAME_LEN_LEN
  | GT_FRAME_BASE_BASE
  | GT_FRAME_NUM_BASE_NUM
  | GT_FRAME_CTL_ARM
  | GT_FRAME_CTL_PEND
  | GT_FRAME_CTL_REFUSED
  | GT_FRAME_CUR_LEN
  | GT_FRAME_NUM_NUM
  | GT_TICK_NEXT_VALUE
  | GT_CABLE_DLY_DLY
  | GT_FSTAT_REF_STALL_MAX
  | GT_FSTAT_TBAND
  | GT_FSTAT_LINK_CHG
  | GT_FSTAT_UNLOCKED
  | GT_FSTAT_LATE_REL
  | GT_FSTAT_RETRY_EVT
  | GT_FSTAT_RETRY_MAX
  | GT_FSTAT_THROTTLED
  | GT_FSTAT_MAINT
  | GT_OVR_CNT_COUNT
  | GT_OVR_MASK_TILES
  | GT_REF_STALL_MAX
  | GT_LAUNCH_AT_L
  | GT_LAUNCH_CUTOFF_K
  | GT_LAUNCH_CTL_JOB
  | GT_LAUNCH_CTL_STATE
  | GT_LAUNCH_CTL_ARM
  | GT_LAUNCH_CTL_CANCEL
  | GT_LAUNCH_CTL_TOO_LATE
  | GT_LAUNCH_CTL_RELEASE
  | GT_LAUNCH_CTL_WITH_SCHED
  | GT_TILE_DONE
  | GT_TILE_OPEN
  | GT_TILE_LATE
  -- chapter 03
  | TC_CAPS_VBEATS
  | TC_CAPS_VREGBITS
  | TC_CAPS_ISAVER
  | TC_CAPS_IMEM_KIB
  | TC_CAPS_DMEM_KIB
  | TC_CAPS_QDEPTH_LOG2
  | TC_CAPS_CVU
  | TC_ID_PHYS
  | TC_ID_LOGICAL
  | TC_ID_NODE
  | TC_CTL_RUN
  | TC_CTL_STEP
  | TC_STAT_RUNNING
  | TC_STAT_INEXC
  | TC_STAT_DFAULT
  | TC_STAT_SPEC
  | TC_TVEC_VEC
  | TC_EPC_PC
  | TC_EXC_CAUSE
  | TC_EXC_STATUS
  | TC_EXC_DEFERRED
  | TC_EXC_FPC
  | TC_EXC_ADDR_ADDR
  | TC_IEN_SRC
  | TC_IPEND_SRC
  | TC_FCSR_RM
  | TC_FCSR_FLAGS
  | TC_FCSR_TRAPEN
  | TC_CYCLE_COUNT
  | TC_WDOG_FRAMES
  | TC_WDOG_FIRED
  | TC_PREEMPT_REQ
  | TC_PREEMPT_PENDING
  | TC_PREEMPT_DONE
  | TC_PREEMPT_DEFERRED
  | TC_CTX_ADDR_ADDR
  | TC_QSTAT_OCC
  | TC_CNT_VALUE
  | TC_SUM0_STATUS
  | TC_SUM0_ENGINE
  | TC_SUM0_SPEC
  | TC_SUM0_TAG
  | TC_SUM0_GTC_LO
  | TC_SUM1_VAL0
  | TC_SUM2_VAL1
  | TC_SUM3_CYCLES
  -- chapter 04
  | MX_CAPS_ROWS
  | MX_CAPS_COLS
  | MX_CAPS_PHYS_SPARE
  | MX_CAPS_SPARE_USED
  | MX_CAPS_INT4X2
  | MX_CAPS_SLICED
  | MX_STAT_BUSY
  | MX_STAT_PIECE_WAIT
  | MX_STAT_SPEC_HOLD
  | MX_STAT_BANK_HELD
  | MX_STAT_BANK_SPEC
  | MX_STAT_LAST_STATUS
  | MX_STAT_LAST_TAG
  | MX_BUSY_CYC_COUNT
  | MX_MAC_CNT_COUNT
  | MX_STALL_PIECE
  | MX_STALL_SPEC
  | MX_STALL_BANK_BANK
  | MX_SPARE_MAP_PCOL
  | MX_SPARE_MAP_VALID
  | MX_BIST_START
  | MX_BIST_RUNNING
  | MX_BIST_DONE
  | MX_BIST_FAIL
  | MX_BIST_FAIL_COL
  | MX_ACC_ERR_CORR
  | MX_ACC_ERR_UNCORR
  -- chapter 05
  | SL_CAPS_MAX_S
  | SL_CAPS_FFMT_MASK
  | SL_CAPS_STRICT
  | SL_CAPS_RS_KIB
  | SL_STAT_PHASE
  | SL_STAT_LAST_SA
  | SL_STAT_LAST_SB
  | SL_STAT_LAST_W64
  | SL_STAT_LAST_MS
  | SL_STAT_LAST_PAIRS
  | SL_PASSES_COUNT
  | SL_PREP_CYC_COUNT
  | SL_MODE_CNT_FAST
  | SL_MODE_CNT_STRICT
  | SL_EXC_CNT_NONFIN_OUT
  | SL_EXC_CNT_LIMIT
  | SL_RS_ERR_CORR
  | SL_RS_ERR_UNCORR
  | SL_DMAX_DMAX
  -- chapter 06
  | VX_CAPS_BEATS
  | VX_CAPS_SLICES
  | VX_CAPS_REGS
  | VX_CAPS_TREGS
  | VX_CAPS_LACC
  | VX_CAPS_REGBITS
  | VX_CTL_EN
  | VX_CTL_SAT8
  | VX_STAT_FSTATE
  | VX_STAT_PEND_EN
  | VX_STAT_PEND_DIS
  | VX_STAT_BUSY
  | VX_STAT_SPEC_HOLD
  | VX_STAT_LENT
  | VX_STAT_VL_CLIP
  | VX_STAT_IDX_OOR
  | VX_STAT_POISON
  | VX_STAT_QOCC
  | VX_VTYPE_VL
  | VX_VTYPE_SEW
  | VX_FCSR_RM
  | VX_FCSR_FLAGS
  | VX_RNSEL_STREAM
  | VX_BUSY_CYC_COUNT
  | VX_STALL_SPEC
  | VX_STALL_DEP
  | VX_ERR_CORR
  | VX_ERR_UNCORR
  | VX_ERR_IDX_SKIP
  | VX_ERR_OFF_DISCARD
  -- chapter 07
  | SV_CAPS_HANDLES
  | SV_CAPS_METHODS
  | SV_CAPS_LDLT
  | SV_CAPS_PRECONDS
  | SV_CAPS_MAX_N
  | SV_CTL_EN
  | SV_STAT_FSTATE
  | SV_STAT_PEND_EN
  | SV_STAT_PEND_DIS
  | SV_STAT_BUSY
  | SV_STAT_LEND_WAIT
  | SV_STAT_SPEC_HOLD
  | SV_STAT_PHASE
  | SV_STAT_LAST_STATUS
  | SV_STAT_LAST_TAG
  | SV_PIV_THRESH_TAU
  | SV_PIV_CNT_COUNT
  | SV_DL_CNT_ITERATE
  | SV_DL_CNT_FACTOR
  | SV_BUSY_CYC_COUNT
  | SV_ERR_CORR
  | SV_ERR_UNCORR
  | SV_ERR_OVF
  | SV_HSTAT_VALID
  | SV_HSTAT_KIND
  | SV_HSTAT_FACT
  | SV_HSTAT_VPOIS
  | SV_HSTAT_N
  | SV_HSTAT_NONF
  | SV_HBASE_BASE
  -- chapter 08
  | FS_CAPS_MAX_UNITS
  | FS_CAPS_TOL
  | FS_CTL_EN
  | FS_CTL_FORCE_SQUASH
  | FS_STAT_FSTATE
  | FS_STAT_PEND_EN
  | FS_STAT_PEND_DIS
  | FS_STAT_WIN
  | FS_STAT_CFG_IGN
  | FS_STAT_LAST_STATUS
  | FS_STAT_LAST_TAG
  | FS_CALDERA_BASE
  | FS_CALDERA_SIZE
  | FS_RES_CONFIRM
  | FS_RES_SQUASH
  | FS_MISMATCH_OFFSET
  | FS_MISMATCH_COUNT
  | FS_FENCE_REFUSED
  | FS_FENCE_WRITTEN
  -- chapter 09
  | RN_CAPS_SLOTS
  | RN_CAPS_LANES
  | RN_CAPS_LAG_LONG
  | RN_CAPS_LAG_SHORT
  | RN_STAT_BOUND
  | RN_STAT_BUSY
  | RN_STAT_OWNER_ERR
  | RN_STAT_UNBOUND_ERR
  | RN_STAT_FILL_REF
  | RN_SLOT_ADDR_ADDR
  | RN_SLOT_CTL_CMD
  | RN_SLOT_CTL_OWNER
  | RN_SLOT_CTL_CNT
  | RN_SLOT_CTL_STATUS
  | RN_SLOT_CTL_STATE
  | RN_SLOT_CTL_POISON
  | RN_SLOT_POS_POS
  | RN_SLOT_KEY_KEY
  | RN_SLOT_KEY_MODE
  | RN_SLOT_KEY_JOB
  | RN_FILL_ADDR_ADDR
  | RN_FILL_CTL_COUNT
  | RN_FILL_CTL_SLOT
  | RN_FILL_CTL_CNT
  | RN_FILL_CTL_START
  | RN_FILL_CTL_BUSY
  | RN_DRAWS_COUNT
  | RN_ERR_OWNER
  | RN_ERR_UNBOUND
  | RN_ERR_CORR
  | RN_ERR_UNCORR
  -- chapter 10
  | DM_CAPS_BUF_KIB
  | DM_CAPS_POOL_GRAN
  | DM_CAPS_SHA3
  | DM_CAPS_CRC32C
  | DM_CTL_EN
  | DM_STAT_FSTATE
  | DM_STAT_PEND_EN
  | DM_STAT_PEND_DIS
  | DM_STAT_BUSY
  | DM_STAT_CHAIN_OPEN
  | DM_STAT_SPEC_HOLD
  | DM_STAT_LAST_STATUS
  | DM_STAT_LAST_TAG
  | DM_REC_ADDR_ADDR
  | DM_REC_CTL_EN
  | DM_REC_CTL_MASK
  | DM_REC_CTL_FULL
  | DM_REC_CTL_LIMIT
  | DM_REC_CTL_COUNT
  | DM_BYTES_COUNT
  | DM_POOL_WAIT_DMA
  | DM_POOL_WAIT_CORE
  | DM_ERR_FAILED
  | DM_ERR_POISONED
  | DM_ERR_REFUSED
  -- chapter 11
  | LS_CAPS_CHANNELS
  | LS_CAPS_BANKS
  | LS_CAPS_ROWS
  | LS_CAPS_CAP_GIB
  | LS_CAPS_LINES
  | LS_CTL_TRIP
  | LS_CTL_HYST
  | LS_CTL_THROT_IRQ
  | LS_STAT_FSTATE
  | LS_STAT_PEND_EN
  | LS_STAT_PEND_DIS
  | LS_STAT_BAND
  | LS_STAT_PBAND
  | LS_STAT_SELFREF
  | LS_STAT_THROTTLE
  | LS_STAT_TRIPPED
  | LS_STAT_TRAIN_FAIL
  | LS_STAT_LINES_MASKED
  | LS_STAT_INIT_DONE
  | LS_STAT_REPAIR
  | LS_TEMP_CUR
  | LS_TEMP_MAX
  | LS_REF_WINDOWS
  | LS_REF_TREFI
  | LS_TRAFFIC_BURSTS
  | LS_NARROW_SECTORS
  | LS_NARROW_RMW
  | LS_CHFAIL0_CH
  | LS_CHFAIL1_CH
  -- chapter 12
  | EC_CAPS_STK_SPARE_ROWS
  | EC_CAPS_PPR_ROWS
  | EC_CAPS_SPARE_COLGRP
  | EC_CAPS_TS_SPARE_ROWS
  | EC_CAPS_BUCKETS
  | EC_BKT_CFG_DEPTH
  | EC_BKT_CFG_LEAK
  | EC_BKT_CFG_CLR
  | EC_BKT_CFG_IRQ_EN
  | EC_BKT_OVF_BKT
  | EC_LAST_CE_ADDR
  | EC_LAST_CE_BKT
  | EC_LAST_CE_POS
  | EC_LAST_UE_ADDR
  | EC_LAST_UE_BKT
  | EC_LAST_UE_MARK
  | EC_SCRUB_CTL_EN
  | EC_SCRUB_CTL_FSTATE
  | EC_SCRUB_CTL_PEND_EN
  | EC_SCRUB_CTL_PEND_DIS
  | EC_SCRUB_PERIOD_CYCLES
  | EC_SCRUB_STAT_POS
  | EC_SCRUB_STAT_PASSES
  | EC_SCRUB_STAT_LAG
  | EC_PPR_STACK
  | EC_PPR_CH
  | EC_PPR_BANK
  | EC_PPR_ROW
  | EC_PPR_START
  | EC_PPR_BUSY
  | EC_PPR_LEFT
  | EC_PPR_STATUS
  | EC_TS_REPAIR_TILE
  | EC_TS_REPAIR_BANK
  | EC_TS_REPAIR_ROW
  | EC_TS_REPAIR_START
  | EC_TS_REPAIR_BUSY
  | EC_TS_REPAIR_STATUS
  | EC_TEST_CTL_TARGET
  | EC_TEST_CTL_CMD
  | EC_TEST_CTL_BUSY
  | EC_TEST_CTL_POISON
  | EC_TEST_CTL_STATUS
  | EC_TEST_ADDR_ADDR
  | EC_TEST_CHK0_CHK
  | EC_TEST_CHK1_CHK
  | EC_BKT_LEVEL
  | EC_BKT_CORR
  | EC_BKT_UNCORR
  | EC_TEST_DATA_DATA
  -- chapter 13
  | FL_CTL_RESTART
  | FL_CTL_PEER_CHK
  | FL_CTL_IRQ_EN
  | FL_CTL_MAX_W
  | FL_CTL_LANE_MASK
  | FL_STAT_STATE
  | FL_STAT_WIDTH
  | FL_STAT_PROBATION
  | FL_STAT_CAUSE
  | FL_STAT_CHG
  | FL_STAT_TRAINS
  | FL_LANE_USED
  | FL_LANE_RX_POL_INV
  | FL_LANE_OPEN
  | FL_LANE_SHORT
  | FL_LANE_DRIVER
  | FL_LANE_LOCK_LOST
  | FL_LANE_LOGICAL
  | FL_PEER_NODE
  | FL_PEER_FDIE
  | FL_PEER_PORT
  | FL_PEER_VALID
  | FL_PEER_EXP_NODE
  | FL_PEER_EXP_FDIE
  | FL_PEER_EXP_PORT
  | FL_LAT_FLIGHT
  | FL_LAT_CLASS
  | FL_LAT_RT
  | FL_FEC_CORR_BITS
  | FL_FEC_UNCORR_CW
  | FL_FEC_UNCORR_CRC
  | FL_RETRY_EVENTS
  | FL_RETRY_LAST_FRAME
  | FL_QUAL_WORST
  | FL_QUAL_WORST_LANE
  | FL_QUAL_PASS
  | FL_QUAL_POSTFEC_FAIL
  | FL_QUAL_WIDTH
  | FL_BLOCKS_PAYLOAD
  | FL_CAPS_LINKS
  | FL_CAPS_LANES
  | FL_CAPS_REPLAY
  | FL_CAPS_INGRESS_KIB
  | FL_UP_ACTIVE
  | FL_UP_HELD
  -- chapter 14
  | NI_CAPS_RT_LOG2
  | NI_CAPS_CAND
  | NI_CAPS_REPL
  | NI_CAPS_MAP
  | NI_CAPS_TRACKER
  | NI_CTL_NODE
  | NI_CTL_STALE_LOG2
  | NI_STAT_RT_BUSY
  | NI_STAT_RECON_PEND
  | NI_STAT_HELD
  | NI_STAT_REPL_REF
  | NI_RT_IDX_INDEX
  | NI_RT_IDX_WRITE
  | NI_RT_IDX_READ
  | NI_RT_DATA_ENTRY
  | NI_RESET_TILES
  | NI_ERR_STALE
  | NI_ERR_TTL
  | NI_ERR_NO_ROUTE
  | NI_ERR_REFUSED
  | NI_RECON_COUNT
  | NI_RECON_UNREACH
  | NI_RECON_RESENT
  | NI_LATE_COUNT
  | NI_RECON_SEQ_SEQ
  | NI_RECON_SEQ_VALID
  | NI_MAP_PHYS
  | NI_MAP_VALID
  | NI_REPL_HOME_NODE
  | NI_REPL_HOME_BASE
  | NI_REPL_SIZE_UNITS
  | NI_REPL_SIZE_VALID
  | NI_REPL_SIZE_ACTIVE
  | NI_REPL_SIZE_FLIP_PEND
  | NI_REPL_BUF_BUF0
  | NI_REPL_BUF_BUF1
  | NI_REPL_FLIP_AT
  -- chapter 15
  | CE_CAPS_COMMS
  | CE_CAPS_LEVELS
  | CE_CAPS_TREE
  | CE_CAPS_TRIG
  | CE_CAPS_ADD_BPC
  | CE_CTL_EN
  | CE_CTL_ABORT
  | CE_STAT_FSTATE
  | CE_STAT_PEND_EN
  | CE_STAT_PEND_DIS
  | CE_STAT_BUSY
  | CE_STAT_SPEC_HOLD
  | CE_STAT_STALE_HOLD
  | CE_STAT_LAST_STATUS
  | CE_STAT_LAST_TAG
  | CE_STAT_CUR_COMM
  | CE_STAT_CUR_SEQ
  | CE_TIMEOUT_FRAMES
  | CE_EPOCH_EPOCH
  | CE_STALL_L0
  | CE_STALL_L1
  | CE_STALL_L2
  | CE_CNT_DONE
  | CE_CNT_ABORTS
  | CE_CNT_LATE
  | CE_ABORT_REASON
  | CE_ABORT_COMM
  | CE_ABORT_SEQ
  | CE_ABORT_MEMBER
  | CE_TRIG_CTL_OPC
  | CE_TRIG_CTL_COMM
  | CE_TRIG_CTL_DTYPE
  | CE_TRIG_CTL_ROP
  | CE_TRIG_CTL_FLAT
  | CE_TRIG_CTL_LVL_MASK
  | CE_TRIG_CTL_ALG
  | CE_TRIG_CTL_GO
  | CE_TRIG_CTL_STATE
  | CE_TRIG_CTL_STATUS
  | CE_TRIG_CTL_ROOT
  | CE_TRIG_AT_AT
  | CE_TRIG_DATA_DATA
  -- chapter 18
  | MB_CAPS_HOST_MBOX
  | MB_CAPS_TILE_MBOX
  | MB_CAPS_MBOX_BYTES
  | MB_CTL_HOST_NOTIFY
  | MB_PORT_MAP_PORT
  | MB_STAT_BUSY
  | MB_STAT_TELEM_SHIFT
  | MB_STAT_FW_READY
  | MB_STAT_IFVER_MAJOR
  | MB_STAT_IFVER_MINOR
  | MB_OWN_OWN
  | MB_PEND_PEND
  | MB_TILE_PEND_TILES
  | MB_ACK_MAX_CYCLES
  | MB_VIOL_HOST_WR
  | MB_VIOL_PORT
  | MB_VIOL_FW_WR
  | MB_T2F_CTL_OWN
  | MB_F2T_CTL_OWN
  | MB_T2F_CTL_KIND
  | MB_F2T_CTL_KIND
  | MB_T2F_CTL_LEN
  | MB_F2T_CTL_LEN
  | MB_T2F_CTL_SEQ
  | MB_F2T_CTL_SEQ
  | MB_T2F_CTL_STATUS
  | MB_F2T_CTL_STATUS
  | MB_T2F_DATA_DATA
  | MB_F2T_DATA_DATA
  -- chapter 19
  | PM_CAPS_DOMAINS
  | PM_CAPS_FUSE_ENTRIES
  | PM_CTL_PKG_RESET
  | PM_CTL_WAKE
  | PM_CTL_CAP_IRQ
  | PM_CTL_THERM_IRQ
  | PM_STAT_PSTATE
  | PM_STAT_RAILS_OK
  | PM_STAT_CRIT
  | PM_STAT_LAST_RESET
  | PM_STAT_BOOT_FAILS
  | PM_STAT_CAP_FRAMES
  | PM_READY_JOB_READY
  | PM_READY_FW
  | PM_READY_STACKS
  | PM_READY_TIME
  | PM_READY_RENNET
  | PM_READY_N
  | PM_READY_LINKS_ACTIVE
  | PM_READY_LINKS_HELD
  | PM_READY_MIN_TILES
  | PM_CAP_WATTS
  | PM_POWER_INST
  | PM_POWER_AVG
  | PM_POWER_PEAK
  | PM_THROT_DUTY
  | PM_THROT_BY_CAP
  | PM_THROT_BY_DIE
  | PM_THROT_BY_STACK
  | PM_THROT_CYCLES
  | PM_TRIP_DIE_WARN
  | PM_TRIP_DIE_CRIT
  | PM_TRIP_HYST
  | PM_TEMP_DIE_MAX
  | PM_TEMP_HOT_DIE
  | PM_TEMP_PEAK
  | PM_DORM_AQ0_ON
  | PM_DORM_AQ1_ON
  | PM_DORM_CRYPTO_ON
  | PM_DORM_WAKE_HOST_EN
  | PM_DORM_WAKE_PIN_EN
  | PM_DORM_WAKE_I3C_EN
  | PM_DORM_WAKE_ALARM_EN
  | PM_DORM_LAST_WAKE
  | PM_WAKE_AT_AT
  | PM_DORM_DIGEST_DIGEST
  | PM_FUSE_CTL_USED
  | PM_FUSE_CTL_PROG
  | PM_FUSE_CTL_BUSY
  | PM_FUSE_CTL_STATUS
  | PM_FUSE_DATA_KIND
  | PM_FUSE_DATA_TILE
  | PM_FUSE_DATA_STACK
  | PM_FUSE_DATA_CH
  | PM_FUSE_DATA_BANK
  | PM_FUSE_DATA_ROW
  | PM_FUSE_DATA_COLUMN
  | PM_DOM_EN
  | PM_DOM_FSTATE
  | PM_DOM_PEND_EN
  | PM_DOM_PEND_DIS
  | PM_DOM_SLOT_WAIT
  -- chapter 20
  | SC_CAPS_KEY_SLOTS
  | SC_CAPS_MEAS_SLOTS
  | SC_CAPS_SVN_MAX
  | SC_LC_STATE
  | SC_LC_DEBUG
  | SC_LC_SCRAP
  | SC_LC_REVOKED
  | SC_LC_SLOT_BLANK
  | SC_LC_SVN_FUSED
  | SC_BOOT_KEY_SLOT
  | SC_BOOT_SVN
  | SC_BOOT_DEBUG_ALLOW
  | SC_BOOT_VERIFIED
  | SC_BOOT_LAST_STATUS
  | SC_EXT_CTL_SLOT
  | SC_EXT_CTL_GO
  | SC_EXT_CTL_BUSY
  | SC_EXT_CTL_REFUSED
  | SC_EXT_DATA_DATA
  | SC_OPS_VERIFY
  | SC_OPS_SIGN
  | SC_OPS_EXTEND
  | SC_MEAS_VALUE
  -- chapter 21
  | BB_CAPS_RECORDS_LOG2
  | BB_CAPS_SEALED
  | BB_CTL_DROP_IRQ
  | BB_STAT_SEAL_USED
  | BB_STAT_WRAPPED
  | BB_STAT_QOCC
  | BB_STAT_LAST_GASP
  | BB_STAT_DROPPED
  | BB_HEAD_IDX
  | BB_SEQ_NEXT
  | BB_WR_CTL_KIND
  | BB_WR_CTL_STATUS
  | BB_WR_CTL_FATAL
  | BB_WR_CTL_REDACT
  | BB_WR_CTL_GO
  | BB_WR_CTL_BUSY
  | BB_WR_DATA_DATA
  | BB_WR_GTC_GTC
  | BB_RD_IDX_IDX
  | BB_RD_IDX_BUSY
  | BB_RD_DATA_DATA
  | CV_CAPS_UNITS
  | CV_CAPS_POINTS
  | CV_CTL_EN0
  | CV_CTL_EN1
  | CV_CTL_DISARM0
  | CV_CTL_DISARM1
  | CV_STAT_FSTATE
  | CV_STAT_PEND_EN
  | CV_STAT_PEND_DIS
  | CV_STAT_ARMED
  | CV_STAT_SPEC_HOLD
  | CV_STAT_LAST_STATUS
  | CV_STAT_LAST_TAG
  | CV_STAT_RECORD
  | CV_ALIVE_LAST
  | CV_CNT_RECORDS
  | CV_CNT_MISMATCH
  | CV_CNT_POISON
deriving DecidableEq, Repr

/-- The register access codes of Table 0.1 (R9). -/
inductive Access where
  | ro | rw | w1c | wo | rws
deriving DecidableEq, Repr

/-- The width of a field in bits, from the Bits column of its table. -/
def Fld.width : Fld → Nat
  | .GT_CTL_MODE | .GT_FSTAT_TBAND | .TC_FCSR_RM | .MX_STAT_BANK_HELD | .MX_STAT_BANK_SPEC | .VX_STAT_FSTATE 
  | .VX_FCSR_RM | .SV_STAT_FSTATE | .SV_HSTAT_FACT | .FS_STAT_FSTATE | .FS_STAT_WIN | .RN_SLOT_CTL_CMD 
  | .RN_SLOT_CTL_STATE | .RN_FILL_CTL_SLOT | .DM_STAT_FSTATE | .LS_STAT_FSTATE | .LS_STAT_BAND | .LS_STAT_PBAND 
  | .EC_CAPS_PPR_ROWS | .EC_CAPS_SPARE_COLGRP | .EC_CAPS_TS_SPARE_ROWS | .EC_SCRUB_CTL_FSTATE | .EC_PPR_LEFT 
  | .EC_TEST_CTL_CMD | .FL_LANE_LOGICAL | .FL_PEER_FDIE | .FL_PEER_EXP_FDIE | .FL_LAT_CLASS | .FL_QUAL_WORST_LANE 
  | .CE_CAPS_LEVELS | .CE_STAT_FSTATE | .CE_TRIG_CTL_ROP | .CE_TRIG_CTL_STATE | .PM_DOM_FSTATE | .SC_LC_STATE 
  | .SC_BOOT_KEY_SLOT | .CV_STAT_FSTATE => 2
  | .GT_STAT_HOPS | .GT_LAUNCH_CTL_JOB | .TC_ID_PHYS | .TC_ID_LOGICAL | .VX_STAT_QOCC | .RN_SLOT_KEY_JOB 
  | .EC_LAST_CE_BKT | .EC_LAST_UE_BKT | .EC_TS_REPAIR_TILE | .EC_TEST_CTL_TARGET | .NI_MAP_PHYS | .PM_READY_N 
  | .PM_READY_MIN_TILES | .PM_FUSE_DATA_TILE => 6
  | .GT_STAT_SLEW | .GT_STAT_OFFSET | .GT_FSTAT_RETRY_MAX | .TC_CAPS_IMEM_KIB | .TC_CAPS_DMEM_KIB | .TC_EXC_CAUSE 
  | .TC_EXC_STATUS | .TC_PREEMPT_DEFERRED | .TC_SUM0_STATUS | .MX_CAPS_ROWS | .MX_STAT_LAST_STATUS 
  | .SL_CAPS_FFMT_MASK | .VX_CAPS_REGS | .VX_RNSEL_STREAM | .SV_STAT_LAST_STATUS | .FS_CAPS_MAX_UNITS 
  | .FS_STAT_LAST_STATUS | .FS_CALDERA_BASE | .FS_CALDERA_SIZE | .RN_CAPS_LANES | .RN_SLOT_CTL_STATUS 
  | .DM_CAPS_POOL_GRAN | .DM_STAT_LAST_STATUS | .LS_CAPS_CHANNELS | .LS_CAPS_BANKS | .LS_CAPS_CAP_GIB 
  | .LS_CAPS_LINES | .LS_CTL_TRIP | .EC_CAPS_BUCKETS | .EC_PPR_STATUS | .EC_TS_REPAIR_STATUS | .EC_TEST_CTL_STATUS 
  | .FL_LAT_FLIGHT | .FL_RETRY_LAST_FRAME | .FL_CAPS_LINKS | .NI_CAPS_REPL | .NI_CAPS_MAP | .CE_STAT_LAST_STATUS 
  | .CE_STAT_CUR_COMM | .CE_TIMEOUT_FRAMES | .CE_ABORT_REASON | .CE_ABORT_COMM | .CE_TRIG_CTL_OPC 
  | .CE_TRIG_CTL_COMM | .CE_TRIG_CTL_STATUS | .MB_CAPS_HOST_MBOX | .MB_CAPS_TILE_MBOX | .MB_STAT_IFVER_MAJOR 
  | .MB_STAT_IFVER_MINOR | .MB_T2F_CTL_KIND | .MB_F2T_CTL_KIND | .MB_T2F_CTL_SEQ | .MB_F2T_CTL_SEQ 
  | .MB_T2F_CTL_STATUS | .MB_F2T_CTL_STATUS | .PM_CAPS_DOMAINS | .PM_STAT_LAST_RESET | .PM_TRIP_DIE_WARN 
  | .PM_TRIP_DIE_CRIT | .PM_FUSE_CTL_STATUS | .SC_CAPS_SVN_MAX | .SC_BOOT_LAST_STATUS | .BB_WR_CTL_STATUS 
  | .CV_STAT_LAST_STATUS => 8
  | .GT_TIME_VALUE | .GT_FRAME_BASE_BASE | .GT_FRAME_NUM_BASE_NUM | .GT_FRAME_NUM_NUM | .GT_TICK_NEXT_VALUE 
  | .GT_LAUNCH_AT_L | .GT_LAUNCH_CUTOFF_K | .TC_EXC_ADDR_ADDR | .TC_CYCLE_COUNT | .TC_SUM1_VAL0 | .TC_SUM2_VAL1 
  | .MX_BUSY_CYC_COUNT | .MX_MAC_CNT_COUNT | .SL_PASSES_COUNT | .SL_PREP_CYC_COUNT | .VX_BUSY_CYC_COUNT 
  | .SV_BUSY_CYC_COUNT | .RN_SLOT_POS_POS | .RN_DRAWS_COUNT | .DM_BYTES_COUNT | .LS_TRAFFIC_BURSTS 
  | .LS_CHFAIL0_CH | .LS_CHFAIL1_CH | .EC_TEST_CHK0_CHK | .EC_TEST_CHK1_CHK | .EC_TEST_DATA_DATA 
  | .FL_BLOCKS_PAYLOAD | .NI_RT_DATA_ENTRY | .NI_REPL_FLIP_AT | .CE_TRIG_AT_AT | .CE_TRIG_DATA_DATA 
  | .MB_PORT_MAP_PORT | .MB_OWN_OWN | .MB_PEND_PEND | .MB_TILE_PEND_TILES | .MB_T2F_DATA_DATA | .MB_F2T_DATA_DATA 
  | .PM_WAKE_AT_AT | .PM_DORM_DIGEST_DIGEST | .SC_EXT_DATA_DATA | .SC_MEAS_VALUE | .BB_WR_DATA_DATA 
  | .BB_WR_GTC_GTC | .BB_RD_DATA_DATA => 64
  | .GT_FRAME_LEN_LEN | .GT_FRAME_CUR_LEN | .GT_OVR_MASK_TILES | .GT_REF_STALL_MAX | .TC_QSTAT_OCC 
  | .NI_RESET_TILES => 40
  | .GT_CABLE_DLY_DLY | .GT_FSTAT_REF_STALL_MAX | .GT_FSTAT_RETRY_EVT | .TC_CAPS_VREGBITS | .TC_ID_NODE 
  | .TC_WDOG_FRAMES | .TC_SUM0_TAG | .MX_STAT_LAST_TAG | .MX_ACC_ERR_CORR | .MX_ACC_ERR_UNCORR | .SL_CAPS_RS_KIB 
  | .SL_EXC_CNT_LIMIT | .SL_RS_ERR_CORR | .SL_RS_ERR_UNCORR | .VX_CAPS_REGBITS | .VX_ERR_CORR | .VX_ERR_UNCORR 
  | .VX_ERR_IDX_SKIP | .VX_ERR_OFF_DISCARD | .SV_STAT_LAST_TAG | .SV_ERR_CORR | .SV_ERR_UNCORR | .SV_ERR_OVF 
  | .FS_STAT_LAST_TAG | .RN_ERR_OWNER | .RN_ERR_UNBOUND | .RN_ERR_CORR | .RN_ERR_UNCORR | .DM_CAPS_BUF_KIB 
  | .DM_STAT_LAST_TAG | .DM_REC_CTL_LIMIT | .DM_REC_CTL_COUNT | .DM_ERR_FAILED | .DM_ERR_POISONED 
  | .DM_ERR_REFUSED | .LS_CAPS_ROWS | .LS_TEMP_CUR | .LS_TEMP_MAX | .LS_REF_TREFI | .EC_BKT_CFG_DEPTH 
  | .EC_BKT_CFG_LEAK | .EC_SCRUB_STAT_LAG | .EC_BKT_LEVEL | .FL_STAT_TRAINS | .FL_PEER_NODE | .FL_PEER_EXP_NODE 
  | .FL_LAT_RT | .FL_CAPS_INGRESS_KIB | .FL_UP_ACTIVE | .FL_UP_HELD | .NI_CTL_NODE | .NI_RT_IDX_INDEX 
  | .NI_ERR_STALE | .NI_ERR_TTL | .NI_ERR_NO_ROUTE | .NI_ERR_REFUSED | .NI_RECON_COUNT | .NI_RECON_UNREACH 
  | .NI_RECON_SEQ_SEQ | .NI_REPL_HOME_NODE | .NI_REPL_SIZE_UNITS | .CE_CAPS_ADD_BPC | .CE_STAT_LAST_TAG 
  | .CE_STAT_CUR_SEQ | .CE_EPOCH_EPOCH | .CE_CNT_ABORTS | .CE_CNT_LATE | .CE_ABORT_SEQ | .CE_ABORT_MEMBER 
  | .CE_TRIG_CTL_ROOT | .MB_CAPS_MBOX_BYTES | .MB_VIOL_HOST_WR | .MB_VIOL_PORT | .MB_VIOL_FW_WR 
  | .PM_STAT_BOOT_FAILS | .PM_STAT_CAP_FRAMES | .PM_POWER_INST | .PM_POWER_AVG | .PM_POWER_PEAK | .PM_TEMP_DIE_MAX 
  | .PM_TEMP_PEAK | .SC_OPS_VERIFY | .SC_OPS_SIGN | .SC_OPS_EXTEND | .BB_WR_CTL_KIND | .CV_STAT_LAST_TAG 
  | .CV_CNT_MISMATCH | .CV_CNT_POISON => 16
  | .GT_FSTAT_LATE_REL | .MX_CAPS_COLS | .SL_DMAX_DMAX | .FL_CAPS_REPLAY | .NI_CAPS_TRACKER => 12
  | .GT_OVR_CNT_COUNT | .GT_TILE_LATE | .TC_CNT_VALUE | .TC_SUM0_GTC_LO | .TC_SUM3_CYCLES | .MX_STALL_PIECE 
  | .MX_STALL_SPEC | .MX_STALL_BANK_BANK | .SL_MODE_CNT_FAST | .SL_MODE_CNT_STRICT | .SL_EXC_CNT_NONFIN_OUT 
  | .VX_STALL_SPEC | .VX_STALL_DEP | .SV_PIV_THRESH_TAU | .SV_PIV_CNT_COUNT | .SV_DL_CNT_ITERATE 
  | .SV_DL_CNT_FACTOR | .FS_RES_CONFIRM | .FS_RES_SQUASH | .FS_MISMATCH_COUNT | .FS_FENCE_REFUSED 
  | .RN_SLOT_KEY_KEY | .DM_POOL_WAIT_DMA | .DM_POOL_WAIT_CORE | .LS_REF_WINDOWS | .LS_NARROW_SECTORS 
  | .LS_NARROW_RMW | .EC_SCRUB_PERIOD_CYCLES | .FL_FEC_UNCORR_CW | .FL_FEC_UNCORR_CRC | .FL_RETRY_EVENTS 
  | .FL_QUAL_WORST | .NI_RECON_RESENT | .NI_LATE_COUNT | .NI_REPL_HOME_BASE | .NI_REPL_BUF_BUF0 
  | .NI_REPL_BUF_BUF1 | .CE_CNT_DONE | .MB_ACK_MAX_CYCLES | .PM_THROT_CYCLES | .BB_STAT_DROPPED | .BB_SEQ_NEXT 
  | .CV_STAT_RECORD | .CV_ALIVE_LAST | .CV_CNT_RECORDS => 32
  | .GT_LAUNCH_CTL_STATE | .TC_SUM0_ENGINE | .MX_CAPS_SPARE_USED | .SL_STAT_PHASE | .SV_CAPS_HANDLES 
  | .SV_CAPS_METHODS | .SV_CAPS_PRECONDS | .SV_STAT_PHASE | .FL_CTL_MAX_W | .FL_STAT_WIDTH | .FL_QUAL_WIDTH 
  | .NI_CAPS_CAND | .CE_TRIG_CTL_LVL_MASK | .CE_TRIG_CTL_ALG | .PM_STAT_PSTATE | .PM_DORM_LAST_WAKE 
  | .SC_EXT_CTL_SLOT => 3
  | .GT_TILE_OPEN | .TC_CAPS_VBEATS | .TC_CAPS_ISAVER | .TC_CAPS_QDEPTH_LOG2 | .TC_CAPS_CVU | .MX_CAPS_PHYS_SPARE 
  | .VX_CAPS_BEATS | .VX_CAPS_SLICES | .VX_CAPS_TREGS | .VX_CAPS_LACC | .VX_VTYPE_SEW | .RN_CAPS_SLOTS 
  | .RN_STAT_BOUND | .RN_STAT_BUSY | .LS_CTL_HYST | .EC_CAPS_STK_SPARE_ROWS | .EC_PPR_BANK | .EC_TS_REPAIR_BANK 
  | .FL_CTL_LANE_MASK | .FL_STAT_STATE | .FL_STAT_CAUSE | .FL_PEER_PORT | .FL_PEER_EXP_PORT | .FL_CAPS_LANES 
  | .CE_TRIG_CTL_DTYPE | .MB_STAT_TELEM_SHIFT | .PM_THROT_DUTY | .PM_TRIP_HYST | .PM_FUSE_DATA_KIND 
  | .PM_FUSE_DATA_BANK | .SC_CAPS_KEY_SLOTS | .SC_CAPS_MEAS_SLOTS | .SC_LC_REVOKED | .SC_LC_SLOT_BLANK 
  | .CV_CAPS_UNITS => 4
  | .TC_TVEC_VEC | .TC_EPC_PC | .TC_EXC_FPC => 14
  | .TC_IEN_SRC | .TC_IPEND_SRC | .SL_STAT_LAST_W64 | .DM_REC_CTL_MASK | .LS_STAT_LINES_MASKED | .EC_PPR_CH 
  | .PM_READY_LINKS_ACTIVE | .PM_READY_LINKS_HELD | .PM_FUSE_DATA_CH | .SC_LC_SVN_FUSED | .SC_BOOT_SVN 
  | .BB_STAT_QOCC => 7
  | .TC_FCSR_FLAGS | .TC_FCSR_TRAPEN | .VX_FCSR_FLAGS | .RN_SLOT_CTL_CNT | .RN_FILL_CTL_CNT | .EC_LAST_CE_POS 
  | .EC_PPR_STACK | .NI_CAPS_RT_LOG2 | .NI_CTL_STALE_LOG2 | .MB_T2F_CTL_LEN | .MB_F2T_CTL_LEN | .PM_TEMP_HOT_DIE 
  | .PM_FUSE_DATA_STACK | .CV_CAPS_POINTS => 5
  | .TC_CTX_ADDR_ADDR => 52
  | .MX_SPARE_MAP_PCOL | .MX_BIST_FAIL_COL | .SL_STAT_LAST_MS | .RN_CAPS_LAG_LONG | .PM_FUSE_DATA_COLUMN => 10
  | .SL_CAPS_MAX_S | .SL_STAT_LAST_SA | .SL_STAT_LAST_SB | .RN_CAPS_LAG_SHORT | .CE_CAPS_COMMS 
  | .PM_CAPS_FUSE_ENTRIES | .PM_FUSE_CTL_USED => 9
  | .SL_STAT_LAST_PAIRS => 17
  | .VX_VTYPE_VL | .EC_TS_REPAIR_ROW | .PM_CAP_WATTS => 11
  | .SV_CAPS_MAX_N | .SV_HSTAT_N | .BB_HEAD_IDX | .BB_RD_IDX_IDX => 20
  | .SV_HSTAT_NONF | .SV_HBASE_BASE | .FS_MISMATCH_OFFSET | .RN_SLOT_ADDR_ADDR | .RN_FILL_ADDR_ADDR 
  | .DM_REC_ADDR_ADDR | .EC_SCRUB_STAT_PASSES | .EC_BKT_CORR | .EC_BKT_UNCORR => 24
  | .FS_FENCE_WRITTEN => 18
  | .RN_FILL_CTL_COUNT | .EC_SCRUB_STAT_POS => 22
  | .EC_BKT_OVF_BKT => 60
  | .EC_LAST_CE_ADDR | .EC_LAST_UE_ADDR | .EC_TEST_ADDR_ADDR | .FL_FEC_CORR_BITS => 48
  | .EC_PPR_ROW | .PM_FUSE_DATA_ROW => 15
  | .CE_STALL_L0 | .CE_STALL_L1 | .CE_STALL_L2 | .BB_CAPS_RECORDS_LOG2 => 21
  | .BB_CAPS_SEALED | .BB_STAT_SEAL_USED => 13
  | _ => 1

/-- The access code of a field, from the Access column of its table (R9). -/
def Fld.access : Fld → Access
  | .GT_CTL_MODE | .GT_CTL_SYNC_OUT_EN | .GT_CTL_OVR_IRQ | .GT_FRAME_LEN_LEN | .GT_FRAME_BASE_BASE 
  | .GT_FRAME_NUM_BASE_NUM | .GT_CABLE_DLY_DLY | .GT_OVR_CNT_COUNT | .GT_LAUNCH_AT_L | .GT_LAUNCH_CUTOFF_K 
  | .GT_LAUNCH_CTL_JOB | .GT_LAUNCH_CTL_WITH_SCHED | .TC_CTL_RUN | .TC_TVEC_VEC | .TC_EPC_PC | .TC_IEN_SRC 
  | .TC_FCSR_RM | .TC_FCSR_FLAGS | .TC_FCSR_TRAPEN | .TC_WDOG_FRAMES | .TC_PREEMPT_REQ | .TC_CTX_ADDR_ADDR 
  | .TC_CNT_VALUE | .MX_BUSY_CYC_COUNT | .MX_MAC_CNT_COUNT | .MX_STALL_PIECE | .MX_STALL_SPEC 
  | .MX_STALL_BANK_BANK | .MX_ACC_ERR_CORR | .MX_ACC_ERR_UNCORR | .SL_PASSES_COUNT | .SL_PREP_CYC_COUNT 
  | .SL_MODE_CNT_FAST | .SL_MODE_CNT_STRICT | .SL_EXC_CNT_NONFIN_OUT | .SL_EXC_CNT_LIMIT | .SL_RS_ERR_CORR 
  | .SL_RS_ERR_UNCORR | .SL_DMAX_DMAX | .VX_CTL_EN | .VX_CTL_SAT8 | .VX_VTYPE_VL | .VX_VTYPE_SEW | .VX_FCSR_RM 
  | .VX_FCSR_FLAGS | .VX_RNSEL_STREAM | .VX_BUSY_CYC_COUNT | .VX_STALL_SPEC | .VX_STALL_DEP | .VX_ERR_CORR 
  | .VX_ERR_UNCORR | .VX_ERR_IDX_SKIP | .VX_ERR_OFF_DISCARD | .SV_CTL_EN | .SV_PIV_THRESH_TAU | .SV_PIV_CNT_COUNT 
  | .SV_DL_CNT_ITERATE | .SV_DL_CNT_FACTOR | .SV_BUSY_CYC_COUNT | .SV_ERR_CORR | .SV_ERR_UNCORR | .SV_ERR_OVF 
  | .FS_CTL_EN | .FS_CALDERA_BASE | .FS_CALDERA_SIZE | .FS_RES_CONFIRM | .FS_RES_SQUASH | .FS_FENCE_REFUSED 
  | .RN_SLOT_ADDR_ADDR | .RN_SLOT_CTL_OWNER | .RN_SLOT_CTL_CNT | .RN_FILL_ADDR_ADDR | .RN_FILL_CTL_COUNT 
  | .RN_FILL_CTL_SLOT | .RN_FILL_CTL_CNT | .RN_DRAWS_COUNT | .RN_ERR_OWNER | .RN_ERR_UNBOUND | .RN_ERR_CORR 
  | .RN_ERR_UNCORR | .DM_CTL_EN | .DM_REC_ADDR_ADDR | .DM_REC_CTL_EN | .DM_REC_CTL_MASK | .DM_REC_CTL_LIMIT 
  | .DM_REC_CTL_COUNT | .DM_BYTES_COUNT | .DM_POOL_WAIT_DMA | .DM_POOL_WAIT_CORE | .DM_ERR_FAILED 
  | .DM_ERR_POISONED | .DM_ERR_REFUSED | .LS_CTL_TRIP | .LS_CTL_HYST | .LS_CTL_THROT_IRQ | .LS_TEMP_MAX 
  | .LS_REF_WINDOWS | .LS_TRAFFIC_BURSTS | .LS_NARROW_SECTORS | .LS_NARROW_RMW | .EC_BKT_CFG_DEPTH 
  | .EC_BKT_CFG_LEAK | .EC_BKT_CFG_IRQ_EN | .EC_SCRUB_CTL_EN | .EC_SCRUB_PERIOD_CYCLES | .EC_SCRUB_STAT_PASSES 
  | .EC_SCRUB_STAT_LAG | .EC_PPR_STACK | .EC_PPR_CH | .EC_PPR_BANK | .EC_PPR_ROW | .EC_TS_REPAIR_TILE 
  | .EC_TS_REPAIR_BANK | .EC_TS_REPAIR_ROW | .EC_TEST_CTL_TARGET | .EC_TEST_CTL_POISON | .EC_TEST_ADDR_ADDR 
  | .EC_TEST_CHK0_CHK | .EC_TEST_CHK1_CHK | .EC_BKT_CORR | .EC_BKT_UNCORR | .EC_TEST_DATA_DATA | .FL_CTL_PEER_CHK 
  | .FL_CTL_IRQ_EN | .FL_CTL_MAX_W | .FL_CTL_LANE_MASK | .FL_STAT_TRAINS | .FL_PEER_EXP_NODE | .FL_PEER_EXP_FDIE 
  | .FL_PEER_EXP_PORT | .FL_FEC_CORR_BITS | .FL_FEC_UNCORR_CW | .FL_FEC_UNCORR_CRC | .FL_RETRY_EVENTS 
  | .FL_BLOCKS_PAYLOAD | .NI_CTL_NODE | .NI_CTL_STALE_LOG2 | .NI_RT_IDX_INDEX | .NI_RT_DATA_ENTRY | .NI_ERR_STALE 
  | .NI_ERR_TTL | .NI_ERR_NO_ROUTE | .NI_ERR_REFUSED | .NI_RECON_COUNT | .NI_RECON_UNREACH | .NI_RECON_RESENT 
  | .NI_LATE_COUNT | .NI_MAP_PHYS | .NI_MAP_VALID | .NI_REPL_HOME_NODE | .NI_REPL_HOME_BASE | .NI_REPL_SIZE_UNITS 
  | .NI_REPL_SIZE_VALID | .NI_REPL_BUF_BUF0 | .NI_REPL_BUF_BUF1 | .NI_REPL_FLIP_AT | .CE_CTL_EN 
  | .CE_TIMEOUT_FRAMES | .CE_EPOCH_EPOCH | .CE_STALL_L0 | .CE_STALL_L1 | .CE_STALL_L2 | .CE_CNT_DONE 
  | .CE_CNT_ABORTS | .CE_CNT_LATE | .CE_TRIG_CTL_OPC | .CE_TRIG_CTL_COMM | .CE_TRIG_CTL_DTYPE | .CE_TRIG_CTL_ROP 
  | .CE_TRIG_CTL_FLAT | .CE_TRIG_CTL_LVL_MASK | .CE_TRIG_CTL_ALG | .CE_TRIG_CTL_ROOT | .CE_TRIG_AT_AT 
  | .CE_TRIG_DATA_DATA | .MB_CTL_HOST_NOTIFY | .MB_PORT_MAP_PORT | .MB_STAT_BUSY | .MB_STAT_TELEM_SHIFT 
  | .MB_STAT_FW_READY | .MB_STAT_IFVER_MAJOR | .MB_STAT_IFVER_MINOR | .MB_ACK_MAX_CYCLES | .MB_VIOL_HOST_WR 
  | .MB_VIOL_PORT | .MB_VIOL_FW_WR | .MB_T2F_CTL_OWN | .MB_F2T_CTL_OWN | .MB_T2F_CTL_KIND | .MB_F2T_CTL_KIND 
  | .MB_T2F_CTL_LEN | .MB_F2T_CTL_LEN | .MB_T2F_CTL_SEQ | .MB_F2T_CTL_SEQ | .MB_T2F_CTL_STATUS 
  | .MB_F2T_CTL_STATUS | .MB_T2F_DATA_DATA | .MB_F2T_DATA_DATA | .PM_CTL_CAP_IRQ | .PM_CTL_THERM_IRQ 
  | .PM_STAT_CAP_FRAMES | .PM_READY_MIN_TILES | .PM_CAP_WATTS | .PM_POWER_PEAK | .PM_THROT_CYCLES 
  | .PM_TRIP_DIE_WARN | .PM_TRIP_DIE_CRIT | .PM_TRIP_HYST | .PM_TEMP_PEAK | .PM_DORM_AQ0_ON | .PM_DORM_AQ1_ON 
  | .PM_DORM_CRYPTO_ON | .PM_DORM_WAKE_HOST_EN | .PM_DORM_WAKE_PIN_EN | .PM_DORM_WAKE_I3C_EN 
  | .PM_DORM_WAKE_ALARM_EN | .PM_WAKE_AT_AT | .PM_DORM_DIGEST_DIGEST | .PM_FUSE_DATA_KIND | .PM_FUSE_DATA_TILE 
  | .PM_FUSE_DATA_STACK | .PM_FUSE_DATA_CH | .PM_FUSE_DATA_BANK | .PM_FUSE_DATA_ROW | .PM_FUSE_DATA_COLUMN 
  | .PM_DOM_EN | .SC_EXT_CTL_SLOT | .SC_EXT_DATA_DATA | .SC_OPS_VERIFY | .SC_OPS_SIGN | .SC_OPS_EXTEND 
  | .BB_CTL_DROP_IRQ | .BB_STAT_DROPPED | .BB_WR_CTL_KIND | .BB_WR_CTL_STATUS | .BB_WR_CTL_FATAL 
  | .BB_WR_CTL_REDACT | .BB_WR_DATA_DATA | .BB_WR_GTC_GTC | .BB_RD_IDX_IDX | .CV_CTL_EN0 | .CV_CTL_EN1 
  | .CV_ALIVE_LAST | .CV_CNT_RECORDS | .CV_CNT_MISMATCH | .CV_CNT_POISON => .rw
  | .GT_STAT_LOCK_LOST | .GT_FRAME_CTL_REFUSED | .GT_LAUNCH_CTL_TOO_LATE | .TC_STAT_DFAULT | .TC_IPEND_SRC 
  | .TC_WDOG_FIRED | .TC_PREEMPT_DONE | .MX_BIST_DONE | .VX_STAT_VL_CLIP | .VX_STAT_IDX_OOR | .VX_STAT_POISON 
  | .FS_STAT_CFG_IGN | .RN_STAT_OWNER_ERR | .RN_STAT_UNBOUND_ERR | .RN_STAT_FILL_REF | .DM_REC_CTL_FULL 
  | .LS_STAT_TRIPPED | .LS_STAT_TRAIN_FAIL | .EC_BKT_OVF_BKT | .FL_STAT_CHG | .FL_LANE_LOCK_LOST 
  | .NI_STAT_REPL_REF | .SC_EXT_CTL_REFUSED | .BB_STAT_LAST_GASP => .w1c
  | .GT_FRAME_CTL_ARM | .GT_LAUNCH_CTL_ARM | .GT_LAUNCH_CTL_CANCEL | .GT_LAUNCH_CTL_RELEASE | .GT_TILE_DONE 
  | .TC_CTL_STEP | .MX_BIST_START | .FS_CTL_FORCE_SQUASH | .RN_SLOT_CTL_CMD | .RN_FILL_CTL_START | .EC_BKT_CFG_CLR 
  | .EC_PPR_START | .EC_TS_REPAIR_START | .EC_TEST_CTL_CMD | .FL_CTL_RESTART | .NI_RT_IDX_WRITE | .NI_RT_IDX_READ 
  | .CE_CTL_ABORT | .CE_TRIG_CTL_GO | .PM_CTL_PKG_RESET | .PM_CTL_WAKE | .PM_FUSE_CTL_PROG | .SC_LC_SCRAP 
  | .SC_EXT_CTL_GO | .BB_WR_CTL_GO | .CV_CTL_DISARM0 | .CV_CTL_DISARM1 => .wo
  | .PM_STAT_CRIT | .PM_STAT_LAST_RESET | .PM_STAT_BOOT_FAILS => .rws
  | _ => .ro

/-- The reset value of field `f` of instance (i, j), from the Reset column of its table (R11). Where that column reads
Fuse, Map or MRAM the value is the one a package as shipped presents (R18: N = 40 and an identity map; the others are the
choices of log entry 3). -/
def Fld.resetVal (f : Fld) (i j : Nat) : Nat :=
  match f with
  | .GT_STAT_HOPS => 0x3f
  | .GT_FRAME_LEN_LEN => 0x100000
  | .TC_CAPS_VBEATS | .TC_CAPS_QDEPTH_LOG2 | .MX_CAPS_PHYS_SPARE | .VX_CAPS_BEATS | .VX_CAPS_SLICES 
  | .VX_CAPS_LACC | .SV_CAPS_HANDLES | .RN_CAPS_SLOTS | .FL_CTL_MAX_W | .FL_CAPS_LANES | .NI_CAPS_CAND 
  | .CE_TIMEOUT_FRAMES | .SC_CAPS_KEY_SLOTS => 4
  | .TC_CAPS_VREGBITS | .VX_CAPS_REGBITS => 0x2000
  | .TC_CAPS_ISAVER | .MX_CAPS_INT4X2 | .MX_CAPS_SLICED | .SL_CAPS_STRICT | .VX_CTL_EN | .SV_CAPS_LDLT 
  | .SV_CTL_EN | .FS_CAPS_TOL | .FS_CTL_EN | .DM_CAPS_SHA3 | .DM_CAPS_CRC32C | .DM_CTL_EN | .LS_CTL_THROT_IRQ 
  | .EC_CAPS_TS_SPARE_ROWS | .EC_BKT_CFG_IRQ_EN | .EC_SCRUB_CTL_EN | .FL_CTL_IRQ_EN | .CE_CAPS_TREE 
  | .CE_CAPS_TRIG | .CE_CTL_EN | .PM_CTL_CAP_IRQ | .PM_CTL_THERM_IRQ | .PM_READY_MIN_TILES | .PM_DORM_AQ0_ON 
  | .PM_DORM_WAKE_HOST_EN | .PM_DORM_WAKE_PIN_EN | .PM_DORM_WAKE_I3C_EN | .PM_DORM_WAKE_ALARM_EN | .SC_LC_STATE 
  | .BB_CTL_DROP_IRQ | .CV_CTL_EN0 | .CV_CTL_EN1 => 1
  | .TC_CAPS_IMEM_KIB | .TC_CAPS_DMEM_KIB | .DM_CAPS_BUF_KIB | .EC_BKT_CFG_LEAK | .FL_CAPS_REPLAY | .NI_CAPS_REPL 
  | .NI_CAPS_MAP | .MB_CAPS_HOST_MBOX | .MB_CAPS_TILE_MBOX | .SC_CAPS_SVN_MAX => 0x40
  | .TC_CAPS_CVU | .VX_STAT_FSTATE | .SV_STAT_FSTATE | .FS_STAT_FSTATE | .DM_STAT_FSTATE | .LS_CTL_HYST 
  | .EC_CAPS_PPR_ROWS | .EC_CAPS_SPARE_COLGRP | .CE_STAT_FSTATE | .CV_CAPS_UNITS | .CV_STAT_FSTATE => 2
  | .TC_ID_PHYS | .TC_ID_LOGICAL => i
  | .MX_CAPS_ROWS | .VX_VTYPE_VL | .FS_CAPS_MAX_UNITS | .LS_CAPS_CHANNELS | .FL_CAPS_INGRESS_KIB => 0x80
  | .MX_CAPS_COLS => 0x200
  | .SL_CAPS_MAX_S => 0x107
  | .SL_CAPS_FFMT_MASK => 0xff
  | .SL_CAPS_RS_KIB | .MB_CAPS_MBOX_BYTES | .BB_CAPS_SEALED => 0x1000
  | .VX_CAPS_REGS | .RN_CAPS_LANES => 0x20
  | .VX_CAPS_TREGS | .EC_CAPS_STK_SPARE_ROWS | .PM_THROT_DUTY | .SC_CAPS_MEAS_SLOTS => 8
  | .VX_VTYPE_SEW | .SV_CAPS_METHODS | .SV_CAPS_PRECONDS => 7
  | .SV_CAPS_MAX_N => 0x80000
  | .SV_PIV_THRESH_TAU => 0x35800000
  | .FS_MISMATCH_OFFSET => 0xffffff
  | .RN_CAPS_LAG_LONG => 0x25f
  | .RN_CAPS_LAG_SHORT => 0x111
  | .DM_CAPS_POOL_GRAN => 0xa
  | .LS_CAPS_BANKS | .FL_CAPS_LINKS | .NI_CAPS_RT_LOG2 => 0x10
  | .LS_CAPS_ROWS => 0x6000
  | .LS_CAPS_CAP_GIB => 0x30
  | .LS_CAPS_LINES => 0x12
  | .LS_CTL_TRIP => 0x6e
  | .LS_REF_TREFI => 0xfff
  | .EC_CAPS_BUCKETS => 0x3c
  | .EC_BKT_CFG_DEPTH | .NI_CAPS_TRACKER => 0x400
  | .EC_SCRUB_PERIOD_CYCLES => 0x1b80cc7
  | .NI_CTL_STALE_LOG2 => 0x15
  | .NI_MAP_PHYS => (if j < 40 then j else 0)
  | .NI_MAP_VALID => (if j < 40 then 1 else 0)
  | .CE_CAPS_COMMS | .CE_CAPS_ADD_BPC | .PM_CAPS_FUSE_ENTRIES => 0x100
  | .CE_CAPS_LEVELS => 3
  | .MB_PORT_MAP_PORT => 0xffffffff00000000
  | .PM_CAPS_DOMAINS => 0xae
  | .PM_READY_N => 40
  | .PM_CAP_WATTS => 0x640
  | .PM_TRIP_DIE_WARN => 0x64
  | .PM_TRIP_DIE_CRIT => 0x7d
  | .PM_TRIP_HYST => 5
  | .PM_DOM_EN => (if 164 ≤ j ∧ j ≤ 168 then 1 else 0)
  | .PM_DOM_FSTATE => (if 164 ≤ j ∧ j ≤ 168 then 2 else 0)
  | .SC_LC_SLOT_BLANK => 14
  | .BB_CAPS_RECORDS_LOG2 => 0x14
  | .BB_HEAD_IDX => 4096
  | .CV_CAPS_POINTS => 0x1f
  | _ => 0

end Sys2Proof.Machine
end

