-- ==== Sys2Proof/Machine/Vars.lean ====
section
/-! DEFINITION. The numbered state that is no software-visible register field: register files, memories' side marks and the
internal registers, flags and counters that the rules name. Each is named with two instance numbers i and j, as the fields are;
its comment cites the rule that gives it. -/
namespace Sys2Proof.Machine

/-- The internal state of the block, by name. -/
inductive Var where
  | SYNC_SENT  -- link i: a sync message has been sent on this link (R38)
  | SYNC_SENT_AT  -- link i: GTC at which the last sync message was sent (R38)
  | FIRST_LOCK  -- the package has reached its first lock (R36)
  | SYNC_RUN  -- consecutive sync measurements within ±2 cycles (R38, Table 2.1)
  | SYNC_OUT_AT  -- GTC value of the last marker driven on GTC_SYNC_OUT (R40)
  | SYNC_OUT_CNT  -- markers driven on GTC_SYNC_OUT (R40)
  | TICK_AT  -- one more than the GTC of the last geyser tick, 0 before any (R43)
  | SCHED_AT  -- one more than the GTC at which the schedule in force took effect, 0 before any (R45)
  | SCHED_BY_SLOT  -- the pending schedule was staged by launch slot value - 1; 0: by GT_FRAME_CTL.ARM (R46)
  | LAUNCH_STAGED  -- slot j staged the pending schedule (R60)
  | LAUNCH_NODE  -- slot j: one more than the failed node named by a cancel, 0 if none (R443)
  | FR_REF_STALL  -- largest refresh delay to any tile in the current frame (R57)
  | FR_TBAND  -- highest band in the current frame (R57)
  | FR_LINK_CHG  -- a link changed state in the current frame (R57)
  | FR_UNLOCKED  -- LOCKED was 0 at some cycle of the current frame (R57, R529)
  | FR_LATE_REL  -- late timed releases in the current frame, saturating (R57)
  | FR_RETRY  -- link i: retry events in the current frame (R55, R57)
  | FR_THROTTLED  -- D was below 8 in some cycle of the current frame (R57)
  | FR_MAINT  -- a repair or raw test access ran in the current frame (R57)
  | TILE_JOB  -- tile i: one more than the job context it is assigned to, 0 if none (R61)
  | IN_FRAMES  -- tile i takes part in the frame schedule (R50)
  | WDOG_FRAMES  -- tile i: ticks since the last GT_TILE.DONE (R84)
  | GP  -- tile i, register gp j (Table 3.1, R65)
  | SV  -- tile i, short-vector register sv j; fp j is its low 64 bits (Table 3.1, R65)
  | PC  -- tile i: program counter (Table 3.1)
  | MARK_GP  -- tile i: speculation mark of gp j (R77)
  | MARK_SV  -- tile i: speculation mark of sv j (R77)
  | STALLED  -- tile i: the core stalls at its program counter (R67, R71, R77)
  | STEPPING  -- tile i: one cycle of issue is granted by TC_CTL.STEP (R84)
  | STOPPED  -- tile i: the core has stopped issuing for a context switch (R81)
  | RUN_AT  -- tile i: clock cycle in which RUN was last set (TC_CYCLE)
  | ISSUE_SEQ  -- tile i: number of descriptors issued so far (R72 FENCE, R98)
  | DFAULT_MSG  -- tile i: a DOUBLE_FAULT message waits for the T2F slot (R440)
  | DMEM_BAD  -- tile i: data-memory word j holds an uncorrectable error (R79)
  | IMEM_BAD  -- tile i: instruction-memory word j holds an uncorrectable error (Table 3.5)
  | PREEMPT_AT  -- tile i: one more than the GTC at which TC_PREEMPT.REQ registered, 0 when clear (R81)
  | PREEMPT_TICKS  -- tile i: frames since the request registered (R81)
  | PREEMPT_LATE  -- tile i: the switch passed its 8-frame bound; the command returns 0x12 (R81)
  | FREE_CTR  -- the model's own: how many free values have been taken
  | EVENTS_LOST  -- events discarded from a full queue since the last EVENTS_LOST record (R437)
  | DROP_PEND  -- records dropped since the last RECORDS_DROPPED record (R495)
  | GASP  -- the rind log runs on its last-gasp reserve (R498)
  | SHADOW_BASE  -- GTC in the last cycle in which domain 171 was ON (R496)
  | SHADOW_CLK  -- clock cycle of that GTC (R496)
  | LAST_OFF  -- the last measured offset before first lock, two's complement (R36, R38)
  | TILE_HELD  -- tile i is held in partition reset (R353, R465)
  | LINK_AT  -- link i: clock cycle in which the link entered its state (Table 13.2)
  | LINK_ALIGNED  -- link i: ALIGN has locked lanes inside RETRAIN
  | LANE_USABLE  -- link i: physical lanes classed as terminated (R321)
  | LANE_LOCKED  -- link i: physical lanes whose receivers are locked (R321)
  | LINK_SET  -- link i: agreed logical lane set (R323)
  | LINK_QCLASS  -- link i: latency class the link qualified with (R328)
  | DETECT_AT  -- link i: clock cycle before which DETECT makes no further attempt (Table 13.2)
  | LINK_DRAIN  -- link i: 1 draining for port off, 2 draining for RESTART (R327)
  | LINK_DRAIN_AT  -- link i: clock cycle in which the drain began (R327)
  | TX_SEQ  -- link i: SEQ of the next link block sent (R317)
  | RX_SEQ  -- link i: SEQ expected next by the receiver (R317)
  | TX_RESEND  -- link i: one more than the SEQ from which blocks are resent, 0 if none (R318)
  | TX_EVENT  -- link i: one more than the SEQ last resent for the retry event in progress (R318)
  | RX_NAK  -- link i: the next header carries NAK (R318)
  | RX_EVENT  -- link i: a retry event is in progress at the receiver (R318)
  | TX_MSG  -- link i: link message for the next block (Table 13.1)
  | CR_LIMIT  -- link i: cumulative credits of class j stated by the receiver (R316)
  | CR_USED  -- link i: cumulative flits of class j sent (R316)
  | CR_FREED  -- link i: cumulative ingress flits of class j granted to the peer (R316)
  | SOAK_OK  -- link i: the link entered ACTIVE after QUALIFY
  | RT  -- routing table of F-die i, entry j (Table 14.1)
  | RT_READ_AT  -- F-die i: one more than the clock cycle at which a routing-table read ends, 0 if none (R359)
  | TRK_SEQ  -- tile i: requests issued so far (R342)
  | NI_MAP_SHUT  -- a tile domain has left OFF since the package reset, so NI_MAP is closed (R359)
  | RECON_AT  -- link i: one more than the GTC at which RECONCILE was sent, 0 if none (R351)
  | STK_CHK  -- stored check symbols of the codeword at local address 16 × i, xor the right ones for its data (R285)
  | TS_CHK  -- tile i: stored check bits of tile-store word j, xor the right ones for its data (R291)
  | TS_POIS  -- tile i: poison bit of tile-store granule j (R291)
  | CH_MASK  -- stack i: one more than the line position masked on channel j, 0 if none (R283, R288)
  | WIN_AT  -- one more than the GTC at which the last refresh window opened, 0 before any (R273)
  | RR_SRC  -- stack i: source that the next admission to the read (j = 2 × ch) or write (j = 2 × ch + 1) queue starts from (R266)
  | TILE_REF  -- tile i: refresh delay in the current frame (R57)
  | TEMP_AT  -- stack i: one more than the clock cycle of the last sample (R275)
  | STACK_TRIP  -- stack i: the thermal trip is asserted to the power manager (R279)
  | SCRUB_DUE  -- scrub reads that are due and not issued (R297)
  | SCRUB_DUE_AT  -- clock cycle in which the last scrub read fell due (R297)
  | LEAK_TICKS  -- class j: ticks since the last leak (R294)
  | LEAK_AT  -- class j: one more than the GTC last counted as a tick without a schedule (R294)
  | UE_PEND  -- bucket j: uncorrectable reads not yet in a record (R296)
  | UE_FRAME  -- bucket j: one more than the frame in which the last record was written (R296)
  | PPR_USED  -- stack i: run-time spare rows in use in bank j mod 16 of channel j div 16 (R302)
  | PPR_AT  -- clock cycle in which the repair in progress ends (R302)
  | TS_SPARE  -- tile i: the spare row of tile-store bank j is in use (R303)
  | TS_REP_AT  -- clock cycle in which the tile-store repair ends (R303)
  | RAW_CMD  -- raw command in progress (R308)
  | CALD_W  -- tile i: granule j of the store was written in the caldera while a window is open (R203)
  | SPEC_RELEASE  -- tile i: clock cycle after the last confirm registered (R97, R145)
  | CMP_AT  -- tile i: clock cycle in which the compare of the open window began (R208)
  | RN_W  -- tile i: state word, j = 19424 × slot + 607 × lane + place; the place of the oldest word moves round (R225)
  | RN_H  -- tile i: place of the oldest word of lane j mod 32 of slot j div 32 (R225)
  | RN_AT  -- tile i: clock cycle in which the load or save of slot j ends (R228)
  | RN_PCMD  -- tile i: command that waits at slot j (R229)
  | RN_POWN  -- tile i: one more than the OWNER that waits at slot j, 0 if none (R229)
  | RN_FILL_AT  -- tile i: clock cycle in which the fill ends (R234)
  | VX_LAST  -- tile i: clock cycle of the last completion of a started vx instruction (R165)
  | VX_ISSUED  -- tile i: vx instructions issued so far
  | SPEC_STALL  -- tile i: the core stalls on a speculation mark (R77, R214)
  | EXC_MARK  -- tile i: TC_EXC_ADDR comes from a marked register (R215)
  | CTX_STATUS  -- tile i: status of the last context restore (R83)
  | SAVE_OUT  -- tile i: the context's stores to another package are under way (R81)
  | REC_COUNT0  -- tile i: DM_REC_CTL.COUNT when the open window opened (R257)
  | VX_POIS  -- tile i: poison mark of 64 B number j of the vector registers (16 each), and from 512 on of the tile registers (256 each) (Table 6.1)
  | VX_BAD  -- tile i: 64-bit word j of the vector and tile registers holds a corrected (1) or uncorrectable (2) error (R168)
  | MARK_VX  -- tile i: speculation mark of v0 to v31, t0 to t7, la0 to la3, numbered j in that order (R169)
  | LA  -- tile i: long accumulator j, two's complement with 2,148 fractional bits (R158)
  | LA_FLAG  -- tile i: POS_INF, NEG_INF and NAN of long accumulator j (R158)
  | LA_POIS  -- tile i: long accumulator j is poisoned (R167)
  | LA_COUNT  -- tile i: additions to long accumulator j since its xclr (Table 6.6)
  | VX_PREV  -- tile i: prev_start of the vector recurrence (R145)
  | VX_PIPE  -- tile i: pipe_free of ARITH, MEM and ACC (R145)
  | VX_READY  -- tile i: ready of register j (R145)
  | VX_REND  -- tile i: read_end of register j (R145)
  | VX_FLOOR  -- tile i: cycle before which the engine starts nothing after a lend (R187)
  | VX_MFLAGS  -- tile i: floating-point flags raised since the last mark (R165)
  | VX_MDISC  -- tile i: an instruction was discarded since the last mark (R165)
  | LENDS  -- tile i: lends that have started or been discarded (R187)
  | SOLVES  -- tile i: SV_SOLVE descriptors that have completed (R187)
  | MX_LOAD  -- tile i: load_port_free of the matrix recurrence (R97)
  | MX_STREAM  -- tile i: stream_free (R97)
  | MX_EPI  -- tile i: epi_port_free (R97)
  | MX_DONE  -- tile i: last_done (R97)
  | MX_BUF  -- tile i: buf_free of stationary buffer j (R97)
  | MX_BANK  -- tile i: bank_free of bank j (R97)
  | MX_ACC  -- tile i: acc_ready of bank j (R97)
  | MX_NBUF  -- tile i: nbuf (R97)
  | MX_ROWP  -- tile i: poison mark of row j mod 512 of bank j div 512 (R107)
  | MX_COLP  -- tile i: poison mark of column j mod 512 of bank j div 512 (R107)
  | MX_BAD  -- tile i: 64-bit word j of the banks holds a corrected (1) or uncorrectable (2) error (R104)
  | RS_BAD  -- tile i: 64-bit word j of the recomposition store holds a corrected (1) or uncorrectable (2) error (R136)
  | BIST_AT  -- tile i: clock cycle in which the array self-test ends, or last ended (R110)
  | BIST_RUN  -- tile i: the array self-test holds the queue (R110)
  | MX_DEFECT  -- tile i: physical array column j is defective (R89, R110)
  | DOM_DIS_AT  -- domain j: clock cycle in which the last disable request registered (R31, R109)
  | SQ_AT  -- tile i: clock cycle from which squashed descriptors complete (R219)
  | FUNC_DIS_AT  -- tile i: clock cycle in which the last disable request of switchable function j registered (Table 19.4): 0 VX, 1 SV, 2 FS, 3 DM, 4 CE, 5 and 6 the CV units
  | SV_BUF_BAD  -- tile i: the solver's pivot and level buffers hold a corrected (1) or uncorrectable (2) error (R195)
  | SV_LAST  -- tile i: clock cycle in which the last solver descriptor completed (R177)
  | ENG_LAST  -- tile i: clock cycle in which the last descriptor of engine j completed (R219, R250, R361, R501)
  | CORE_AT  -- tile i: clock cycle before which the core issues nothing after a squash (R218)
  | VX_LASTN  -- tile i: last completion of a started vx instruction that was issued outside a window (R207)
  | CE_SEQ  -- tile i, or 40 for the triggered agent: SEQ of communicator j (R363)
  | CE_STALE  -- tile i or 40: clock cycle before which no collective on communicator j starts (R375)
  | CE_LATE  -- tile i or 40: 1 + SEQ + 2^17 × detecting member of a late abort on communicator j, 0 for none (R376)
  | CE_REM  -- tile i or 40: 1 + SEQ + 2^17 × detecting member of a recorded abort on communicator j, 0 for none (R376)
  | CE_ABSEQ  -- tile i or 40: 1 + SEQ of the last collective on communicator j that aborted (R375)
  | SELF_REF  -- pm: stack i is in self-refresh (R280, R282)
  | RENNET_RUN  -- tile i: the rennet image runs (R458, R463)
  | THROT_AT  -- pm: one more than the clock cycle in which D fell below 8, 0 while it is 8 (PM_THROT.CYCLES)
  | BB_DUE  -- pm: clock cycle in which the writer has written the record at the front of its queue (R495)
  | BB_RD_AT  -- pm: clock cycle in which the record read in progress ends (R499)
  | WS_HEAD  -- pm: next ring index in copy j of the write state (R492, R497)
  | WS_SEQ  -- pm: next SEQ in copy j of the write state
  | GASP_NV  -- pm: the last power-down ended in a last gasp (BB_STAT.LAST_GASP)
  | I3C_PTR  -- pm: the pointer P of the I3C target (R500)
  | I3C_DYN  -- pm: one more than the dynamic address assigned, 0 if none (R500)
  | I3C_SWAP  -- pm: the target has found and exchanged swapped lines (R522)
  | I3C_BUS_AT  -- pm: clock cycle of the last bus activity (R522)
  | I3C_SEEN  -- pm: the target has watched the lines since its last start or bus activity (R522)
  | FUNC_AT  -- pm: clock cycle in which switchable function (i, j) entered its state: tile i with j as for FUNC_DIS_AT, i = 40 for domain j, i = 41 for the scrubber (R467)
  | SLOT_AT  -- pm: one more than the clock cycle in which the last start slot was granted (R468)
  | WAKE_LATCH  -- pm: source of a wake that registered before domain 169 reached OFF (R474)
  | WAKE_AT  -- pm: clock cycle in which the wake in progress began (R475)
  | DORM_STAGE  -- pm: the step of R473 that entry to Dormant has reached
  | DORM_MBOX  -- pm: one more than the mailbox that holds the DORMANT command (R473)
  | CAP_DUTY  -- pm: the cap duty (R470)
  | THERM_DUTY  -- pm: the thermal duty (R470)
  | CAP_FALL_AT  -- pm: one more than the clock cycle in which the cap duty last fell by 1
  | CAP_RISE_AT  -- pm: clock cycle from which the average has stayed below 0.98 of the cap, or of the last rise since
  | CAP_OVER  -- pm: consecutive samples above 1.1 of the cap
  | THERM_AT  -- pm: clock cycle from which every sensor has been below its threshold by HYST, or of the last rise since
  | DUTY_AT  -- pm: one more than the clock cycle of the last step of D
  | POW_AT  -- pm: one more than the clock cycle of the last power sample
  | FUSE_AT  -- pm: clock cycle in which the fuse programming in progress ends (R456)
  | FUSE_WORD  -- pm: the entry being programmed (R456)
  | THERMTRIP  -- pm: THERMTRIP_N is asserted (R472)
  | MB_NOTIFY  -- pm: notification messages that Aqord port j has sent to the host (R431)
  | TAP  -- pm: the boundary-scan instruction loaded: 0 IDCODE, 1 BYPASS, 2 SAMPLE/PRELOAD, 3 EXTEST, 4 EXTEST_PULSE, 5 EXTEST_TRAIN, 6 private (R489)
  | EXT_SLOT  -- crypto: the measurement slot being extended (R486)
  | EXT_VAL  -- crypto: word j of the value being extended
  | MB_AT  -- mgmt: clock cycle in which OWN = 1 of host mailbox j registered (R424)
  | MB_BEGUN  -- mgmt: the firmware has begun the command in host mailbox j, which runs on after its first step (R426)
  | PERIOD_AT  -- mgmt: one more than the GTC at which the last management period started (R422)
  | PERIOD_CNT  -- mgmt: management periods since the last telemetry sample (R509)
  | CALM  -- mgmt: consecutive periods in which every ready item has started (R425)
deriving DecidableEq, Repr

/-- The width in bits. -/
def Var.width (v : Var) : Nat :=
  match v with
  | .SYNC_SENT_AT | .SYNC_OUT_AT | .SYNC_OUT_CNT | .TICK_AT | .SCHED_AT | .GP | .RUN_AT | .ISSUE_SEQ | .PREEMPT_AT 
  | .FREE_CTR | .SHADOW_BASE | .SHADOW_CLK | .LAST_OFF | .LINK_AT | .DETECT_AT | .LINK_DRAIN_AT | .RT 
  | .RT_READ_AT | .TRK_SEQ | .RECON_AT | .WIN_AT | .TEMP_AT | .SCRUB_DUE_AT | .LEAK_AT | .UE_FRAME | .PPR_AT 
  | .TS_REP_AT | .SPEC_RELEASE | .CMP_AT | .RN_W | .RN_AT | .RN_FILL_AT | .VX_LAST | .VX_ISSUED | .LA_COUNT 
  | .VX_PREV | .VX_PIPE | .VX_READY | .VX_REND | .VX_FLOOR | .LENDS | .SOLVES | .MX_LOAD | .MX_STREAM | .MX_EPI 
  | .MX_DONE | .MX_BUF | .MX_BANK | .MX_ACC | .BIST_AT | .DOM_DIS_AT | .SQ_AT | .FUNC_DIS_AT | .SV_LAST 
  | .ENG_LAST | .CORE_AT | .VX_LASTN | .CE_STALE | .THROT_AT | .BB_DUE | .BB_RD_AT | .I3C_BUS_AT | .FUNC_AT 
  | .SLOT_AT | .WAKE_AT | .CAP_FALL_AT | .CAP_RISE_AT | .THERM_AT | .DUTY_AT | .POW_AT | .FUSE_AT | .FUSE_WORD 
  | .EXT_VAL | .MB_AT | .PERIOD_AT => 64
  | .SYNC_RUN | .PREEMPT_TICKS | .TX_MSG | .TS_CHK | .CTX_STATUS | .I3C_DYN => 8
  | .SCHED_BY_SLOT | .LA_FLAG | .WAKE_LATCH | .TAP | .EXT_SLOT => 3
  | .LAUNCH_NODE | .TX_RESEND | .TX_EVENT | .CE_ABSEQ => 17
  | .FR_REF_STALL | .TILE_REF => 40
  | .FR_TBAND | .LINK_QCLASS | .LINK_DRAIN | .PPR_USED | .RAW_CMD | .RN_PCMD | .RN_POWN | .VX_BAD | .MX_BAD 
  | .RS_BAD | .SV_BUF_BAD | .DORM_STAGE => 2
  | .FR_LATE_REL => 12
  | .FR_RETRY | .WDOG_FRAMES | .PC | .TX_SEQ | .RX_SEQ | .STK_CHK | .SCRUB_DUE | .LEAK_TICKS | .REC_COUNT0 
  | .CE_SEQ | .PERIOD_CNT => 16
  | .TILE_JOB | .DORM_MBOX | .CALM => 7
  | .SV => 256
  | .EVENTS_LOST | .DROP_PEND | .UE_PEND | .WS_SEQ | .I3C_PTR | .MB_NOTIFY => 32
  | .LANE_USABLE | .LANE_LOCKED | .LINK_SET | .CAP_DUTY | .THERM_DUTY => 4
  | .CR_LIMIT | .CR_USED | .CR_FREED => 24
  | .CH_MASK | .VX_MFLAGS | .CAP_OVER => 5
  | .RR_SRC => 6
  | .RN_H => 10
  | .LA => 4288
  | .CE_LATE | .CE_REM => 33
  | .WS_HEAD => 20
  | _ => 1

/-- What holds an internal variable, and so which reset reaches it: its tile, its matrix array, its tile or (at 40) the triggered agent, its
link port, its F-die core, its stack interface, the GT block, the management cluster, the crypto engine, or nothing that a reset other
than an aux power-on reaches. -/
inductive Scope where
  | tile | array | coll | port | fdie | stack | gt | mgmt | crypto | none
deriving DecidableEq, Repr

/-- The holder of a variable. -/
def Var.scope (v : Var) : Scope :=
  match v with
  | .SYNC_SENT | .SYNC_SENT_AT | .FIRST_LOCK | .SYNC_RUN | .SYNC_OUT_AT | .SYNC_OUT_CNT | .TICK_AT | .SCHED_AT 
  | .SCHED_BY_SLOT | .LAUNCH_STAGED | .LAUNCH_NODE | .FR_REF_STALL | .FR_TBAND | .FR_LINK_CHG | .FR_UNLOCKED 
  | .FR_LATE_REL | .FR_RETRY | .FR_THROTTLED | .FR_MAINT | .LAST_OFF => .gt
  | .TILE_JOB | .IN_FRAMES | .WDOG_FRAMES | .GP | .SV | .PC | .MARK_GP | .MARK_SV | .STALLED | .STEPPING 
  | .STOPPED | .RUN_AT | .ISSUE_SEQ | .DFAULT_MSG | .DMEM_BAD | .IMEM_BAD | .PREEMPT_AT | .PREEMPT_TICKS 
  | .PREEMPT_LATE | .TRK_SEQ | .TS_CHK | .TS_POIS | .TILE_REF | .CALD_W | .SPEC_RELEASE | .CMP_AT | .RN_W | .RN_H 
  | .RN_AT | .RN_PCMD | .RN_POWN | .RN_FILL_AT | .VX_LAST | .VX_ISSUED | .SPEC_STALL | .EXC_MARK | .CTX_STATUS 
  | .SAVE_OUT | .REC_COUNT0 | .VX_POIS | .VX_BAD | .MARK_VX | .LA | .LA_FLAG | .LA_POIS | .LA_COUNT | .VX_PREV 
  | .VX_PIPE | .VX_READY | .VX_REND | .VX_FLOOR | .VX_MFLAGS | .VX_MDISC | .LENDS | .SOLVES | .RS_BAD | .SQ_AT 
  | .FUNC_DIS_AT | .SV_BUF_BAD | .SV_LAST | .ENG_LAST | .CORE_AT | .VX_LASTN | .RENNET_RUN => .tile
  | .EVENTS_LOST | .LEAK_TICKS | .LEAK_AT | .UE_PEND | .UE_FRAME | .PPR_AT | .TS_REP_AT | .RAW_CMD | .MB_AT 
  | .MB_BEGUN | .PERIOD_AT | .PERIOD_CNT | .CALM => .mgmt
  | .LINK_AT | .LINK_ALIGNED | .LANE_USABLE | .LANE_LOCKED | .LINK_SET | .LINK_QCLASS | .DETECT_AT | .LINK_DRAIN 
  | .LINK_DRAIN_AT | .TX_SEQ | .RX_SEQ | .TX_RESEND | .TX_EVENT | .RX_NAK | .RX_EVENT | .TX_MSG | .CR_LIMIT 
  | .CR_USED | .CR_FREED | .SOAK_OK | .RECON_AT => .port
  | .RT | .RT_READ_AT | .NI_MAP_SHUT => .fdie
  | .WIN_AT | .RR_SRC | .TEMP_AT | .STACK_TRIP => .stack
  | .MX_LOAD | .MX_STREAM | .MX_EPI | .MX_DONE | .MX_BUF | .MX_BANK | .MX_ACC | .MX_NBUF | .MX_ROWP | .MX_COLP 
  | .MX_BAD | .BIST_AT | .BIST_RUN => .array
  | .CE_SEQ | .CE_STALE | .CE_LATE | .CE_REM | .CE_ABSEQ => .coll
  | .EXT_SLOT | .EXT_VAL => .crypto
  | _ => .none

/-- The value after reset; zero unless a rule or the log gives another. -/
def Var.resetVal (v : Var) (_i _j : Nat) : Nat :=
  match v with
  | .WS_HEAD => 4096
  | .CAP_DUTY | .THERM_DUTY => 8
  | _ => 0

/-- One place of the numbered state: a register field or an internal variable, with its instance. -/
inductive Loc where
  | reg (f : Fld) (i j : Nat)
  | var (v : Var) (i j : Nat)
deriving DecidableEq, Repr

/-- Two numbers as one. -/
def pairNat (a b : Nat) : Nat := if a < b then b * b + a else a * a + a + b

/-- The key number of a place: no two places share one. -/
def Loc.num : Loc → Nat
  | .reg f i j => pairNat (pairNat i j) (2 * f.ctorIdx)
  | .var v i j => pairNat (pairNat i j) (2 * v.ctorIdx + 1)

/-- The width of a place. -/
def Loc.width : Loc → Nat
  | .reg f _ _ => f.width
  | .var v _ _ => v.width

/-- What a place holds after reset. -/
def Loc.resetVal : Loc → Nat
  | .reg f i j => f.resetVal i j % 2 ^ f.width
  | .var v i j => v.resetVal i j % 2 ^ v.width

end Sys2Proof.Machine
end

