-- ==== Sys2Proof/Machine/Types.lean ====
section
/-! DEFINITION. The typed pieces of the state: queues, descriptors in flight, packets, windows and records. -/
namespace Sys2Proof.Machine

/-- The one-time fuses: lifecycle state (Table 20.3), fused SVN, revoked and blank key slots, and the entries of the field fuse
bank in programming order (R456). -/
structure Fuses where
  lifecycle : Nat
  svn : Nat
  revoked : Nat
  blank : Nat
  entries : List Nat
deriving DecidableEq, Repr

/-- The fuses of a package as shipped (R487 and log entry 3). -/
def Fuses.shipped : Fuses := ⟨1, 0, 0, 14, []⟩


/-- A frame that a tile has opened and not closed (R50): its number, the GTC at which it ends, how many ticks have followed its
opening tick, the GT_FSTAT of the frame once it has ended, and whether its overrun record is already queued (R51). -/
structure OpenFrame where
  num : Nat
  endGtc : Nat
  ticks : Nat
  fstat : Nat
  recorded : Bool
deriving DecidableEq, Repr

/-- What the firmware writes about one overrun frame (R51). -/
structure Overrun where
  job : Nat
  tile : Nat
  frame : Nat
  late : Nat
  fstat : Nat
  gtc : Nat
deriving DecidableEq, Repr

/-- An event queued for the host (Table 18.3); `data` lists the fields that Table 18.4 names for its kind. -/
structure Event where
  gtc : Nat
  kind : Nat
  status : Nat
  job : Nat
  data : List Nat
deriving DecidableEq, Repr

/-- A rind-log record (Table 21.1) as its writer forms it; `data` holds the DATA bytes. -/
structure RindRec where
  gtc : Nat
  source : Nat
  status : Nat
  flags : Nat
  seq : Nat
  kind : Nat
  data : List Byte
deriving DecidableEq, Repr


/-- The firmware's classes of work, in the order it serves them (Table 18.1). -/
inductive WorkClass where
  | safety | fabric | job | telemetry
deriving DecidableEq, Repr

/-- What raised a work item for the firmware. -/
inductive WorkKind where
  | overrun | uncorrectable | bucketOverflow | throttle | stackTrip | dieWarning | dutyChange | recordDropped | tileWatchdog
  | doubleFault | linkState | preemptLate | sample | tileMessage | railEvent | triggered
deriving DecidableEq, Repr

/-- An item of firmware work: an interrupt that the hardware raised, or work that fell due. -/
structure WorkItem where
  cls : WorkClass
  kind : WorkKind
  arg : Nat
  since : Nat
deriving DecidableEq, Repr


/-- A 64 B descriptor in an engine's queue (R70, R72): its 512 bits, the tile's issue number, the clock cycle in which it issued,
whether a speculation window was open then, whether it came from a marked register (R77, R213), and for an FS_OPEN that opened
no window the status it will report (R206). -/
structure Desc where
  raw : Nat
  seq : Nat
  issued : Nat
  win : Bool
  marked : Bool
  note : Nat
deriving DecidableEq, Repr

/-- A descriptor that an engine has started: when it started, the clock cycle in which it completes, and what it will report. -/
structure Running where
  desc : Desc
  start : Nat
  done : Nat
  status : Nat
  val0 : Nat
  val1 : Nat
  spec : Bool
deriving DecidableEq, Repr

/-- A load that has issued and whose answer has not been taken (R69, R530): its destination, the PC of the load, its first
address, its size, whether it was issued before the exception entry now in force, and the answer once known: a status, the
lowest poisoned granule, the bytes, whether it comes from the caldera or a SPEC summary, and its tracker issue number. -/
structure PendLoad where
  dest : Dest
  pc : Nat
  addr : Nat
  size : Nat
  preExc : Bool
  answered : Bool
  status : Nat
  badAddr : Nat
  data : Nat
  mark : Bool
  trk : Nat
deriving DecidableEq, Repr

/-- A counter wait in progress (R75): the counter, the value, and the deadline of a wait.dl. -/
structure Wait where
  counter : Nat
  value : Nat
  deadline : Option Nat
deriving DecidableEq, Repr


/-- A vx instruction in the vector queue (R143, R144): its word, the values of the general registers it reads, its number and the
clock cycle of its issue, whether a window was open then, whether a register it read was marked, and the same for its fp. -/
structure VxQ where
  word : Nat
  base : Nat
  stride : Nat
  seq : Nat
  issued : Nat
  win : Bool
  marked : Bool
deriving DecidableEq, Repr

/-- A summary or mark of the vector engine that completes in a given clock cycle (R163, R165). -/
structure VxDone where
  done : Nat
  counter : Nat
  slot : Option Nat
  status : Nat
  val0 : Nat
  val1 : Nat
  cycles : Nat
  spec : Bool
deriving DecidableEq, Repr


/-- A matrix descriptor that has started and not completed (R97, R131): its start cycle, the k-steps and epilogues done, the load
cycle of a k-step whose stream waits at its gate, whether it waits at a gate or is held for confirm, the cycle after its last
stream, its completion cycle as far as known and whether that is final, a status that ended it early, what it has met, its stall
cycles, whether it is speculative, and for an MMF the slice counts, outputs set to NaN, pair-k-steps, preparation cycles, largest
spans and poisoned lines of A and B, and poisoned rows of the block. -/
structure MxRun where
  desc : Desc
  start : Nat
  pos : Nat := 0
  ld : Option Nat := none
  wait : Bool := false
  held : Bool := false
  streamEnd : Nat := 0
  done : Nat := 0
  fin : Bool := false
  status : Nat := 0
  wrap : Bool := false
  poison : Bool := false
  pg : Nat := 0
  stall : Nat := 0
  spec : Bool := false
  sa : Nat := 0
  sb : Nat := 0
  nan : Nat := 0
  steps : Nat := 0
  prep : Nat := 0
  dmaxA : Nat := 0
  dmaxB : Nat := 0
  badA : List Nat := []
  badB : List Nat := []
  badR : List Nat := []
deriving DecidableEq, Repr

/-- A solve in progress (R180): its descriptor, start, phase as SV_STAT.PHASE and the cycle the phase ends, its deadline as a GTC
value, whether it is speculative and has met poison, iterations begun, accepted and rejected, pivot replacements, whether it began
and completed a factor, the norms of b, r0 and the current residual, ‖A‖, b, the current iterate and its residual and the candidate
in the stored order (FP64 encodings), and once it has ended its status and the phase it ended in. -/
structure SvRun where
  desc : Desc
  start : Nat
  phase : Nat
  phaseEnd : Nat
  deadline : Option Nat
  spec : Bool
  poison : Bool
  iter : Nat := 0
  accepted : Nat := 0
  rejected : Nat := 0
  pivots : Nat := 0
  begun : Bool := false
  factored : Bool := false
  normB : Nat := 0
  norm0 : Nat := 0
  norm : Nat := 0x7FF0000000000000
  normA : Nat := 0
  normC : Nat := 0
  b : List Nat := []
  x : List Nat := []
  r : List Nat := []
  xc : List Nat := []
  rc : List Nat := []
  status : Nat := 0
  last : Nat := 0
  cut : Bool := false
deriving DecidableEq, Repr

/-- What a completed speculative solve presents on confirm (R197): the offset and length of X, whether it is poisoned, and the
summary. -/
structure SvOut where
  x : Nat
  len : Nat
  poison : Bool
  sum : List Byte
deriving DecidableEq, Repr


/-- A granule of a tile store as it stood before a write of a clock cycle while a compare ran (R209). -/
structure CmpSnap where
  granule : Nat
  clock : Nat
  data : List Byte
  bad : Bool
deriving DecidableEq, Repr


/-- A granule in the DMA engine's buffer (R248): its number, its bytes, whether it carries poison and whether its read failed. -/
structure DmaGran where
  k : Nat
  data : List Byte
  bad : Bool
  failed : Bool
deriving DecidableEq, Repr

/-- A DMA descriptor in progress (R250): its start; granules requested, hashed and written so far; the buffer; reads in flight as
first granule and count; writes in flight as first granule, count, poisoned granules and granules not yet counted as failed; the
poisoned and failed counts; the statuses it has met; how far its end has come (0 moving, 1 the counted write and flag are out) and
how many of those are unanswered; and the chain's CRC so far. -/
structure DmaRun where
  desc : Desc
  start : Nat
  rd : Nat := 0
  hk : Nat := 0
  wk : Nat := 0
  buf : List DmaGran := []
  reads : List (Nat × Nat) := []
  writes : List (Nat × Nat × Nat × Nat) := []
  pg : Nat := 0
  fl : Nat := 0
  conds : List Nat := []
  stage : Nat := 0
  tail : Nat := 0
  crc : Nat := 0
deriving DecidableEq, Repr

/-- A hash chain (R251): which hashes it takes, the CRC register, the sponge's 25 lanes and the bytes not yet absorbed, the bytes
hashed, and whether a granule of it was poisoned or failed. -/
structure HashChain where
  crcEn : Bool
  shaEn : Bool
  crc : Nat
  lanes : List Nat
  pend : List Byte
  n : Nat
  bad : Bool
deriving DecidableEq, Repr

/-- A request in a stack channel's queues (R263, R266): its source (physical tile, or 40 + F-die), whether it writes, the local
address, the length, the bytes written and their poison (bit 0 the first granule, bit 1 the second of a long request), the clock cycle in
which it registered, whether a write has been applied, and the answer of a read taken before a later write to its bytes. -/
structure StackReq where
  source : Nat
  write : Bool
  addr : Nat
  len : Nat
  data : List Byte
  poison : Nat
  at_ : Nat
  applied : Bool
  snap : Option (List Byte × Nat)
deriving DecidableEq, Repr

/-- The answer to a stack request: where it was, its status, its bytes and their poison. -/
structure StackAns where
  addr : Nat
  status : Nat
  data : List Byte
  poison : Nat
deriving DecidableEq, Repr

/-- A job context that is set up (Tables 18.6, 18.7): what its request gave; the layout's epoch, curds and block; the physical tiles of this package
that it is assigned; when it is ready; whether SETUP_READY was posted; the GTC of a JOB_END request plus 1 (0 for none); and, from its
launch on, its first step, one more than the launch value of its first run, the step that last opened at a known GTC, that GTC plus 1
(0 before the launch) and the end of the step before it (R401 to R404). -/
structure Job where
  jobId : Nat
  seed : Nat
  mode : Nat
  stepFrames : Nat
  tsLimit : Nat
  stackLimit : Nat
  layoutAddr : Nat
  nodes : List Nat
  commAddr : Nat
  commCount : Nat
  root : Nat
  tiles : List Nat
  readyAt : Nat
  streamsAt : Nat
  reused : Bool
  posted : Bool := false
  ending : Nat := 0
  s0 : Nat := 0
  lFirst : Nat := 0
  step : Nat := 0
  opened : Nat := 0
  prevEnd : Nat := 0
deriving DecidableEq, Repr


/-- What a link's payload queue holds (R315, R334): a sync message with its timestamp, or a packet. -/
inductive TxWhat where
  | sync (gtc : Nat)
  | pkt (p : Packet)
deriving DecidableEq, Repr

/-- A queued item and how many of its flits have been sent. -/
structure TxItem where
  what : TxWhat
  sent : Nat
deriving DecidableEq, Repr

/-- A link block that has been sent and not acknowledged (R317): its SEQ, its payload flits, the items whose last flit it
carries, and the items it carries part of. -/
structure TxBlock where
  seq : Nat
  flits : Nat
  ended : List TxWhat
deriving DecidableEq, Repr

/-- A packet at an F-die, and the link it came in on if any (R332). -/
structure FPacket where
  pkt : Packet
  via : Option Nat
deriving DecidableEq, Repr

/-- A block handed back by a link that went DOWN (R348): its SEQ, or none for queued flits, and its packets. -/
structure HeldBlock where
  seq : Option Nat
  pkts : List Packet
deriving DecidableEq, Repr

/-- What an NI holds for a link that went DOWN (R348 to R351): when RECONCILE was sent, whether the peer is unreachable, and the
blocks handed back. -/
structure Handback where
  at_ : Nat
  unreachable : Bool
  blocks : List HeldBlock
deriving DecidableEq, Repr

/-- Who issued a tracked request and what its answer is for. -/
inductive TrkOwner where
  | coreLoad | coreStore | coreAmo (dest : Dest)
  | dmaRead (seg : Nat) | dmaWrite (seg : Nat) | dmaFlag | dmaCount
  | collective | save
deriving DecidableEq, Repr

/-- The answer to a tracked request of an engine. -/
structure TrkDone where
  owner : TrkOwner
  seq : Nat
  status : Nat
  data : List Byte
  poison : Nat
deriving DecidableEq, Repr

/-- A request tracker entry (R342): its request, who waits for it, its place in the tile's issue order, whether it waits or has
been sent, and when it times out (a GTC for a remote request, a count from issue for a local one). -/
structure Track where
  pkt : Packet
  owner : TrkOwner
  seq : Nat
  sent : Bool
  local_ : Bool
  expires : Nat
deriving DecidableEq, Repr





/-- A token that a collective engine holds (Table 15.5), with the clock cycle in which it registered. -/
structure CeTok where
  kind : Nat
  comm : Nat
  seq : Nat
  member : Nat
  b6 : Nat
  base : Nat
  digest : Nat
  at_ : Nat
deriving DecidableEq, Repr

/-- What one operation of a collective does: it sends bytes of the work region or of a permutation's source; it takes bytes as they
come, or as the left or right operand of the reduction; or it sends or awaits a barrier token. -/
inductive CeAct where
  | send | sendFrom (src : Nat) | take | left | right | tokenOut | tokenIn
deriving DecidableEq, Repr

/-- One operation of a collective's plan (R370, R371): the level it paces, the peer's member index, the bytes of the work region or the
barrier round, its paced cycle from the start, the bytes sent or arrived so far, the data that arrived as offset, bytes and poisoned
granules, the cycle of the last arrival, and whether it is done. -/
structure CeOp where
  act : CeAct
  level : Nat
  peer : Nat
  lo : Nat
  n : Nat
  at_ : Nat
  cnt : Nat := 0
  got : List (Nat × List Byte × List Nat) := []
  reg : Nat := 0
  fin : Bool := false
deriving DecidableEq, Repr

/-- A collective in progress (R360 to R376): its descriptor, start and first tracker issue number; its member index, group index and
SEQ; the member table's address; the work region; the block by which its layout rotates (0 for none) and the block of the result (0 for
one whole message); group size and own block; the members that get READY and those that get an ABORT; whether READY was sent; the
operations; E of the last component and the level it paces; the lateness added; the pieces counted; the bytes landed for a PERMUTE; the
answers outstanding and the cycle of the last; whether an arrival of a triggered slot was poisoned; and the end, once fixed, with its
status. -/
structure CeRun where
  desc : Desc
  start : Nat
  trk0 : Nat
  member : Nat
  gi : Nat
  seq : Nat
  maddr : Nat
  work : Nat
  rblk : Nat
  pblk : Nat
  g : Nat
  d : Nat
  readyTo : List Nat
  nbrs : List Nat
  readySent : Bool := false
  ops : List CeOp
  eLast : Nat
  lastLevel : Nat
  late : Nat := 0
  pieces : Nat := 0
  landed : Nat := 0
  acks : Nat := 0
  ackAt : Nat := 0
  pois : Bool := false
  fin : Option (Nat × Nat) := none
deriving DecidableEq, Repr

/-- The latest sample of a telemetry counter group (R509): its register words in table order and the GTC of its first read. -/
structure Sample where
  words : List Nat
  gtc : Nat
deriving DecidableEq, Repr

/-- What the firmware keeps of a job's fabric set-up (R396): NODESET and ROUTES. -/
structure SetupRec where
  nodeset : List Byte
  routes : List Byte
deriving DecidableEq, Repr


/-- Firmware that follows a function to its final state (R434, Table 18.6): the function, its FUNC code, and the mailbox to return, or none
when the mailbox went back with 0x83 and a FUNCTION event follows. -/
structure FuncWait where
  func : Func
  code : Nat
  mbox : Option Nat
deriving DecidableEq, Repr

/-- The verified rennet image (R457): entry PC, instruction-memory and data-memory images. -/
structure Rennet where
  entry : Nat
  imem : List Byte
  dmem : List Byte
deriving DecidableEq, Repr

/-- A child in a broadcast (R460 to R462): its node, the GTC at which its last piece was sent, and how far it is: 0 sent, 1 acknowledged,
2 reported, 3 failed. -/
structure BChild where
  node : BitVec 16
  sentAt : Nat
  state : Nat
deriving DecidableEq, Repr

/-- An ADOPT sent: the package it names, the alternate parent it went to, and its GTC (R461). -/
structure Adopt where
  node : BitVec 16
  parent : BitVec 16
  since : Nat
deriving DecidableEq, Repr

/-- A broadcast that the package holds (R460 to R462): the message, the parent it came from (none at the root), its children, the ADOPT messages
unacknowledged, what its report lists, and whether the report has gone. -/
structure BState where
  msg : BMsg
  parent : Option (BitVec 16)
  children : List BChild
  adopts : List Adopt
  report : SubReport
  reported : Bool
deriving DecidableEq, Repr

/-- What the firmware sends to another package: its messages in class 3 (R460 to R462), and its stores into that package's stack (R408, R413). -/
inductive FwWhat where
  | bcast (m : BMsg)
  | hopAck (ident : BitVec 32)
  | adopt (ident : BitVec 32) (named : BitVec 16)
  | adoptAck (ident : BitVec 32) (named : BitVec 16)
  | report (ident : BitVec 32) (r : SubReport)
  | store (addr : Nat) (data : List Byte)
deriving DecidableEq, Repr

/-- A message of the firmware and its destination. -/
structure FwMsg where
  dst : BitVec 16
  what : FwWhat
deriving DecidableEq, Repr


/-- A checkpoint destination of a policy (R411): a peer package and local base, or the package's own staging region for the host. -/
structure CkDest where
  node : Nat
  base : Nat
  host : Bool
deriving DecidableEq, Repr

/-- A checkpoint policy (R402, R404): INTERVAL and PERIOD (0 where not selected), CK_FRAMES, whether the manifest is signed, the destinations, and the
first step in force. -/
structure CkPolicy where
  interval : Nat
  period : Nat
  ckFrames : Nat
  sign : Bool
  dests : List CkDest
  first : Nat
deriving DecidableEq, Repr

/-- A generation in progress (R403 to R415): its number and step, the slot at each destination, where each curd of this package goes (curd, tile,
destination, address), whether the orders were posted, T_cut plus 1 once it is cut (0 before), and the shards posted so far. -/
structure CkGen where
  gen : Nat
  step : Nat
  slots : List Nat
  places : List (Nat × Nat × Nat × Nat)
  ordered : Bool
  cut : Nat
  shards : List Shard
deriving DecidableEq, Repr

/-- Checkpointing of a job: its policy, the policy before it (in force for the steps before the new one's first), the next generation number, the
generations in progress, and the slot of the newest valid generation at each destination. -/
structure Ck where
  policy : CkPolicy
  old : Option CkPolicy
  next : Nat
  gens : List CkGen
  newest : List (Option Nat)
deriving DecidableEq, Repr

/-- A shard on its way to host storage (R411): what its path is formed from, and its place in the staging region. -/
structure HostShard where
  jobId : Nat
  gen : Nat
  kind : Nat
  curd : Nat
  addr : Nat
  len : Nat
deriving DecidableEq, Repr

/-- A manifest entry (Table 17.4). -/
structure ManEntry where
  kind : Nat
  poisoned : Bool
  host : Bool
  curd : Nat
  writer : Nat
  dest : Nat
  addr : Nat
  len : Nat
  sha : List Byte
  crc : Nat
deriving DecidableEq, Repr

/-- A restore (R416 to R419): what its response carried, the manifest it loads, and, once it has ended, its status and the shards at fault (KIND,
status, CURD, STEP). -/
structure RestoreRun where
  jobId : Nat
  job : Nat
  gen : Nat
  step : Nat
  epoch : Nat
  shardEpoch : Nat
  lFirst : Nat
  tCut : Nat
  layoutAddr : Nat
  entries : List ManEntry
  loading : Bool
  status : Nat
  bad : List (Nat × Nat × Nat × Nat)
deriving DecidableEq, Repr

/-- An armed check-value unit (R501 to R506): its descriptor, the cycle it started, the records completed and not yet decided with
the cycle each decision falls due, the bytes of the record in progress and whether a granule of it carries poison, the running
span CRC, the alive value that record 0 is held against, and the counts so far. -/
structure CvArm where
  desc : Desc
  start : Nat
  recs : List (List Byte × Bool × Nat)
  buf : List Byte
  bufBad : Bool
  chain : Nat
  alive0 : Nat
  decided : Nat
  crcMis : Nat
  aliveMis : Nat
  anyMis : Nat
  first : Option Nat
  poisoned : Nat
deriving DecidableEq, Repr


/-- The SPDM responder (R490): how far the connection has come (0 none, 1 version, 2 capabilities, 3 algorithms), and the transcripts of version to
algorithms, of digests and certificate for a challenge, and of the measurements since the last signature. -/
structure Spdm where
  stage : Nat := 0
  vca : List Byte := []
  chal : List Byte := []
  meas : List Byte := []
deriving DecidableEq, Repr

end Sys2Proof.Machine
end

