-- ==== Sys2Proof/Machine/State.lean ====
section
/-! DEFINITION. The state of the block as plain data, the reasons a step can stop, and the state after reset. -/
namespace Sys2Proof.Machine

/-- The typed pieces of the state. A map from numbers has an entry only where something is held. -/
structure Parts where
  /-- The open frames of physical tile k, oldest first (R50) -/
  openFrames : LMap OpenFrame := []
  /-- Overrun records the firmware has still to write (R51) -/
  overruns : List Overrun := []
  /-- The event queue in management SRAM, oldest first (R437) -/
  events : List Event := []
  /-- The rind-log writer's queue, oldest first (R495) -/
  rindQueue : List RindRec := []
  /-- Fatal records held at their source while the queue is full (R495) -/
  rindHeld : List RindRec := []
  /-- Interrupts raised to the firmware and work that fell due, oldest first (R423, Table 18.1) -/
  work : List WorkItem := []
  /-- The descriptor queue of engine e of physical tile t, at key 8 × t + e (R70) -/
  queues : LMap Desc := []
  /-- The descriptor in progress in engine e of physical tile t, at key 8 × t + e (R70) -/
  running : NMap Running := []
  /-- Loads of physical tile k whose answers are outstanding, in issue order (R69, R530) -/
  loads : LMap PendLoad := []
  /-- The counter wait of physical tile k (R75) -/
  waits : NMap Wait := []
  /-- Payload queued to link k, front first (R313) -/
  linkTx : LMap TxItem := []
  /-- Link k's replay buffer, oldest first (R317) -/
  replay : LMap TxBlock := []
  /-- Packets at F-die k that await forwarding (R332) -/
  fdiePkts : LMap FPacket := []
  /-- Packets for this node that reach the NI of F-die k (R337) -/
  niIn : LMap Packet := []
  /-- Packets that the NI of F-die k holds until their release value (R54) -/
  niHeld : LMap Packet := []
  /-- Requests delivered to their targets: from the NI of F-die k, or from the package's own networks at k = 4 (R339) -/
  serving : LMap Packet := []
  /-- Responses delivered to the tracker of physical tile k (R342), to the P-die at 63, and at 64 + l the RECONCILE answer of link l (R350) -/
  responses : LMap Packet := []
  /-- The request tracker of physical tile k, in issue order (R342) -/
  tracker : LMap Track := []
  /-- Issue number and status of the requests of physical tile k that completed and that a later flag counts (R344 to R347) -/
  flagScope : LMap (Nat × Nat) := []
  /-- Answers to requests of the engines of physical tile k that they have not taken (R342) -/
  trkDone : LMap TrkDone := []
  /-- What the NI holds for link k after it went DOWN (R348) -/
  handbacks : NMap Handback := []
  /-- Messages the root has still to broadcast, oldest first (R63, R443) -/
  bcastOut : List BContent := []
  /-- Requests admitted at stack channel n = 20 × ch + stack, in admission order (R261, R266) -/
  chanQ : LMap StackReq := []
  /-- Stack requests held at their bridge ports (R266, R281) -/
  stackHeld : List StackReq := []
  /-- Answers delivered to stack source k (R270) -/
  stackAns : LMap StackAns := []
  /-- Bursts whose scrub write-back is due in the next window (R298, R299) -/
  scrubWB : List Nat := []
  /-- Run-time repairs that the firmware records in the field fuse bank at the next bring-up (R302), as PM_FUSE_DATA words -/
  repairs : List Nat := []
  /-- The job contexts that are set up (R442) -/
  jobs : NMap Job := []
  /-- The descriptor armed in check-value unit u of physical tile t, at key 2 × t + u (R501) -/
  cv : NMap CvArm := []
  /-- Generator state of physical tile k as of the cycle its speculation window opened (R235) -/
  rnShadow : NMap (List (Loc × Nat)) := []
  /-- Vx instructions queued to the vector engine of physical tile k, in issue order (Table 3.3) -/
  vq : LMap VxQ := []
  /-- Summaries and marks of the vector engine of physical tile k that have started and not completed (R163, R165) -/
  vxDone : LMap VxDone := []
  /-- The recorder buffer of physical tile k: tile-store offset and entry of each descriptor issued in the open window (R257) -/
  recBuf : LMap (Nat × Nat) := []
  /-- The write cycle of each store of the vector engine of physical tile k, and the offsets and lengths it writes (R145) -/
  vxStores : LMap (Nat × List (Nat × Nat)) := []
  /-- Granules that the vector engine of physical tile k has written with poison since its last mark (R165) -/
  vxPois : LMap Nat := []
  /-- Numbers of the lends of physical tile k that the vector engine discarded (R189) -/
  lendsOff : LMap Nat := []
  /-- Matrix descriptors of physical tile k that have started and not completed, in issue order (R97) -/
  mx : LMap MxRun := []
  /-- The solve in progress in the solver engine of physical tile k (R180) -/
  sv : NMap SvRun := []
  /-- What speculative solves of physical tile k present on confirm (R197) -/
  svSnoop : LMap SvOut := []
  /-- The descriptor in progress in the DMA engine of physical tile k (R250) -/
  dm : NMap DmaRun := []
  /-- The hash chain that the DMA engine of physical tile k holds (R251) -/
  chain : NMap HashChain := []
  /-- Granules of the store of physical tile k as they stood before writes while a compare ran, oldest first (R209) -/
  cmpSnap : LMap CmpSnap := []
  /-- The collective in progress on physical tile k, or on triggered slot k − 40 of F-die 0 (R365, R380) -/
  ce : NMap CeRun := []
  /-- The READY and BARRIER tokens that the collective engine of physical tile k holds, or at 40 the triggered agent (R370) -/
  ceTok : LMap CeTok := []
  /-- Tokens of agent k (tile, or 40 + triggered slot) that wait for a tracker entry: member entry and data (R342, R370) -/
  ceOut : LMap (Nat × List Byte) := []
  /-- The bytes that the last I3C read returned (R500, R522) -/
  i3cOut : List Byte := []
  /-- What the firmware waits for at function transitions, oldest first (R434) -/
  funcWait : List FuncWait := []
  /-- The firmware's verified copy of the rennet image (R457, R466) -/
  rennet : Option Rennet := none
  /-- The last 1,024 samples of package power, newest first (R470) -/
  powSamples : List Nat := []
  /-- The measurement slots and boot fields that entry to Dormant saved (R473, R486) -/
  secSaved : List (Loc × Nat) := []
  /-- The broadcasts that the package holds (R460) -/
  bcasts : List BState := []
  /-- Packages to adopt for broadcasts that the package does not hold yet (R461) -/
  adoptWait : List (BitVec 32 × BitVec 16) := []
  /-- Messages that the firmware has sent to other packages, oldest first (R460 to R462) -/
  fwOut : List FwMsg := []
  /-- The latest sample of telemetry counter group k (R509, Table 21.7) -/
  telem : NMap Sample := []
  /-- The set-up record (R396) -/
  setup : Option SetupRec := none
  /-- Checkpointing of job context k (R402 to R415) -/
  ck : NMap Ck := []
  /-- The latest restore (R416 to R419, RESTORE_RESULT) -/
  restore : Option RestoreRun := none
  /-- Shards and manifests moved to host storage, oldest first (R411) -/
  hostOut : List HostShard := []
  /-- What the SPDM responder holds of the exchange in progress (R490) -/
  spdm : Spdm := {}
deriving DecidableEq, Repr

/-- The typed pieces after reset: nothing queued, nothing held. -/
def Parts.mk0 : Parts := Parts.mk [] [] [] [] [] [] [] [] [] [] [] [] [] [] [] [] [] [] [] [] [] [] [] [] [] [] [] [] [] [] [] [] [] [] [] [] [] [] [] [] [] [] [] [] [] [] [] none [] [] [] [] [] [] none [] none [] {}

/-- The machine. `pending` is the queue of commands, front first; no command changes it. `gtc` is the GTC, which every replica
equals in every cycle (R34). `clock` counts clock cycles (R6) and never jumps, so durations are measured on it. `file` holds
every register field and internal variable that differs from its reset value. `mem` holds the bytes of every memory of the
package that differ from zero, at the addresses of `Machine/Ops.lean`. `parts` holds queues, packets and records. `fuses` and
`mram` are the one-time and the non-volatile stores, which only the commands of their own rules change (R456, R487, R494). -/
structure State where
  pending : List Instr := []
  gtc : Nat := 0
  clock : Nat := 0
  file : List (Loc × Nat) := []
  mem : List Host.Cell := []
  parts : Parts := Parts.mk0
  fuses : Fuses := Fuses.shipped
  mram : NMap RindRec := []
deriving DecidableEq, Repr

/-- Why a step stops. -/
inductive Fault where
  /-- No command raises it: the spec describes no state in which the block stops (safe). -/
  | halted
deriving DecidableEq, Repr

/-- Why a command has no meaning. -/
inductive Refusal where
  /-- Raised by an arm of `exec` whose command has no meaning yet (safe). -/
  | notModelled (mnemonic : String)
deriving DecidableEq, Repr

/-- The state of the package when the aux rail has just risen and nothing else has happened: every register field at its Reset
column value (R11), every memory zero, every queue empty. -/
def State.reset : State :=
  { pending := [], gtc := 0, clock := 0, file := [], mem := [], parts := Parts.mk0, fuses := Fuses.shipped, mram := [] }

end Sys2Proof.Machine
end

