-- ==== Sys2Proof/Machine/Ops.lean ====
section
/-! DEFINITION. The named operations over the state. A meaning lists what it does as acts; `State.run` carries them out, and
nothing else changes the state inside a command. No act changes the command queue, the GTC, the clock, the fuses or the rind
log's MRAM: the few commands that do say so themselves. -/
namespace Sys2Proof.Machine

/-- One change of the state. -/
inductive Act where
  /-- A register field takes a value, cut to its width. -/
  | reg (f : Fld) (i j v : Nat)
  /-- An internal variable takes a value, cut to its width. -/
  | var (v : Var) (i j x : Nat)
  /-- A byte of memory takes a value. -/
  | byte (a : Nat) (b : Byte)
  /-- A queue, packet list or record changes. -/
  | parts (f : Parts → Parts)
  /-- The places that satisfy the test return to their reset values. -/
  | clear (p : Loc → Bool)
  /-- The bytes whose addresses satisfy the test return to zero. -/
  | clearMem (p : Nat → Bool)

/-- The value of a place. -/
def State.get (s : State) (l : Loc) : Nat := sget Loc.num Loc.resetVal s.file l

/-- The value of a register field as the hardware holds it. -/
def State.rd (s : State) (f : Fld) (i : Nat := 0) (j : Nat := 0) : Nat := s.get (.reg f i j)

/-- The value of an internal variable. -/
def State.vr (s : State) (v : Var) (i : Nat := 0) (j : Nat := 0) : Nat := s.get (.var v i j)

/-- The byte of memory at an address of the model's flat memory. -/
def State.byte (s : State) (a : Nat) : Byte := sget id (fun _ => 0) s.mem a

/-- The file with a place holding a value, cut to the place's width. -/
def setLoc (file : List (Loc × Nat)) (l : Loc) (v : Nat) : List (Loc × Nat) :=
  sput Loc.num Loc.resetVal file l (v % 2 ^ l.width)

/-- The state after one act. -/
def State.act (s : State) : Act → State
  | .reg f i j v => { s with file := setLoc s.file (.reg f i j) v }
  | .var v i j x => { s with file := setLoc s.file (.var v i j) x }
  | .byte a b => { s with mem := sput id (fun _ => 0) s.mem a b }
  | .parts f => { s with parts := f s.parts }
  | .clear p => { s with file := s.file.filter (fun e => !p e.1) }
  | .clearMem p => { s with mem := s.mem.filter (fun e => !p e.1) }

/-- The state after a list of acts, first to last. -/
def State.run (s : State) : List Act → State
  | [] => s
  | a :: as => (s.act a).run as

/-- What a step does, as a function of the state it finds. -/
abbrev Plan := State → List Act

/-- One plan and then another, which finds the state the first leaves. -/
def Plan.seq (p q : Plan) : Plan := fun s => let a := p s; a ++ q (s.run a)

/-- Plans one after another. -/
def plans : List Plan → Plan
  | [] => fun _ => []
  | p :: ps => Plan.seq p (plans ps)

/-- A plan carried out only where a condition holds. -/
def planIf (c : State → Bool) (p : Plan) : Plan := fun s => if c s then p s else []

/-- A plan for each element of a list, in order. -/
def planAll {α : Type} (l : List α) (p : α → Plan) : Plan := plans (l.map p)

/-- The state after a plan. -/
def State.perform (s : State) (p : Plan) : State := s.run (p s)

/-- A register field takes a value. -/
def wr (f : Fld) (v : Nat) (i : Nat := 0) (j : Nat := 0) : Act := .reg f i j v

/-- An internal variable takes a value. -/
def wv (x : Var) (v : Nat) (i : Nat := 0) (j : Nat := 0) : Act := .var x i j v

/-- A saturating counter field grows by `n`. -/
def bump (s : State) (f : Fld) (n : Nat) (i : Nat := 0) (j : Nat := 0) : Act :=
  .reg f i j (satAdd f.width (s.rd f i j) n)

/-- A wrapping counter field grows by `n`. -/
def bumpWrap (s : State) (f : Fld) (n : Nat) (i : Nat := 0) (j : Nat := 0) : Act :=
  .reg f i j ((s.rd f i j + n) % 2 ^ f.width)

/-- An internal counter grows by `n`, saturating. -/
def bumpV (s : State) (v : Var) (n : Nat) (i : Nat := 0) (j : Nat := 0) : Act :=
  .var v i j (satAdd v.width (s.vr v i j) n)

/-! ### Addresses of the flat memory (R240, Table 3.1) -/

/-- The first address of physical tile t's store; the stack memory lies from 0 on, at its local addresses (Table 10.1). -/
def storeBase (t : Nat) : Nat := 0x010000000000 + t * 0x1000000

/-- The core-private data memory of tile t lies above every local address. -/
def dmemBase (t : Nat) : Nat := 0x1000000000000 + t * 0x20000

/-- The core-private instruction memory of tile t. -/
def imemBase (t : Nat) : Nat := 0x1000000000000 + t * 0x20000 + 0x10000

/-- Host mailbox m (R427). -/
def mboxBase (m : Nat) : Nat := 0x018000800000 + m * 0x1000

/-- `n` bytes of memory from `a` on. -/
def State.bytes (s : State) (a n : Nat) : List Byte := (List.range n).map fun k => s.byte (a + k)

/-- The little-endian number in `n` bytes from `a` on (R5). -/
def State.num (s : State) (a n : Nat) : Nat := leNat (s.bytes a n)

/-- Bytes written to memory from `a` on. -/
def putBytes : Nat → List Byte → List Act
  | _, [] => []
  | a, b :: bs => .byte a b :: putBytes (a + 1) bs

/-- A little-endian number written to `n` bytes from `a` on. -/
def putNum (a n v : Nat) : List Act := putBytes a (leBytes n v)

/-! ### Domains, tiles and time -/

/-- The function state of a power domain: 0 OFF, 1 STARTING, 2 ON, 3 DRAINING (R31). -/
def State.dom (s : State) (d : Nat) : Nat := s.rd .PM_DOM_FSTATE 0 d

/-- A power domain is ON. -/
def State.domOn (s : State) (d : Nat) : Bool := s.dom d == 2

/-- GT_STAT.LOCKED as it reads: 1 in every cycle in a master mode (R529). -/
def State.locked (s : State) : Bool := s.rd .GT_STAT_LOCKED == 1

/-- GT_CTL.MODE is a master mode: 0b01 or 0b11 (R529). -/
def State.master (s : State) : Bool := s.rd .GT_CTL_MODE % 2 == 1

/-- A frame schedule is active (R44). -/
def State.scheduled (s : State) : Bool := s.rd .GT_FRAME_CUR_LEN != 0

/-- The acknowledgement timeout T_ack (R60). -/
def State.tAck (s : State) : Nat :=
  if s.scheduled then min (64 * s.rd .GT_FRAME_CUR_LEN) 10500000 else 10500000

/-- Debug is unlocked: SC_LC.DEBUG as it reads, 1 in RMA and for a boot whose image has DEBUG_ALLOW (R488). -/
def State.debug (s : State) : Bool := s.fuses.lifecycle == 2 || s.rd .SC_LC_DEBUG == 1

/-- The firmware runs: domain 169 is ON and it serves mailboxes. -/
def State.fwReady (s : State) : Bool := s.domOn 169 && s.rd .MB_STAT_FW_READY == 1

/-- The physical tile of a logical tile number, if it is below N (R18, R19): the map of F-die 0's interface. -/
def State.physOf (s : State) (l : Nat) : Option Nat :=
  if l < 64 ∧ s.rd .NI_MAP_VALID 0 l = 1 then some (s.rd .NI_MAP_PHYS 0 l) else none

/-- The logical number of a physical tile (R18). -/
def State.logicalOf (s : State) (t : Nat) : Nat := s.rd .TC_ID_LOGICAL t

/-- The GTC value that the rind-log writer stamps with: the GTC, or domain 168's shadow counter while domain 171 is not ON
(R496). -/
def State.stamp (s : State) : Nat :=
  if s.domOn 171 then s.gtc else (s.vr .SHADOW_BASE + Config.shadowDrift (s.clock - s.vr .SHADOW_CLK)) % 2 ^ 64

/-- A fresh free value for the purpose `k`; the caller also advances the counter. -/
def State.fresh (s : State) (k : Nat) : Nat := Config.fresh k (s.vr .FREE_CTR)

/-- The free-value counter moves on. -/
def takeFresh (s : State) : Act := .var .FREE_CTR 0 0 (s.vr .FREE_CTR + 1)

/-! ### Interrupts to the firmware, events and rind-log records -/

/-- An item of work is raised to the firmware. -/
def raise (cls : WorkClass) (kind : WorkKind) (arg : Nat) : Plan := fun s =>
  [.parts fun p => { p with work := p.work ++ [⟨cls, kind, arg, s.gtc⟩] }]

/-- The firmware queues an event; a full queue of 4,096 discards it and counts it (R437). -/
def postEvent (kind status job : Nat) (data : List Nat) : Plan := fun s =>
  if s.parts.events.length < 4096 then
    [.parts fun p => { p with events := p.events ++ [⟨s.gtc, kind, status, job, data⟩] }]
  else [bumpV s .EVENTS_LOST 1]

/-- A record as its source forms it: TIME_INVALID before first lock, TIME_EST while domain 171 is not ON (R496). -/
def State.rindRec (s : State) (gtc source status kind : Nat) (fatal redact : Bool) (data : List Byte) : RindRec :=
  { gtc := gtc, source := source, status := status,
    flags := (if s.vr .FIRST_LOCK = 1 then 0 else 1) + (if redact then 2 else 0) + (if s.domOn 171 then 0 else 8)
      + (if fatal then 16 else 0),
    seq := s.rd .BB_SEQ_NEXT, kind := kind, data := (data ++ List.replicate 40 0).take 40 }

/-- The record is marked fatal. -/
def RindRec.fatal (r : RindRec) : Bool := testB r.flags 4

/-- A record registers at the writer's queue and takes the next SEQ. Eight of the 64 entries are reserved for fatal records: a
non-fatal record that finds 56 in use is dropped and counted, and a fatal one that finds all 64 in use is held at its source
(R495). On the last-gasp reserve every new non-fatal record is refused (R498). -/
def queueRind (r : RindRec) : Plan := fun s =>
  let n := s.parts.rindQueue.length
  let due := if n = 0 then [wv .BB_DUE (s.clock + 2100)] else []
  if r.fatal then
    if n < 64 then
      [.parts fun p => { p with rindQueue := p.rindQueue ++ [{ r with seq := s.rd .BB_SEQ_NEXT }] },
       wr .BB_SEQ_NEXT (s.rd .BB_SEQ_NEXT + 1), wr .BB_STAT_QOCC (n + 1)] ++ due
    else [.parts fun p => { p with rindHeld := p.rindHeld ++ [r] }]
  else if s.vr .GASP = 1 then []
  else if n < 56 then
    [.parts fun p => { p with rindQueue := p.rindQueue ++ [{ r with seq := s.rd .BB_SEQ_NEXT }] },
     wr .BB_SEQ_NEXT (s.rd .BB_SEQ_NEXT + 1), wr .BB_STAT_QOCC (n + 1)] ++ due
  else
    [bump s .BB_STAT_DROPPED 1, bumpV s .DROP_PEND 1]
      ++ (if s.rd .BB_CTL_DROP_IRQ = 1 then raise .telemetry .recordDropped 0 s else [])

/-- The hardware writes a rind-log record stamped now. -/
def logRind (source status kind : Nat) (fatal : Bool) (data : List Byte) : Plan := fun s =>
  queueRind (s.rindRec s.stamp source status kind fatal false data) s

/-- A register word of the tile or package from its fields: each field at its lowest bit (R5). -/
def packFields (l : List (Nat × Nat)) : Nat := l.foldl (fun a (lo, v) => a + v * 2 ^ lo) 0

end Sys2Proof.Machine
end

