-- ==== Sys2Proof/Machine/Store.lean ====
section
/-! DEFINITION. Reading and writing stack memory and tile stores through their codes (Lastan Stack Memory, Stored-Data
Protection): the address hash, the decision of each granule, poison, partial writes, and the counting of errors. An address is
an address of the model's flat memory. -/
namespace Sys2Proof.Machine

/-- The first address above stack memory (Table 10.1). -/
def stackTop : Nat := 0x00F000000000

/-- Where a stack address lands (R261). -/
structure StackLoc where
  stack : Nat
  ch : Nat
  bank : Nat
  row : Nat
  byte : Nat
deriving DecidableEq, Repr

/-- The fixed address hash (R261). -/
def stackMap (a : Nat) : StackLoc :=
  let g := a / 256
  let q := g / 2560
  let r := g % 2560
  let h9 := (q ^^^ (q / 512) ^^^ (q / 262144)) % 512
  let h5 := (q % 512 + (q / 512) % 512 + q / 262144) % 5
  let n := 512 * ((r / 512 + h5) % 5) + ((r % 512) ^^^ h9)
  let row := q / 64
  { stack := n % 20, ch := n / 20, bank := ((q / 4) % 16) ^^^ (row % 16), row := row, byte := 256 * (q % 4) + a % 256 }

/-- What a read delivers: its bytes, the addresses of its poisoned granules, the accesses that corrected something (bucket,
address, position) and those that were uncorrectable (bucket, address, 1 for a poison mark). -/
structure Rd where
  data : List Byte
  bad : List Nat
  corr : List (Nat × Nat × Nat)
  unc : List (Nat × Nat × Nat)
deriving DecidableEq, Repr

/-- Two reads one after the other. -/
def Rd.append (a b : Rd) : Rd := ⟨a.data ++ b.data, a.bad ++ b.bad, a.corr ++ b.corr, a.unc ++ b.unc⟩

/-- The outcome of the codewords of a granule or sector (Table 12.1): clean, corrected at a position, a poison mark, or
uncorrectable; with the error position that the delivered data is corrected at, if any. -/
inductive GOut where
  | clean | corrected (p : Nat) | mark (p : Option Nat) | unc
deriving DecidableEq, Repr

/-- All codewords are clean or single at one position: that position, or `none` inside `some` when all are clean. -/
def onePosition : List CwClass → Option (Option Nat)
  | [] => some none
  | .other :: _ => none
  | .clean :: t => onePosition t
  | .single p :: t =>
    match onePosition t with
    | some none => some (some p)
    | some (some q) => if p = q then some (some p) else none
    | none => none

/-- The decision of Table 12.1 for codewords with the given stored differences; each is paired with its number in its
granule. -/
def decide12 (ws : List (Nat × Nat)) : GOut :=
  match onePosition (ws.map fun (_, d) => cwClass (diffSyn d).1 (diffSyn d).2) with
  | some none => .clean
  | some (some p) => .corrected p
  | none =>
    match onePosition (ws.map fun (w, d) => cwClass (diffSyn d).1 ((diffSyn d).2 ^^^ poisonMark w)) with
    | some p => .mark p
    | none => .unc

/-- The decision on a channel with a line masked at position x: the erased symbol is filled (R288). -/
def decideMasked (x : Nat) (ws : List (Nat × Nat)) : GOut :=
  let v := ws.map fun (w, d) => (w, (diffSyn d).2 ^^^ gfMul (diffSyn d).1 (gfAlpha x))
  if v.all fun (_, e) => e == 0 then .clean
  else if v.all fun (w, e) => e == 0 || e == poisonMark w then .mark none
  else .unc

/-- The 16 stored bytes of the codeword at local address 16 × c. -/
def State.cwBytes (s : State) (c : Nat) : List Byte := s.bytes (16 * c) 16

/-- The masked line position of the channel that holds a local address, if any. -/
def State.maskAt (s : State) (a : Nat) : Option Nat :=
  let m := stackMap a
  match s.vr .CH_MASK m.stack m.ch with
  | 0 => none
  | n + 1 => some n

/-- The channel of a local address failed training (R283). -/
def State.chFailed (s : State) (a : Nat) : Bool :=
  let m := stackMap a
  if m.ch < 64 then testB (s.rd .LS_CHFAIL0_CH m.stack) m.ch else testB (s.rd .LS_CHFAIL1_CH m.stack) (m.ch - 64)

/-- The outcome of the `n` codewords from c on, judged together. -/
def State.cwOutcome (s : State) (c n : Nat) : GOut :=
  let ws := (List.range n).map fun k => ((c + k) % 4, s.vr .STK_CHK (c + k))
  match s.maskAt (16 * c) with
  | some x => decideMasked x ws
  | none => decide12 ws

/-- The delivered bytes of `n` codewords from c on (R286, R288). -/
def State.cwData (s : State) (c n : Nat) : List Byte :=
  let fix := fun (p : Nat) => (List.range n).flatMap fun k => fixSymbol (s.cwBytes (c + k)) p (diffSyn (s.vr .STK_CHK (c + k))).1
  match s.maskAt (16 * c) with
  | some x => fix x
  | none =>
    match s.cwOutcome c n with
    | .corrected p => fix p
    | .mark (some p) => fix p
    | _ => s.bytes (16 * c) (16 * n)

/-- The bytes and outcome of codewords c to c + n - 1, with what they charge. The granule is at `g`. -/
def State.readCws (s : State) (c n : Nat) : Rd :=
  let b := (stackMap (16 * c)).stack
  let g := c / 4 * 64
  if s.chFailed (16 * c) then ⟨List.replicate (16 * n) 0, [g], [], []⟩
  else
    match s.cwOutcome c n with
    | .clean => ⟨s.cwData c n, [], [], []⟩
    | .corrected p => ⟨s.cwData c n, [], [(b, 16 * c, p)], []⟩
    | .mark _ => ⟨s.cwData c n, [g], [], [(b, 16 * c, 1)]⟩
    | .unc => ⟨s.cwData c n, [g], [], [(b, 16 * c, 0)]⟩

/-- One stack request: a long read of a 128 B block judges its two granules, a narrow read its sector; one request charges at
most one correction (R290, R293). -/
def State.readReq (s : State) (long : Bool) (a : Nat) : Rd :=
  let r := if long then (s.readCws (a / 16) 4).append (s.readCws (a / 16 + 4) 4) else s.readCws (a / 16) 2
  { r with corr := r.corr.take 1 }

/-- The requests that cover bytes a to a + n - 1: a long one for each whole aligned 128 B block, and a narrow one for every other
sector touched (R263). -/
def stackReqs (a n : Nat) : List (Bool × Nat) :=
  if n = 0 then [] else
  let b0 := a / 128
  let b1 := (a + n - 1) / 128
  (List.range (b1 + 1 - b0)).flatMap fun k =>
    let blk := (b0 + k) * 128
    if a ≤ blk ∧ blk + 128 ≤ a + n then [(true, blk)]
    else ((List.range 4).map fun q => blk + 32 * q).filterMap fun x =>
      if a < x + 32 ∧ x < a + n then some (false, x) else none

/-- A read of stack memory (R263, R286, R290). -/
def State.readStack (s : State) (a n : Nat) : Rd :=
  let rs := stackReqs a n
  let all := rs.foldl (fun (m : Rd) q => m.append (s.readReq q.1 q.2)) ⟨[], [], [], []⟩
  let start := match rs with | q :: _ => q.2 | [] => a
  { all with data := (all.data.drop (a - start)).take n, bad := all.bad.eraseDups }

/-! ### Tile stores -/

/-- The class of tile-store word `w` of tile t. -/
def State.tsClass (s : State) (t w : Nat) : WordClass := wordClass (s.vr .TS_CHK t w)

/-- The delivered bytes of tile-store word `w`: corrected, or as stored when uncorrectable (R291). -/
def State.tsWord (s : State) (t w : Nat) : List Byte :=
  let v := s.num (storeBase t + 8 * w) 8
  match s.tsClass t w with
  | .dataBit b => leBytes 8 (v ^^^ 2 ^ b)
  | _ => leBytes 8 v

/-- A read of the words of one granule that bytes `lo` to `lo + n - 1` of tile t's store touch; they lie in one granule. -/
def State.readTsPart (s : State) (t lo n : Nat) : Rd :=
  let g := lo / 64
  let w0 := lo / 8
  let ws := (List.range ((lo + n - 1) / 8 + 1 - w0)).map (w0 + ·)
  let base := storeBase t + 64 * g
  let unc := ws.filter fun w => s.tsClass t w == .uncorrectable
  let corr := ws.filter fun w => match s.tsClass t w with | .dataBit _ => true | .checkBit => true | _ => false
  let pois := s.vr .TS_POIS t g == 1
  { data := ((ws.flatMap (s.tsWord t)).drop (lo - 8 * w0)).take n,
    bad := if pois || !unc.isEmpty then [base] else [],
    corr := match corr with | [] => [] | w :: _ => [(20 + t, base, w % 8)],
    unc := if !unc.isEmpty then [(20 + t, base, 0)] else if pois then [(20 + t, base, 1)] else [] }

/-- Cuts bytes lo to lo + n - 1 at granule boundaries: the first address and length of each piece. -/
def granules (lo n : Nat) : List (Nat × Nat) :=
  if n = 0 then [] else
  (List.range ((lo + n - 1) / 64 + 1 - lo / 64)).map fun k =>
    let a := max lo ((lo / 64 + k) * 64)
    (a, min (lo + n) ((lo / 64 + k + 1) * 64) - a)

/-- A read of tile t's store from offset `off` on (R291). -/
def State.readTs (s : State) (t off n : Nat) : Rd :=
  (granules off n).foldl (fun (m : Rd) p => m.append (s.readTsPart t p.1 p.2)) ⟨[], [], [], []⟩

/-- The tile whose store holds a flat address at or above the stores' base, and the offset in it. -/
def tileOf (a : Nat) : Nat × Nat := ((a - 0x010000000000) / 0x1000000, (a - 0x010000000000) % 0x1000000)

/-- A read of stack memory or a tile store at a flat address. -/
def State.readMem (s : State) (a n : Nat) : Rd :=
  if a < stackTop then s.readStack a n else s.readTs (tileOf a).1 (tileOf a).2 n

/-! ### Counting (R293 to R296) -/

/-- The class of a bucket: 0 stack, 1 tile (R293). -/
def bucketClass (b : Nat) : Nat := if b < 20 then 0 else 1

/-- Bucket `b` is charged: above DEPTH it overflows, is held at DEPTH, sets its bit of EC_BKT_OVF, and with IRQ_EN raises a
telemetry-class interrupt when the bit was 0 (R293, R295). -/
def chargeBucket (b : Nat) : Plan := fun s =>
  let depth := s.rd .EC_BKT_CFG_DEPTH 0 (bucketClass b)
  let lv := s.rd .EC_BKT_LEVEL 0 b + 1
  let set_ := testB (s.rd .EC_BKT_OVF_BKT) b
  [wr .EC_BKT_LEVEL (min lv depth) 0 b, bump s .EC_BKT_CORR 1 0 b]
  ++ (if depth < lv then
        wr .EC_BKT_OVF_BKT (setB (s.rd .EC_BKT_OVF_BKT) b)
        :: (if ¬ set_ ∧ s.rd .EC_BKT_CFG_IRQ_EN 0 (bucketClass b) = 1 then
              plans [raise .telemetry .bucketOverflow b, postEvent 0x0007 0 0xFF [b, depth]] s else [])
      else [])

/-- A corrected access: one count to its bucket, and EC_LAST_CE (R293). -/
def noteCorr (e : Nat × Nat × Nat) : Plan := planIf (fun s => s.domOn 169) <| plans
  [chargeBucket e.1, fun _ => [wr .EC_LAST_CE_ADDR e.2.1, wr .EC_LAST_CE_BKT e.1, wr .EC_LAST_CE_POS e.2.2]]

/-- An uncorrectable read: UNCORR, EC_LAST_UE and a safety-class interrupt (R296). -/
def noteUnc (e : Nat × Nat × Nat) : Plan := planIf (fun s => s.domOn 169) <| plans
  [fun s => [bump s .EC_BKT_UNCORR 1 0 e.1, wr .EC_LAST_UE_ADDR e.2.1, wr .EC_LAST_UE_BKT e.1, wr .EC_LAST_UE_MARK e.2.2,
     bumpV s .UE_PEND 1 0 e.1],
   raise .safety .uncorrectable e.1]

/-- What a read charges. -/
def noteRead (r : Rd) : Plan := plans [planAll r.corr noteCorr, planAll r.unc noteUnc]

/-! ### Writes -/

/-- What requests for bytes a to a + n - 1 add to the stacks' counters (R284): long bursts, narrow requests, and the
read-modify-writes among narrow writes. -/
def traffic (a n : Nat) (write : Bool) : Plan := fun s =>
  if stackTop ≤ a then [] else
  let rs := (stackReqs a n).map fun q => ((stackMap q.2).stack, q.1, write && !q.1 && !decide (a ≤ q.2 ∧ q.2 + 32 ≤ a + n))
  (List.range 20).flatMap fun c =>
    let mine := rs.filter fun r => r.1 == c
    if mine = [] then [] else
    [wr .LS_TRAFFIC_BURSTS ((s.rd .LS_TRAFFIC_BURSTS c + (mine.filter fun r => r.2.1).length) % 2 ^ 64) c,
     bump s .LS_NARROW_SECTORS (mine.filter fun r => !r.2.1).length c,
     bump s .LS_NARROW_RMW (mine.filter fun r => r.2.2).length c]

/-- A scrub write-back of the burst at `a` is cancelled: newer data stands (R298). -/
def cancelScrub (a : Nat) : Act := .parts fun p => { p with scrubWB := p.scrubWB.filter (· != a / 128 * 128) }

/-- Codeword c holds the bytes and is stored clean, or with its poison mark (R289). -/
def putCw (c : Nat) (bs : List Byte) (poison : Bool) : List Act :=
  putBytes (16 * c) bs ++ [wv .STK_CHK (if poison then synDiff 0 (poisonMark c) else 0) c]

/-- The codewords of granule g other than those of sector `sec` take their marks when they do not hold them (R264, R289). -/
def markOther (g sec : Nat) : Plan := fun s =>
  ((List.range 4).map (4 * g + ·)).flatMap fun c =>
    if c / 2 = sec then []
    else match decide12 [(c % 4, s.vr .STK_CHK c)] with
      | .mark _ => []
      | _ => [wv .STK_CHK (synDiff 0 (poisonMark c)) c]

/-- A write of bytes `bs` from `a` on inside one sector, with or without poison: a whole sector is one chopped write, part of a
sector a read-modify-write. A granule that reads with poison stays poisoned, and an uncorrectable sector poisons it (R264,
R306). -/
def writeSector (a : Nat) (bs : List Byte) (poison : Bool) : Plan := fun s =>
  let sec := a / 32
  let g := a / 64
  let old := s.readCws (2 * sec) 2
  let whole := s.readCws (4 * g) 4
  let pois := poison || !old.bad.isEmpty || !whole.bad.isEmpty
  let merged := old.data.mapIdx fun k x => if a ≤ 32 * sec + k ∧ 32 * sec + k < a + bs.length then bs.getD (32 * sec + k - a) 0 else x
  if s.chFailed a then [] else
  putCw (2 * sec) (merged.take 16) pois ++ putCw (2 * sec + 1) (merged.drop 16) pois
  ++ (if pois then markOther g sec s else []) ++ [cancelScrub a]
  ++ (if bs.length = 32 then [] else if old.unc.isEmpty then [] else noteRead { old with corr := [] } s)

/-- A write of a whole granule in one long request or one DMA granule: it sets or clears the poison (R264, R289, R306). -/
def writeGranule (a : Nat) (bs : List Byte) (poison : Bool) : Plan := fun s =>
  if s.chFailed a then [] else
  ((List.range 4).flatMap fun k => putCw (a / 16 + k) ((bs.drop (16 * k)).take 16) poison) ++ [cancelScrub a]

/-- Cuts bytes lo to lo + n - 1 at sector boundaries. -/
def sectors (lo n : Nat) : List (Nat × Nat) :=
  if n = 0 then [] else
  (List.range ((lo + n - 1) / 32 + 1 - lo / 32)).map fun k =>
    let a := max lo ((lo / 32 + k) * 32)
    (a, min (lo + n) ((lo / 32 + k + 1) * 32) - a)

/-- A write to stack memory: `wide` for requests that write whole granules at once (long requests and DMA granules); `bad` lists
the granules whose data carries poison. -/
def writeStack (a : Nat) (bs : List Byte) (bad : List Nat) (wide : Bool) : Plan :=
  planAll (granules a bs.length) fun p =>
    let part := (bs.drop (p.1 - a)).take p.2
    let pois := bad.contains (p.1 / 64 * 64)
    if wide ∧ p.2 = 64 then writeGranule p.1 part pois
    else planAll (sectors p.1 p.2) fun q => writeSector q.1 ((part.drop (q.1 - p.1)).take q.2) pois

/-- Offset `o` of tile t's store lies in the tile's caldera (R201). -/
def State.inCaldera (s : State) (t o : Nat) : Bool :=
  let b := s.rd .FS_CALDERA_BASE t * 65536
  decide (b ≤ o ∧ o < b + s.rd .FS_CALDERA_SIZE t * 65536)

/-- Some byte of a range of tile t's store lies in its caldera. -/
def State.touchesCaldera (s : State) (t o n : Nat) : Bool :=
  let b := s.rd .FS_CALDERA_BASE t * 65536
  let z := s.rd .FS_CALDERA_SIZE t * 65536
  decide (0 < n ∧ 0 < z ∧ o < b + z ∧ b < o + n)

/-- A write of bytes `bs` from offset `lo` on inside one granule of tile t's store: whole words get new check bits, a part of a
word is merged into the corrected word, an uncorrectable word merged by a part poisons the granule, and only a write of all 64
bytes without poison clears the poison bit (R291, R306). While a window is open a write into the caldera sets the granule's
written flag (R203), and while a compare runs the granule is kept as it stood (R209). -/
def writeTsPart (t lo : Nat) (bs : List Byte) (poison : Bool) : Plan := fun s =>
  let n := bs.length
  let w0 := lo / 8
  let ws := (List.range ((lo + n - 1) / 8 + 1 - w0)).map (w0 + ·)
  let isWhole := fun w => decide (lo ≤ 8 * w ∧ 8 * w + 8 ≤ lo + n)
  let ue := ws.any fun w => !isWhole w && s.tsClass t w == .uncorrectable
  (ws.flatMap fun w =>
    let old := s.tsWord t w
    putBytes (storeBase t + 8 * w) (old.mapIdx fun k x => if lo ≤ 8 * w + k ∧ 8 * w + k < lo + n then bs.getD (8 * w + k - lo) 0 else x)
      ++ [wv .TS_CHK 0 t w])
  ++ (if poison ∨ ue then [wv .TS_POIS 1 t (lo / 64)] else if n = 64 then [wv .TS_POIS 0 t (lo / 64)] else [])
  ++ (if s.rd .FS_STAT_WIN t ≠ 0 ∧ s.inCaldera t lo then [wv .CALD_W 1 t (lo / 64)] else [])
  ++ (if s.rd .FS_STAT_WIN t = 2 then
        let g := s.readTsPart t (lo / 64 * 64) 64
        [.parts fun p => { p with cmpSnap := p.cmpSnap.set t (p.cmpSnap.at t ++ [⟨lo / 64, s.clock, g.data, !g.bad.isEmpty⟩]) }]
      else [])

/-- A write to tile t's store from offset `off` on. -/
def writeTs (t off : Nat) (bs : List Byte) (bad : List Nat) : Plan :=
  planAll (granules off bs.length) fun p =>
    writeTsPart t p.1 ((bs.drop (p.1 - off)).take p.2) (bad.contains (storeBase t + p.1 / 64 * 64))

/-- A write to stack memory or a tile store at a flat address; `bad` lists the flat addresses of granules whose data carries
poison. -/
def writeMem (a : Nat) (bs : List Byte) (bad : List Nat) (wide : Bool) : Plan :=
  if a < stackTop then writeStack a bs bad wide else writeTs (tileOf a).1 (tileOf a).2 bs bad

/-! ### The stacks' availability (R281) -/

/-- What a request that reaches a stack meets: served, waiting for ON, or answered with 0x60. -/
inductive StackAvail where
  | served | waits | off
deriving DecidableEq, Repr

/-- The availability of the stack of C-die c. -/
def State.stackAvail (s : State) (c : Nat) : StackAvail :=
  match s.dom (80 + c) with
  | 2 => .served
  | 1 => .waits
  | 3 => .served
  | _ => if s.rd .PM_DOM_PEND_EN 0 (80 + c) = 1 then .waits else .off

/-- The worst availability of the stacks that bytes a to a + n - 1 lie on. -/
def State.rangeAvail (s : State) (a n : Nat) : StackAvail :=
  let cs := (stackReqs a n).map fun q => s.stackAvail (stackMap q.2).stack
  if cs.any (· == .off) then .off else if cs.any (· == .waits) then .waits else .served

end Sys2Proof.Machine
end

