-- ==== Sys2Proof/Machine/Time.lean ====
section
/-! DEFINITION. Global time, frames, the geyser tick and launch (Global Time, Frames and the Geyser Tick: R34 to R64, R529). A
command that names an event whose condition does not hold is that event not happening: nothing changes. -/
namespace Sys2Proof.Machine
open Host

/-! ### Synchronisation -/

/-- State code of an ACTIVE link in FL_STAT.STATE (Table 13.2). -/
def linkActiveCode : Nat := 5

/-- A value as a saturating i8. -/
def satI8 (x : Int) : Nat := ofSigned 8 (max (-128) (min 127 x))

/-- The slewing correction for an offset, an i8 within ±100 (R35, GT_STAT.SLEW). -/
def slewFor (off : Int) : Nat := ofSigned 8 ((Config.slew off % 201 : Nat) - 100)

/-- LOCKED clears: LOCK_LOST sets and the frame is reported as unlocked (R41, R529). -/
def loseLock : List Act := [wr .GT_STAT_LOCKED 0, wr .GT_STAT_LOCK_LOST 1, wv .FR_UNLOCKED 1]

/-- How far the package's counter is ahead of a source's: the signed difference of two GTC values. -/
def gtcOffset (own src : Nat) : Int := toSigned 64 ((own + 2 ^ 64 - src % 2 ^ 64) % 2 ^ 64)

/-- What one measurement of the upstream source does (R36, R38, R41): the offset and the correction are updated; `need`
consecutive measurements within ±2 cycles lock; an offset above 8 cycles clears LOCKED. Before first lock, when the counter
has not been loaded, a measurement counts when it lies within ±2 cycles of the one before. -/
def measure (need : Nat) (srcTime hops : Nat) : Plan := fun s =>
  let off := gtcOffset s.gtc srcTime
  let ref : Int := if s.vr .FIRST_LOCK = 1 then 0 else toSigned 64 (s.vr .LAST_OFF)
  let run := if (off - ref).natAbs ≤ 2 then satAdd 8 (s.vr .SYNC_RUN) 1 else (if s.vr .FIRST_LOCK = 1 then 0 else 1)
  [wr .GT_STAT_OFFSET (satI8 off), wr .GT_STAT_SLEW (slewFor off), wv .SYNC_RUN run, wv .LAST_OFF (ofSigned 64 off),
   wr .GT_STAT_HOLDOVER 0]
  ++ (if need ≤ run ∧ (off - ref).natAbs ≤ 2 then
        [wr .GT_STAT_LOCKED 1, wv .FIRST_LOCK 1, wr .GT_STAT_HOPS (min hops 31)]
      else if 8 < off.natAbs ∧ s.locked ∧ s.vr .FIRST_LOCK = 1 then loseLock else [])

/-- The GTC after a measurement: loaded once with the fabric time at first lock, otherwise unchanged (R35, R36). -/
def gtcAfterMeasure (s t : State) (srcTime : Nat) : Nat :=
  if s.vr .FIRST_LOCK = 0 ∧ t.vr .FIRST_LOCK = 1 then srcTime % 2 ^ 64 else s.gtc

/-- Each end of a sync-tree link sends a timestamped message every 65,536 cycles, ahead of the queued payload (R38). -/
def execSyncMessageSend (link : Link) (s : State) : Outcome State Fault Refusal :=
  .next <| s.perform fun s =>
    if s.rd .FL_STAT_STATE link = linkActiveCode
        ∧ (s.vr .SYNC_SENT link = 0 ∨ 65536 ≤ (s.gtc + 2 ^ 64 - s.vr .SYNC_SENT_AT link) % 2 ^ 64) then
      [wv .SYNC_SENT 1 link, wv .SYNC_SENT_AT s.gtc link,
       .parts fun p => { p with linkTx := p.linkTx.set link (⟨.sync s.gtc, 0⟩ :: p.linkTx.at link) }]
    else []

/-- A sync message is received; in fabric-slave mode a message from the upstream link is a measurement, with half the round
trip as the one-way delay (R38). -/
def execSyncMessage (link : Link) (upstream : Bool) (srcTime : W64) (roundTrip : BitVec 32) (srcHops : BitVec 6) (s : State) :
    Outcome State Fault Refusal :=
  let src := (srcTime.toNat + roundTrip.toNat / 2) % 2 ^ 64
  let t := s.perform fun s =>
    if upstream ∧ s.rd .GT_CTL_MODE = 0 ∧ s.domOn 171 ∧ s.rd .FL_STAT_STATE link = linkActiveCode then
      measure 16 src (srcHops.toNat + 1) s
    else []
  .next { t with gtc := gtcAfterMeasure s t src }

/-- A marker and its serial word arrive on GTC_SYNC_IN: a cable slave aligns to the carried value plus GT_CABLE_DLY (R40). -/
def execCableMarker (word : W64) (s : State) : Outcome State Fault Refusal :=
  let src := (word.toNat + s.rd .GT_CABLE_DLY_DLY) % 2 ^ 64
  let t := s.perform fun s => if s.rd .GT_CTL_MODE = 2 ∧ s.domOn 171 then measure 4 src 1 s else []
  .next { t with gtc := gtcAfterMeasure s t src }

/-- At every GTC multiple of 2^20 in a cable mode a marker edge and its serial word are driven on GTC_SYNC_OUT; a slave drives
them when SYNC_OUT_EN is 1 (R40). -/
def execSyncOutMarker (s : State) : Outcome State Fault Refusal :=
  .next <| s.perform fun s =>
    if s.domOn 171 ∧ s.gtc % 2 ^ 20 = 0 ∧ 2 ≤ s.rd .GT_CTL_MODE ∧ s.rd .GT_CTL_SYNC_OUT_EN = 1 then
      [wv .SYNC_OUT_AT s.gtc, bumpV s .SYNC_OUT_CNT 1]
    else []

/-- A slave loses its upstream source: HOLDOVER and LOCK_LOST set and the last frequency is held; a master takes time only from
its own counter (R41, R529). -/
def execLossOfSource (s : State) : Outcome State Fault Refusal :=
  .next <| s.perform fun s =>
    if s.domOn 171 ∧ ¬ s.master then [wr .GT_STAT_HOLDOVER 1, wr .GT_STAT_LOCK_LOST 1, wv .SYNC_RUN 0] else []

/-- What a write of GT_CTL does (R529). -/
def gtCtlPlan (v : Nat) : Plan := fun s =>
  let m := bitsOf v 1 0
  if ¬ s.domOn 171 then [] else
  [wr .GT_CTL_MODE m, wr .GT_CTL_SYNC_OUT_EN (bitOf v 2), wr .GT_CTL_OVR_IRQ (bitOf v 3)]
  ++ (if m = s.rd .GT_CTL_MODE then []
      else if m % 2 = 1 then
        [wr .GT_STAT_LOCKED 1, wr .GT_STAT_HOLDOVER 0, wr .GT_STAT_HOPS 0, wv .FIRST_LOCK 1, wv .SYNC_RUN 0]
      else [wr .GT_STAT_HOLDOVER 1, wv .SYNC_RUN 0] ++ loseLock)

/-- A write of GT_CTL. -/
def execGtCtlWrite (value : W64) (s : State) : Outcome State Fault Refusal :=
  .next <| s.perform (gtCtlPlan value.toNat)

/-! ### Frame schedules -/

/-- R44's conditions for accepting the arm of the staged schedule. -/
def armAccepted (s : State) : Bool :=
  let base := s.rd .GT_FRAME_BASE_BASE
  let d := (base + 2 ^ 64 - s.gtc) % 2 ^ 64
  (s.locked || s.master) && decide (8192 ≤ s.rd .GT_FRAME_LEN_LEN) && decide (8192 ≤ d ∧ d < 2 ^ 63)
    && (!s.scheduled || ((base + 2 ^ 64 - s.rd .GT_TICK_NEXT_VALUE) % 2 ^ 64) % s.rd .GT_FRAME_CUR_LEN == 0)
    && s.rd .GT_FRAME_CTL_PEND == 0

/-- A write of GT_FRAME_CTL: REFUSED is write-one-to-clear, and ARM stages the schedule or is refused (R44). -/
def frameCtlPlan (v : Nat) : Plan := fun s =>
  if ¬ s.domOn 171 then [] else
  (if testB v 2 then [wr .GT_FRAME_CTL_REFUSED 0] else [])
  ++ (if testB v 0 then
        if armAccepted s then [wr .GT_FRAME_CTL_PEND 1, wv .SCHED_BY_SLOT 0] else [wr .GT_FRAME_CTL_REFUSED 1]
      else [])

/-- A write of GT_FRAME_CTL. -/
def execFrameArm (value : W64) (s : State) : Outcome State Fault Refusal :=
  .next <| s.perform (frameCtlPlan value.toNat)

/-- A schedule is pending and the GTC equals its base (R45). -/
def State.scheduleDue (s : State) : Bool :=
  s.domOn 171 && s.rd .GT_FRAME_CTL_PEND == 1 && s.gtc == s.rd .GT_FRAME_BASE_BASE

/-- The pending schedule takes effect: GT_FRAME_CUR, GT_FRAME_NUM and GT_TICK_NEXT change and PEND clears (R45). -/
def takeSchedule : Plan := fun s =>
  [wr .GT_FRAME_CUR_LEN (s.rd .GT_FRAME_LEN_LEN), wr .GT_FRAME_NUM_NUM (s.rd .GT_FRAME_NUM_BASE_NUM),
   wr .GT_TICK_NEXT_VALUE (s.gtc + s.rd .GT_FRAME_LEN_LEN), wr .GT_FRAME_CTL_PEND 0, wv .SCHED_BY_SLOT 0,
   wv .SCHED_AT (s.gtc + 1)]

/-- The pending schedule takes effect at its base. -/
def execScheduleTakesEffect (s : State) : Outcome State Fault Refusal :=
  .next <| s.perform (planIf State.scheduleDue takeSchedule)

/-! ### The geyser tick -/

/-- The geyser tick is due: the GTC equals the next tick of the schedule in force or the base of a pending one, or a schedule
took effect in this cycle, and the tick has not been asserted yet (R43, R45). -/
def State.tickDue (s : State) : Bool :=
  s.domOn 171 && s.vr .TICK_AT != s.gtc + 1
    && ((s.scheduled && s.gtc == s.rd .GT_TICK_NEXT_VALUE) || s.scheduleDue || s.vr .SCHED_AT == s.gtc + 1)

/-- The tick has been asserted in this cycle. -/
def State.atTick (s : State) : Bool := s.vr .TICK_AT == s.gtc + 1

/-- The physical tiles. -/
def tiles : List Nat := List.range 40

/-- The links. -/
def links : List Nat := List.range 64

/-- GT_FSTAT as one word (Table 2.8). -/
def State.fstatWord (s : State) : Nat :=
  packFields [(0, s.rd .GT_FSTAT_REF_STALL_MAX), (16, s.rd .GT_FSTAT_TBAND), (18, s.rd .GT_FSTAT_LINK_CHG),
    (19, s.rd .GT_FSTAT_UNLOCKED), (20, s.rd .GT_FSTAT_LATE_REL), (32, s.rd .GT_FSTAT_RETRY_EVT),
    (48, s.rd .GT_FSTAT_RETRY_MAX), (56, s.rd .GT_FSTAT_THROTTLED), (57, s.rd .GT_FSTAT_MAINT)]

/-- The counters of the frame just ended are latched into GT_FSTAT, GT_REF_STALL and FL_RETRY.LAST_FRAME, and begin again
(R57). -/
def latchFrameStats : Plan := fun s =>
  let evs := links.map fun l => s.vr .FR_RETRY l
  [wr .GT_FSTAT_REF_STALL_MAX (min (s.vr .FR_REF_STALL) 65535), wr .GT_REF_STALL_MAX (s.vr .FR_REF_STALL),
   wr .GT_FSTAT_TBAND (s.vr .FR_TBAND), wr .GT_FSTAT_LINK_CHG (s.vr .FR_LINK_CHG),
   wr .GT_FSTAT_UNLOCKED (max (s.vr .FR_UNLOCKED) (if s.locked then 0 else 1)),
   wr .GT_FSTAT_LATE_REL (s.vr .FR_LATE_REL), wr .GT_FSTAT_RETRY_EVT (min (evs.foldl (· + ·) 0) 65535),
   wr .GT_FSTAT_RETRY_MAX (min (evs.foldl max 0) 255), wr .GT_FSTAT_THROTTLED (s.vr .FR_THROTTLED),
   wr .GT_FSTAT_MAINT (s.vr .FR_MAINT)]
  ++ links.map (fun l => wr .FL_RETRY_LAST_FRAME (min (s.vr .FR_RETRY l) 255) l)
  ++ links.map (fun l => wv .FR_RETRY 0 l)
  ++ (if s.vr .FR_THROTTLED = 1 then [bump s .PM_STAT_CAP_FRAMES 1] else [])
  ++ [wv .FR_REF_STALL 0, wv .FR_TBAND (s.rd .LS_STAT_PBAND 0), wv .FR_LINK_CHG 0,
      wv .FR_UNLOCKED (if s.locked then 0 else 1), wv .FR_LATE_REL 0,
      wv .FR_THROTTLED (if s.rd .PM_THROT_DUTY < 8 then 1 else 0),
      wv .FR_MAINT (max (s.rd .EC_PPR_BUSY) (s.rd .EC_TEST_CTL_BUSY))]

/-- The tiles whose frame ending now is still open (R50). -/
def State.overrunTiles (s : State) : List Nat :=
  tiles.filter fun t => (s.parts.openFrames.at t).any fun f => f.endGtc == s.gtc

/-- The overrun report of a tick (R51, R52): the mask by logical tile, the count, the firmware's safety interrupt, and with
OVR_IRQ an overrun interrupt to the core of every late tile (every tile with a frame still open). -/
def reportOverruns : Plan := fun s =>
  let ovr := s.overrunTiles
  [wr .GT_OVR_MASK_TILES (ovr.foldl (fun m t => setB m (s.logicalOf t)) 0), bump s .GT_OVR_CNT_COUNT ovr.length]
  ++ (if ovr = [] then [] else raise .safety .overrun ovr.length s)
  ++ (if s.rd .GT_CTL_OVR_IRQ = 1 then
        ovr.map fun t => wr .TC_IPEND_SRC (setB (s.rd .TC_IPEND_SRC t) 1) t
      else [])

/-- Every open frame sees a further tick; the frame that ends now keeps its GT_FSTAT for its record (R51). -/
def ageFrames : Plan := fun s =>
  [.parts fun p => { p with openFrames := tiles.foldl (fun m t =>
      m.set t ((m.at t).map fun f =>
        { f with ticks := f.ticks + 1, fstat := if f.endGtc = s.gtc then s.fstatWord else f.fstat })) p.openFrames }]

/-- GT_TILE.OPEN counts the open frames, saturating at 15. -/
def showOpen (t : Nat) : Plan := fun s => [wr .GT_TILE_OPEN (min (s.parts.openFrames.at t).length 15) t]

/-- A tile opens the current frame (R50). -/
def openFrame (t : Nat) : Plan := plans
  [fun s => [.parts fun p => { p with openFrames := p.openFrames.set t (p.openFrames.at t ++
      [⟨s.rd .GT_FRAME_NUM_NUM, s.rd .GT_TICK_NEXT_VALUE, 0, 0, false⟩]) }],
   showOpen t]

/-- The tile is eligible for a context switch at this tick: the collective queue is empty with no collective in flight, and the
caldera holds no unconfirmed work (R81). -/
def State.preemptEligible (s : State) (t : Nat) : Bool :=
  (s.parts.queues.at (8 * t + 2)).isEmpty && (s.parts.running.find (8 * t + 2)).isNone && s.rd .FS_STAT_WIN t == 0

/-- At a tick with TC_PREEMPT.REQ set an eligible tile stops issuing, and DEFERRED counts up on any other (R81). -/
def preemptAtTick (t : Nat) : Plan := fun s =>
  if s.rd .TC_PREEMPT_REQ t = 1 ∧ s.rd .TC_PREEMPT_DONE t = 0 then
    (if s.vr .STOPPED t = 1 then []
     else if s.preemptEligible t then [wv .STOPPED 1 t, wr .TC_PREEMPT_PENDING 0 t] else [bump s .TC_PREEMPT_DEFERRED 1 t])
    ++ [bumpV s .PREEMPT_TICKS 1 t]
  else []

/-- The next tick's value and the frame number of a tick inside the schedule in force (R42, R45). -/
def nextFrame : Plan := fun s =>
  if s.scheduleDue then takeSchedule s
  else if s.gtc = s.rd .GT_TICK_NEXT_VALUE then
    [wr .GT_FRAME_NUM_NUM (s.rd .GT_FRAME_NUM_NUM + 1), wr .GT_TICK_NEXT_VALUE (s.gtc + s.rd .GT_FRAME_CUR_LEN)]
  else []

/-- The geyser tick. -/
def tickPlan : Plan := plans
  [latchFrameStats, reportOverruns, ageFrames, nextFrame,
   planAll tiles fun t => planIf (fun s => s.vr .IN_FRAMES t == 1 && s.domOn t) (openFrame t),
   planAll tiles preemptAtTick,
   planAll tiles fun t => fun s => if s.rd .TC_WDOG_FRAMES t = 0 then [] else [bumpV s .WDOG_FRAMES 1 t],
   fun s => [.clear fun l => match l with | .var .TILE_REF _ _ => true | _ => false,
     bumpV s .LEAK_TICKS 1 0 0, bumpV s .LEAK_TICKS 1 0 1],
   fun s => [wv .TICK_AT (s.gtc + 1)]]

/-- Every replica that reaches the tick value asserts the geyser tick (R43). -/
def execGeyserTick (s : State) : Outcome State Fault Refusal :=
  .next <| s.perform (planIf State.tickDue tickPlan)

/-- The job context of a tile for events, or 0xFF. -/
def State.jobOf (s : State) (t : Nat) : Nat := if s.vr .TILE_JOB t = 0 then 0xFF else s.vr .TILE_JOB t - 1

/-- A write of GT_TILE.DONE closes the tile's oldest open frame; a frame closed at or after its end is late, loads LATE and
calls for its overrun record unless that was written at the 64-frame limit (R49 to R51). -/
def tileDonePlan (t : Nat) : Plan := fun s =>
  match s.parts.openFrames.at t with
  | [] => []
  | f :: rest =>
    let late := gtcBefore f.endGtc s.gtc || f.endGtc == s.gtc
    let by_ := min ((s.gtc + 2 ^ 64 - f.endGtc) % 2 ^ 64) 0xFFFFFFFF
    [.parts fun p => { p with openFrames := p.openFrames.set t rest }, wr .GT_TILE_OPEN (min rest.length 15) t,
     wv .WDOG_FRAMES 0 t]
    ++ (if late then [wr .GT_TILE_LATE by_ t] else [])
    ++ (if late ∧ ¬ f.recorded then
          [.parts fun p => { p with overruns := p.overruns ++
            [⟨s.jobOf t, s.logicalOf t, f.num, by_, f.fstat, s.gtc⟩] }]
        else [])

/-- A write of GT_TILE.DONE. -/
def execGtTileDone (tile : Tile) (s : State) : Outcome State Fault Refusal :=
  .next <| s.perform (planIf (fun s => s.domOn tile) (tileDonePlan tile))

/-- A frame still open at the 65th tick after the tick that opened it: its record is written at that tick with LATE at
0xFFFF_FFFF (R51). -/
def execOverrunLateLimit (tile : Tile) (s : State) : Outcome State Fault Refusal :=
  .next <| s.perform fun s =>
    if s.atTick then
      let due := (s.parts.openFrames.at tile).filter fun f => decide (65 ≤ f.ticks) && !f.recorded
      [.parts fun p => { p with
        openFrames := p.openFrames.set tile ((p.openFrames.at tile).map fun f =>
          if 65 ≤ f.ticks then { f with recorded := true } else f),
        overruns := p.overruns ++ due.map fun f => ⟨s.jobOf tile, s.logicalOf tile, f.num, 0xFFFFFFFF, f.fstat, s.gtc⟩ }]
    else []

/-- The firmware writes the record of an overrun frame to the rind log and posts FRAME_OVERRUN to the host (R51). -/
def overrunRecordPlan (o : Overrun) : Plan := plans
  [fun s => queueRind (s.rindRec o.gtc 0x0500 (Config.fwKind 1 % 256) (0x0100 + Config.fwKind 0 % 0x7F00) false false
      (Config.packData 0 [o.job, o.tile, o.frame, o.late, o.fstat])) s,
   postEvent 0x0001 0 o.job [o.tile, o.frame, o.late],
   fun _ => [.parts fun p => { p with overruns := p.overruns.drop 1 }]]

/-- The firmware takes the oldest overrun still to be recorded. -/
def execFrameOverrunRecord (s : State) : Outcome State Fault Refusal :=
  .next <| s.perform fun s =>
    match s.parts.overruns with
    | o :: _ => if s.fwReady then overrunRecordPlan o s else []
    | [] => []

/-! ### Launch -/

/-- R60's conditions on the launch values: the package is locked, the arm registers before K, and L - K is at least
(d + 1) × T_ack. -/
def launchTimely (s : State) (slot depth : Nat) : Bool :=
  let l := s.rd .GT_LAUNCH_AT_L 0 slot
  let k := s.rd .GT_LAUNCH_CUTOFF_K 0 slot
  s.locked && gtcBefore s.gtc k && gtcBefore k l && decide ((depth + 1) * s.tAck ≤ (l + 2 ^ 64 - k) % 2 ^ 64)

/-- A write of GT_LAUNCH_CTL.ARM: an Idle slot enters Armed or Refused, and with WITH_SCHED the arm also arms the staged
schedule under R44 (R60). -/
def launchArmPlan (slot v depth : Nat) : Plan := fun s =>
  let withSched := testB v 15
  if ¬ s.domOn 171 ∨ s.rd .GT_LAUNCH_CTL_STATE 0 slot ≠ 0 ∨ ¬ testB v 11 then [] else
  [wr .GT_LAUNCH_CTL_JOB (bitsOf v 5 0) 0 slot, wr .GT_LAUNCH_CTL_WITH_SCHED (bitOf v 15) 0 slot]
  ++ (if launchTimely s slot depth && (!withSched || armAccepted s) then
        [wr .GT_LAUNCH_CTL_STATE 1 0 slot, wv .LAUNCH_STAGED (bitOf v 15) 0 slot]
        ++ (if withSched then [wr .GT_FRAME_CTL_PEND 1, wv .SCHED_BY_SLOT (slot + 1)] else [])
      else
        [wr .GT_LAUNCH_CTL_STATE 4 0 slot]
        ++ (if withSched ∧ ¬ armAccepted s then [wr .GT_FRAME_CTL_REFUSED 1] else []))

/-- A write of GT_LAUNCH_CTL with ARM set; `depth` is the tree depth d that the arm message carries. -/
def execLaunchArm (slot : Fin 4) (value : W64) (depth : BitVec 8) (s : State) : Outcome State Fault Refusal :=
  .next <| s.perform (launchArmPlan slot value.toNat depth.toNat)

/-- A tile starts its job's entry: it runs from the entry's address and takes part in the frame schedule (R50, R61). -/
def startTile (job t : Nat) : Plan := plans
  [fun s => [wv .TILE_JOB (job + 1) t, wv .PC (Config.jobEntry job t % 0x4000 * 4) t, wr .TC_CTL_RUN 1 t, wr .TC_STAT_RUNNING 1 t, wv .RUN_AT s.clock t,
     wv .STALLED 0 t, wv .STOPPED 0 t, wv .IN_FRAMES 1 t, wv .WDOG_FRAMES 0 t,
     .parts fun p => { p with waits := p.waits.put t none }],
   planIf State.atTick (openFrame t)]

/-- The steps of a job count from its launch (R401, R402): its first step opens at L, and a first run begins there. -/
def Job.launch (j : Job) (l : Nat) : Job :=
  { j with
    step := j.s0
    opened := l + 1
    prevEnd := if j.lFirst = 0 then l else j.prevEnd
    lFirst := if j.lFirst = 0 then l + 1 else j.lFirst }

/-- The tiles of this package that a job is assigned and that are in service. -/
def State.jobTiles (s : State) (job : Nat) : List Nat :=
  let own := match s.parts.jobs.find job with | some j => j.tiles | none => []
  tiles.filter fun t => (s.vr .TILE_JOB t == job + 1 || own.contains t) && s.domOn t && s.vr .TILE_HELD t == 0

/-- At L every tile of an Armed slot's job that is in service starts, the slot is Taken and a LAUNCH event is posted
(R61, R443). -/
def launchTakenPlan (slot : Nat) : Plan := fun s =>
  if s.domOn 171 ∧ s.rd .GT_LAUNCH_CTL_STATE 0 slot = 1 ∧ s.gtc = s.rd .GT_LAUNCH_AT_L 0 slot then
    let job := s.rd .GT_LAUNCH_CTL_JOB 0 slot
    plans [planAll (s.jobTiles job) (startTile job), fun _ => [wr .GT_LAUNCH_CTL_STATE 3 0 slot,
        .parts fun p => { p with jobs := p.jobs.put job ((p.jobs.find job).map (Job.launch · s.gtc)) }],
      postEvent 0x0002 0 job [slot, s.gtc, 0]] s
  else []

/-- The GTC equals a slot's L. -/
def execLaunchTaken (slot : Fin 4) (s : State) : Outcome State Fault Refusal :=
  .next <| s.perform (launchTakenPlan slot)

/-- The slot is cancelled: it enters Cancelled, a schedule that it staged and that is still pending is withdrawn (R46, R62), and
a LAUNCH event with status 0x68 is posted (R443). -/
def cancelSlot (slot node : Nat) : Plan := fun s =>
  [wr .GT_LAUNCH_CTL_STATE 2 0 slot, wv .LAUNCH_NODE (node + 1) 0 slot]
  ++ (if s.rd .GT_LAUNCH_CTL_WITH_SCHED 0 slot = 1 ∧ s.vr .SCHED_BY_SLOT = slot + 1 ∧ s.rd .GT_FRAME_CTL_PEND = 1 then
        [wr .GT_FRAME_CTL_PEND 0, wv .SCHED_BY_SLOT 0] else [])
  ++ postEvent 0x0002 0x68 (s.rd .GT_LAUNCH_CTL_JOB 0 slot) [slot, s.rd .GT_LAUNCH_AT_L 0 slot, node] s

/-- A cancel inside [arm, L) cancels the slot; one at L or later is ignored and sets TOO_LATE (R62). -/
def launchCancelPlan (slot node : Nat) : Plan := fun s =>
  let st := s.rd .GT_LAUNCH_CTL_STATE 0 slot
  if ¬ s.domOn 171 ∨ st = 0 ∨ st = 4 then []
  else if gtcBefore s.gtc (s.rd .GT_LAUNCH_AT_L 0 slot) then (if st = 1 then cancelSlot slot node s else [])
  else [wr .GT_LAUNCH_CTL_TOO_LATE 1 0 slot]

/-- A write of GT_LAUNCH_CTL.CANCEL; the node is the failed one that the cancel message names, 0 if none. -/
def execLaunchCancel (slot : Fin 4) (failedNode : BitVec 16) (s : State) : Outcome State Fault Refusal :=
  .next <| s.perform (launchCancelPlan slot failedNode.toNat)

/-- A write of GT_LAUNCH_CTL.RELEASE returns a Cancelled, Taken or Refused slot to Idle (Table 2.8). -/
def launchReleasePlan (slot : Nat) : Plan := fun s =>
  if s.domOn 171 ∧ 2 ≤ s.rd .GT_LAUNCH_CTL_STATE 0 slot ∧ s.rd .GT_LAUNCH_CTL_STATE 0 slot ≤ 4 then
    [wr .GT_LAUNCH_CTL_STATE 0 0 slot, wv .LAUNCH_STAGED 0 0 slot, wv .LAUNCH_NODE 0 0 slot]
  else []

/-- A write of GT_LAUNCH_CTL.RELEASE. -/
def execLaunchRelease (slot : Fin 4) (s : State) : Outcome State Fault Refusal :=
  .next <| s.perform (launchReleasePlan slot)

/-- A failure in the decision window [arm, K): a failure that reaches the root makes the root broadcast a cancel fabric-wide,
and a package that loses both parents cancels its own slot; at or after K nothing is cancelled (R63). -/
def execLaunchDecisionCancel (slot : Fin 4) (bothParentsLost : Bool) (failedNode : BitVec 16) (s : State) :
    Outcome State Fault Refusal :=
  .next <| s.perform fun s =>
    if s.domOn 171 ∧ s.rd .GT_LAUNCH_CTL_STATE 0 slot = 1 ∧ gtcBefore s.gtc (s.rd .GT_LAUNCH_CUTOFF_K 0 slot) then
      cancelSlot slot failedNode.toNat s
      ++ (if bothParentsLost then []
          else [.parts fun p => { p with bcastOut := p.bcastOut ++
            [.cancel ⟨s.rd .GT_LAUNCH_CTL_JOB 0 slot % 64, by omega⟩ failedNode] }])
    else []

end Sys2Proof.Machine
end

