-- ==== Sys2Proof/Machine/Stack.lean ====
section
/-! DEFINITION. The stack controllers (Lastan Stack Memory: R259 to R284): the channel queues, atomics, refresh windows with
their scrub accesses, temperature bands, throttling and the thermal trip. -/
namespace Sys2Proof.Machine
open Host

/-! ### Atomic operations (R341) -/

/-- The size of an atomic's operand in bytes. -/
def atypeSize : AType → Nat
  | .i32 => 4 | .i64 => 8 | .u32 => 4 | .u64 => 8 | .f32 => 4 | .f64 => 8

/-- The value that an atomic writes for the prior value `old`, its operand (the swap value of a compare-and-swap) and the compare
value (R341). Floating-point additions round to nearest, ties to even. -/
def amoValue (op : AmoOp) (ty : AType) (old x cmp : Nat) : Nat :=
  let w := 8 * atypeSize ty
  let a := old % 2 ^ w
  let b := x % 2 ^ w
  let pick := fun (less : Bool) => match op with | .min => if less then a else b | _ => if less then b else a
  match op with
  | .cas => if a = cmp % 2 ^ w then b else a
  | .add => match ty with
    | .f32 => (Fmt.fp32.add .ne a b).1
    | .f64 => (Fmt.fp64.add .ne a b).1
    | _ => (a + b) % 2 ^ w
  | _ => match ty with
    | .i32 => pick (decide (toSigned 32 a < toSigned 32 b))
    | .i64 => pick (decide (toSigned 64 a < toSigned 64 b))
    | .u32 => pick (decide (a < b))
    | .u64 => pick (decide (a < b))
    | .f32 => match op with | .min => (Fmt.fp32.min a b).1 | _ => (Fmt.fp32.max a b).1
    | .f64 => match op with | .min => (Fmt.fp64.min a b).1 | _ => (Fmt.fp64.max a b).1

/-- An atomic on stack memory at the controller: the status and prior value, and what it does. A sector that carries poison is
left as it is (R265). -/
def amoStack (a : Nat) (op : AmoOp) (ty : AType) (x cmp : Nat) (s : State) : (Nat × List Byte) × Plan :=
  let n := atypeSize ty
  let r := s.readReq false (a / 32 * 32)
  let old := (r.data.drop (a % 32)).take n
  ((if r.bad.isEmpty then 0 else 0x40, old),
   plans [traffic a n true, noteRead r,
     if r.bad.isEmpty then writeSector a (leBytes n (amoValue op ty (leNat old) x cmp)) false else fun _ => []])

/-- An atomic on a tile store at a flat address, by pool agent 1 as a read and a write of one granule (R341). -/
def amoTs (a : Nat) (op : AmoOp) (ty : AType) (x cmp : Nat) (s : State) : (Nat × List Byte) × Plan :=
  let n := atypeSize ty
  let t := (tileOf a).1
  let off := (tileOf a).2
  let g := s.readTsPart t (off / 64 * 64) 64
  let old := (g.data.drop (off % 64)).take n
  ((if g.bad.isEmpty then 0 else 0x40, old),
   plans [noteRead g,
     if g.bad.isEmpty then writeTs t off (leBytes n (amoValue op ty (leNat old) x cmp)) [] else fun _ => []])

/-- An atomic on stack memory or a tile store at a flat address. -/
def amoMem (a : Nat) (op : AmoOp) (ty : AType) (x cmp : Nat) (s : State) : (Nat × List Byte) × Plan :=
  if a < stackTop then amoStack a op ty x cmp s else amoTs a op ty x cmp s

/-! ### Channel queues (R266, R267) -/

/-- The number of the channel of a stack address. -/
def chanOf (a : Nat) : Nat := 20 * (stackMap a).ch + (stackMap a).stack

/-- The requests admitted at a channel. -/
def State.chan (s : State) (n : Nat) : List StackReq := s.parts.chanQ.at n

/-- A channel's queue of one direction has no free entry of its 32 (R266). -/
def State.queueFull (s : State) (n : Nat) (write : Bool) : Bool :=
  decide (32 ≤ ((s.chan n).filter fun r => r.write == write).length)

/-- A run-time repair holds every request to the channel (R277). -/
def State.chanRepaired (s : State) (n : Nat) : Bool :=
  s.rd .EC_PPR_BUSY == 1 && s.rd .EC_PPR_STACK == n % 20 && s.rd .EC_PPR_CH == n / 20

/-- The instance of the round-robin pointer of a channel's queue. -/
def rrIdx (n : Nat) (write : Bool) : Nat := 2 * (n / 20) + (if write then 1 else 0)

/-- A request enters its queue, and the pointer moves to the source after it (R266). -/
def admitReq (r : StackReq) : Plan := fun s =>
  let n := chanOf r.addr
  [.parts fun p => { p with chanQ := p.chanQ.set n (p.chanQ.at n ++ [{ r with at_ := s.clock }]) },
   wv .RR_SRC ((r.source + 1) % 44) (n % 20) (rrIdx n r.write)]

/-- The held requests that a queue could admit now. -/
def State.waiting (s : State) (n : Nat) (write : Bool) : List StackReq :=
  s.parts.stackHeld.filter fun r => chanOf r.addr == n && r.write == write && s.stackAvail (n % 20) == .served

/-- The waiting request whose source comes first from the pointer on (R266). -/
def State.rrPick (s : State) (n : Nat) (write : Bool) : Option StackReq :=
  ((List.range 44).map fun k => (s.vr .RR_SRC (n % 20) (rrIdx n write) + k) % 44).findSome? fun src =>
    (s.waiting n write).find? fun r => r.source == src

/-- An entry of a queue has freed: the next held request is admitted. -/
def admitHeld (n : Nat) (write : Bool) : Plan := fun s =>
  if s.queueFull n write then [] else
  match s.rrPick n write with
  | none => []
  | some r => plans [fun _ => [.parts fun p => { p with stackHeld := p.stackHeld.erase r }], admitReq r] s

/-- An answer goes to its source. -/
def answerStack (source : Nat) (x : StackAns) : Act :=
  .parts fun p => { p with stackAns := p.stackAns.set source (p.stackAns.at source ++ [x]) }

/-- The GTC lies inside the last refresh window [w, w + 294) (R273). -/
def State.inWindow (s : State) : Bool :=
  s.vr .WIN_AT != 0 && decide ((s.gtc + 2 ^ 64 - (s.vr .WIN_AT - 1)) % 2 ^ 64 < 294)

/-- The cycles that remain of the refresh window in force. -/
def State.windowLeft (s : State) : Nat :=
  if s.inWindow then 294 - (s.gtc + 2 ^ 64 - (s.vr .WIN_AT - 1)) % 2 ^ 64 else 0

/-- A refresh window delays the requests of a source (R57, R273). -/
def refreshDelay (source d : Nat) : Plan := fun s =>
  if source < 40 then
    let v := s.vr .TILE_REF source + d
    [wv .TILE_REF v source, wv .FR_REF_STALL (max v (s.vr .FR_REF_STALL))]
  else []

/-- A source has a request queued at some channel. -/
def State.hasQueued (s : State) (source : Nat) : Bool :=
  s.parts.chanQ.any fun e => e.2.any fun r => r.source == source

/-- A request is presented: a long one at a 128 B block, or a narrow one inside a sector (R263). -/
def stackRequestPlan (source : Nat) (write long : Bool) (addr len : Nat) (data : List Byte) (poison : Nat) : Plan := fun s =>
  let a := if long then addr / 128 * 128 else addr
  let n := if long then 128 else min len (32 - addr % 32)
  if n = 0 ∨ stackTop ≤ a then [] else
  let r : StackReq := ⟨source, write, a, n, if write then (data ++ List.replicate n 0).take n else [],
    if write then poison % 4 else 0, s.clock, false, none⟩
  let c := chanOf a
  match s.stackAvail (c % 20) with
  | .off => [answerStack source ⟨a, 0x60, [], 0⟩]
  | .waits => [.parts fun p => { p with stackHeld := p.stackHeld ++ [r] }]
  | .served =>
    if s.queueFull c write then [.parts fun p => { p with stackHeld := p.stackHeld ++ [r] }]
    else plans [if s.inWindow && !s.hasQueued source then refreshDelay source s.windowLeft else fun _ => [], admitReq r] s

/-- A long or narrow stack request from one of the 44 sources. -/
def execStackRequest (source : Fin 44) (write long : Bool) (addr : BitVec 40) (len : Fin 33) (data : List Byte)
    (poison : BitVec 2) (s : State) : Outcome State Fault Refusal :=
  .next <| s.perform (stackRequestPlan source write long addr.toNat len data poison.toNat)

/-- Two requests touch the same sector. -/
def sameSector (a n b m : Nat) : Bool := decide (a / 32 * 32 < b + m ∧ b / 32 * 32 < a + n)

/-- What a read request delivers: its bytes, poison by granule, and what it charges. -/
def State.reqRead (s : State) (r : StackReq) : Rd × (List Byte × Nat) :=
  let long := r.len == 128
  let d := s.readReq long r.addr
  let bytes := if long then d.data else (d.data.drop (r.addr % 32)).take r.len
  (d, bytes, if long then (if d.bad.contains r.addr then 1 else 0) + (if d.bad.contains (r.addr + 64) then 2 else 0)
    else if d.bad.isEmpty then 0 else 1)

/-- The write of a queued request reaches the array. -/
def applyWrite (r : StackReq) : Plan := plans
  [traffic r.addr r.len true,
   if r.len = 128 then
     plans [writeGranule r.addr (r.data.take 64) (testB r.poison 0),
            writeGranule (r.addr + 64) (r.data.drop 64) (testB r.poison 1)]
   else writeSector r.addr r.data (testB r.poison 0)]

/-- The earlier requests of a channel to a sector are served first (R267): earlier writes are applied, and earlier reads take
their data. -/
def serveEarlier (n : Nat) (before : List StackReq) (a len : Nat) : Plan :=
  planAll before fun r => fun s =>
    if ¬ sameSector r.addr r.len a len then []
    else if r.write then
      (if r.applied then [] else
        plans [applyWrite r, fun _ => [.parts fun p => { p with chanQ := p.chanQ.set n ((p.chanQ.at n).map fun x =>
          if x = r then { x with applied := true } else x) }]] s)
    else if r.snap.isSome then []
    else
      let d := s.reqRead r
      plans [traffic r.addr r.len false, noteRead d.1,
        fun _ => [.parts fun p => { p with chanQ := p.chanQ.set n ((p.chanQ.at n).map fun x =>
          if x = r then { x with snap := some d.2 } else x) }]] s

/-- An atomic at the controller: served after the earlier requests to its sector, with nothing between its read and its write,
and answered with the prior value (R265). -/
def stackAtomicPlan (source addr : Nat) (op : AmoOp) (ty : AType) (x cmp : Nat) : Plan := fun s =>
  if stackTop ≤ addr ∨ addr % atypeSize ty ≠ 0 then [] else
  let c := chanOf addr
  match s.stackAvail (c % 20) with
  | .off => [answerStack source ⟨addr, 0x60, [], 0⟩]
  | .waits => []
  | .served =>
    if s.chanRepaired c then [] else
    plans [serveEarlier c (s.chan c) addr (atypeSize ty), fun s =>
      let r := amoStack addr op ty x cmp s
      plans [r.2, fun _ => [answerStack source ⟨addr, r.1.1, r.1.2, if r.1.1 = 0 then 0 else 1⟩]] s] s

/-- An atomic on stack memory. -/
def execStackAtomic (source : Fin 44) (addr : BitVec 40) (op : AmoOp) (ty : AType) (operand compare : W64) (s : State) :
    Outcome State Fault Refusal :=
  .next <| s.perform (stackAtomicPlan source addr.toNat op ty operand.toNat compare.toNat)

/-- The fewest cycles from registration to a read's answer (Table 11.2): 40 from the write queue, else 102 for a long read of an
open row and 92 for a narrow one. -/
def readLatency (before : List StackReq) (r : StackReq) : Nat :=
  if before.any fun b => b.write && sameSector b.addr b.len r.addr r.len then 40 else if r.len = 128 then 102 else 92

/-- The read numbered `k` among a channel's queued reads. -/
def State.nthRead (s : State) (n k : Nat) : Option StackReq := ((s.chan n).filter fun r => !r.write)[k]?

/-- A read's data leaves the controller: decoded by granule, charged to its bucket and answered (R267, R286, R290, R293, R296).
A read that registered inside the refresh window in force waits for its end, and a repair holds its channel. -/
def stackReadPlan (n k : Nat) : Plan := fun s =>
  match s.nthRead n k with
  | none => []
  | some r =>
    let before := (s.chan n).takeWhile (· != r)
    if s.stackAvail (n % 20) != .served || s.chanRepaired n || decide (s.clock < r.at_ + readLatency before r)
        || (s.inWindow && decide (s.clock + s.windowLeft < r.at_ + 294))
        || (before.any fun b => !b.write && sameSector b.addr b.len r.addr r.len) then []
    else
      plans [serveEarlier n before r.addr r.len,
        fun s => match r.snap with
          | some d => [answerStack r.source ⟨r.addr, if d.2 = 0 then 0 else 0x40, d.1, d.2⟩]
          | none =>
            let d := s.reqRead r
            plans [traffic r.addr r.len false, noteRead d.1,
              fun _ => [answerStack r.source ⟨r.addr, if d.2.2 = 0 then 0 else 0x40, d.2.1, d.2.2⟩]] s,
        fun _ => [.parts fun p => { p with chanQ := p.chanQ.set n ((p.chanQ.at n).erase r) }],
        admitHeld n false] s

/-- A read's answer: `entry` is the read's place among the channel's queued reads. -/
def execStackReadResponse (stack : CDie) (channel : Fin 128) (entry : Fin 32) (s : State) : Outcome State Fault Refusal :=
  .next <| s.perform (stackReadPlan (20 * channel + stack) entry)

/-- The oldest write of a channel is acknowledged 24 cycles after it registers; from then on every read returns its data
(R267). -/
def stackAckPlan (n : Nat) : Plan := fun s =>
  match (s.chan n).find? fun r => r.write with
  | none => []
  | some r =>
    if s.clock < r.at_ + 24 ∨ s.stackAvail (n % 20) ≠ .served ∨ s.chanRepaired n then [] else
    plans [serveEarlier n ((s.chan n).takeWhile (· != r)) r.addr r.len,
      if r.applied then fun _ => [] else applyWrite r,
      fun _ => [.parts fun p => { p with chanQ := p.chanQ.set n ((p.chanQ.at n).eraseP fun x => x.write) },
        answerStack r.source ⟨r.addr, 0, [], 0⟩],
      admitHeld n true] s

/-- A write's acknowledgement. -/
def execStackWriteAck (stack : CDie) (channel : Fin 128) (s : State) : Outcome State Fault Refusal :=
  .next <| s.perform (stackAckPlan (20 * channel + stack))

/-! ### Refresh windows and the scrubber (R273, R276, R297 to R299) -/

/-- The stacks. -/
def stackDies : List Nat := List.range 20

/-- The index of the scrub walk at which a burst lies: bank x mod 16, row (x div 16) div 8, burst (x div 16) mod 8 (R297). -/
def burstIndex (a : Nat) : Nat :=
  let m := stackMap a
  16 * (8 * m.row + m.byte / 128) + m.bank

/-- The 128 B bursts that hold a codeword whose stored check symbols are not the right ones: only these can decode as anything
but clean. -/
def State.dirtyBursts (s : State) : List Nat :=
  (s.file.filterMap fun e => match e.1 with | .var .STK_CHK c _ => some (16 * c / 128 * 128) | _ => none).eraseDups

/-- A burst needs a scrub write-back: a codeword was corrected or uncorrectable (R298, R299). -/
def State.scrubNeeds (s : State) (a : Nat) : Bool :=
  let bad := fun c => match s.cwOutcome c 4 with | .corrected _ => true | .unc => true | _ => false
  bad (a / 16) || bad (a / 16 + 4)

/-- One scrub access of a burst: it is read as a long burst, its errors are counted, and its write-back falls due where one is
needed. -/
def scrubRead (a : Nat) : Plan := fun s =>
  if s.chFailed a then [] else
  plans [noteRead (s.readReq true a),
    fun s => if s.scrubNeeds a ∧ a ∉ s.parts.scrubWB then [.parts fun p => { p with scrubWB := p.scrubWB ++ [a] }] else []] s

/-- The write-back of a granule: corrected data, a poison mark unchanged, an uncorrectable granule poisoned (R298, R299). -/
def scrubFix (c : Nat) : Plan := fun s =>
  match s.cwOutcome c 4 with
  | .corrected _ => writeGranule (16 * c) (s.cwData c 4) false s
  | .unc => writeGranule (16 * c) (s.cwData c 4) true s
  | _ => []

/-- The write-backs that were due before this window's reads. -/
def scrubBack (due : List Nat) : Plan := plans
  [planAll due fun a => plans [scrubFix (a / 16), scrubFix (a / 16 + 4)],
   fun _ => [.parts fun p => { p with scrubWB := p.scrubWB.filter fun a => !due.contains a }]]

/-- The most write-backs due on one channel. -/
def State.mostWB (s : State) : Nat :=
  s.parts.scrubWB.foldl (fun m a => max m (s.parts.scrubWB.filter fun b => chanOf b == chanOf a).length) 0

/-- One step of the walk: every channel reads burst x, and x moves on; after the last one a pass is complete (R297). -/
def scrubStep : Plan := fun s =>
  let x := s.rd .EC_SCRUB_STAT_POS
  plans [planAll (s.dirtyBursts.filter fun a => burstIndex a == x) scrubRead,
    fun s => [wv .SCRUB_DUE (s.vr .SCRUB_DUE - 1)]
      ++ (if x = 3145727 then [wr .EC_SCRUB_STAT_POS 0, bump s .EC_SCRUB_STAT_PASSES 1] else [wr .EC_SCRUB_STAT_POS (x + 1)])] s

/-- The scrubber is ON or DRAINING and every stack interface is ON (R300). -/
def State.scrubRuns (s : State) : Bool :=
  s.domOn 169 && (s.rd .EC_SCRUB_CTL_FSTATE == 2 || s.rd .EC_SCRUB_CTL_FSTATE == 3) && stackDies.all fun c => s.domOn (80 + c)

/-- The scrub accesses of a window: at most two for a channel, reads before write-backs (R276, R297). -/
def scrubWindow : Plan := fun s =>
  if ¬ s.scrubRuns then [] else
  let reads := if s.rd .EC_SCRUB_CTL_FSTATE = 2 then min (s.vr .SCRUB_DUE) (2 - s.mostWB) else 0
  let due := s.parts.scrubWB
  plans [planAll (List.range reads) fun _ => scrubStep, scrubBack due] s

/-- The interval between windows in force (Table 2.3, R273). -/
def tREFI (band : Nat) : Nat := match band % 4 with | 0 => 4095 | 1 => 2047 | 2 => 1023 | _ => 512

/-- The package band in use. -/
def State.band (s : State) : Nat := s.rd .LS_STAT_PBAND 0

/-- A window opens now: the GTC is a multiple of tREFI and at least tREFI after the previous window's start (R273). -/
def State.windowDue (s : State) : Bool :=
  let t := tREFI s.band
  s.domOn 171 && s.gtc % t == 0 && (stackDies.any fun c => s.domOn (80 + c))
    && (s.vr .WIN_AT == 0 || decide (t ≤ (s.gtc + 2 ^ 64 - (s.vr .WIN_AT - 1)) % 2 ^ 64))

/-- A refresh window: counted on every stack whose interface is ON, delaying the tiles with requests queued, with the scrub
accesses in its last 94 cycles. -/
def refreshWindowPlan : Plan := plans
  [fun s => wv .WIN_AT (s.gtc + 1) :: (stackDies.filter fun c => s.domOn (80 + c)).map fun c => bump s .LS_REF_WINDOWS 1 c,
   planAll tiles fun t => planIf (fun s => s.hasQueued t) (refreshDelay t 294),
   scrubWindow]

/-- A refresh window. -/
def execRefreshWindow (s : State) : Outcome State Fault Refusal :=
  .next <| s.perform (planIf State.windowDue refreshWindowPlan)

/-! ### Temperature (R275, R278, R279) -/

/-- The band of a temperature in 1/16 °C (Table 2.3). -/
def bandOf (t : Int) : Nat := if 105 * 16 < t then 3 else if 95 * 16 < t then 2 else if 85 * 16 < t then 1 else 0

/-- The upper threshold of band b in 1/16 °C. -/
def bandTop (b : Nat) : Int := match b with | 0 => 85 * 16 | 1 => 95 * 16 | _ => 105 * 16

/-- The package band changes: every stack shows it with its tREFI, and band 3 throttles with an interrupt where enabled (R273,
R278). -/
def setBand (b : Nat) : Plan := fun s =>
  (stackDies.flatMap fun c =>
    [wr .LS_STAT_PBAND b c, wr .LS_REF_TREFI (tREFI b) c, wr .LS_STAT_THROTTLE (if b = 3 then 1 else 0) c])
  ++ [wv .FR_TBAND (max b (s.vr .FR_TBAND))]
  ++ (if b = 3 ∧ s.band ≠ 3 ∧ (stackDies.any fun c => s.rd .LS_CTL_THROT_IRQ c == 1) then raise .safety .throttle 0 s else [])

/-- The latest sample of a stack is held against TRIP: at or above it the thermal trip is asserted to the power manager and
TRIPPED sets (R279). -/
def tripCheck (c : Nat) : Plan := fun s =>
  if s.vr .TEMP_AT c ≠ 0 ∧ 16 * (s.rd .LS_CTL_TRIP c : Int) ≤ toSigned 16 (s.rd .LS_TEMP_CUR c) then
    [wr .LS_STAT_TRIPPED 1 c, wv .STACK_TRIP 1 c] ++ (if s.vr .STACK_TRIP c = 1 then [] else raise .safety .stackTrip c s)
  else [wv .STACK_TRIP 0 c]

/-- A sample of a stack's hottest sensor, every 16,384 cycles. -/
def stackTempPlan (c : Nat) (temp : Int) : Plan := fun s =>
  if ¬ s.domOn (80 + c) ∨ (s.vr .TEMP_AT c ≠ 0 ∧ s.clock + 1 < s.vr .TEMP_AT c + 16384) then [] else
  let b := bandOf temp
  let mx := toSigned 16 (s.rd .LS_TEMP_MAX c)
  plans
   [fun _ => [wr .LS_TEMP_CUR (ofSigned 16 temp) c, wr .LS_TEMP_MAX (ofSigned 16 (max temp mx)) c, wr .LS_STAT_BAND b c,
      wv .TEMP_AT (s.clock + 1) c],
    if s.band < b ∧ s.rd .LS_STAT_BAND c < b then setBand b else fun _ => [],
    tripCheck c] s

/-- A temperature sample of a stack, in 1/16 °C as an i16. -/
def execStackTempSample (stack : CDie) (temp : BitVec 16) (s : State) : Outcome State Fault Refusal :=
  .next <| s.perform (stackTempPlan stack (toSigned 16 temp.toNat))

/-- Where the band may fall: a tick, or a multiple of 2^20 in the GTC without a schedule (R275). -/
def State.fallPoint (s : State) : Bool := s.atTick || (!s.scheduled && s.gtc % 2 ^ 20 == 0)

/-- The band falls to the band of the latest samples when every stack's sample lies at least HYST below the threshold being
left (R275). -/
def bandFallPlan : Plan := fun s =>
  let on := stackDies.filter fun c => s.domOn (80 + c)
  let b := on.foldl (fun m c => max m (s.rd .LS_STAT_BAND c)) 0
  if s.fallPoint ∧ b < s.band
      ∧ (on.all fun c => decide (toSigned 16 (s.rd .LS_TEMP_CUR c) ≤ bandTop (s.band - 1) - 16 * (s.rd .LS_CTL_HYST c : Int))) then
    setBand b s
  else []

/-- The check for a falling band. -/
def execBandFallCheck (s : State) : Outcome State Fault Refusal :=
  .next <| s.perform bandFallPlan

/-- A write of LS_CTL: TRIP outside 95 to 110 is ignored, and the write is ignored while the interface is OFF (R279, R284). -/
def lsCtlPlan (c v : Nat) : Plan := fun s =>
  if s.dom (80 + c) = 0 then [] else
  let t := bitsOf v 7 0
  plans
   [fun _ => (if 95 ≤ t ∧ t ≤ 110 then [wr .LS_CTL_TRIP t c] else [])
      ++ [wr .LS_CTL_HYST (bitsOf v 11 8) c, wr .LS_CTL_THROT_IRQ (bitOf v 12) c],
    tripCheck c] s

/-- A write of LS_CTL of one stack. -/
def execLsCtlWrite (stack : CDie) (value : W64) (s : State) : Outcome State Fault Refusal :=
  .next <| s.perform (lsCtlPlan stack value.toNat)

end Sys2Proof.Machine
end

