-- ==== Sys2Proof/Machine/Engine.lean ====
section
/-! DEFINITION. What the engines share: descriptor headers, queues, fences, summaries and counters (Tile Control Core: R70 to
R76), and the points at which the check-value units snoop (R501, R502). -/
namespace Sys2Proof.Machine

/-! ### Descriptors (Table 3.4) -/

/-- Bits [hi:lo] of a descriptor. -/
def Desc.f (d : Desc) (hi lo : Nat) : Nat := bitsOf d.raw hi lo

/-- Bit b of a descriptor. -/
def Desc.b (d : Desc) (b : Nat) : Bool := testB d.raw b

/-- The operation code. -/
def Desc.opc (d : Desc) : Nat := d.f 7 0

/-- The key of engine e's queue of tile t. -/
def eKey (t e : Nat) : Nat := 8 * t + e

/-- The descriptors queued to engine e of tile t. -/
def State.queue (s : State) (t e : Nat) : List Desc := s.parts.queues.at (eKey t e)

/-- The descriptor in progress in engine e of tile t. -/
def State.running (s : State) (t e : Nat) : Option Running := s.parts.running.find (eKey t e)

/-- TC_QSTAT.OCC with engine e's queue at `n` entries, saturating at 31 (R171). -/
def occWith (occ e n : Nat) : Nat := putBits occ (5 * e) 5 (min n 31)

/-- Engine e's queue holds `q`. -/
def setQueue (t e : Nat) (q : List Desc) : Plan := fun s =>
  [.parts fun p => { p with queues := p.queues.set (eKey t e) q }, wr .TC_QSTAT_OCC (occWith (s.rd .TC_QSTAT_OCC t) e q.length) t]

/-- A descriptor of the tile issued before number `seq` has not completed. -/
def State.earlierOpen (s : State) (t seq : Nat) : Bool :=
  (s.parts.mx.at t).any (fun r => decide (r.desc.seq < seq))
  || (List.range 8).any fun e =>
    (s.queue t e).any (fun d => decide (d.seq < seq))
      || (match s.running t e with | some r => decide (r.desc.seq < seq) | none => false)
      || ((List.range 2).any fun u => match s.parts.cv.find (2 * t + u) with
          | some a => decide (a.desc.seq < seq) | none => false)

/-- The head of a queue may start now: four cycles have passed since its issue, and with FENCE every earlier descriptor of the
tile has completed (R72, R98). -/
def State.ready (s : State) (t : Nat) (d : Desc) : Bool :=
  decide (d.issued + 4 ≤ s.clock) && (!d.b 23 || !s.earlierOpen t d.seq)

/-- A speculation window is open on tile t (R206). -/
def State.window (s : State) (t : Nat) : Bool := s.rd .FS_STAT_WIN t != 0

/-- The first address of the vector registers of tile t in the model's flat memory: 32 registers of 1,024 B, and from 0x8000 on
eight tile registers of 16,384 B (Table 6.1). -/
def vregBase (t : Nat) : Nat := 0x2000000000000 + t * 0x40000

/-- Vector register r. -/
def vreg (t r : Nat) : Nat := vregBase t + 1024 * r

/-- Tile register r. -/
def treg (t r : Nat) : Nat := vregBase t + 0x8000 + 16384 * r

/-- Every vx instruction issued so far has completed. -/
def State.vxIdle (s : State) (t : Nat) : Bool :=
  (s.parts.vq.at t).isEmpty && (s.parts.vxDone.at t).isEmpty && decide (s.vr .VX_LAST t ≤ s.clock)

/-- Whether a switchable function lets a descriptor issued in cycle `issued` start, from its function state, its enable latch and
the cycle of its last disable request: `none` while it must wait, `some false` when it completes in the next cycle with 0x85
(R170, R198, Table 19.4). -/
def funcServes (fstate pendEn disAt issued : Nat) : Option Bool :=
  match fstate with
  | 2 => some true
  | 1 => none
  | 3 => if issued < disAt then some true else none
  | _ => if pendEn = 1 then none else some false

/-! ### Completion (R73, R74, R76) -/

/-- Counter c of tile t grows by one, modulo 2^32 (R74). -/
def countInc (t c : Nat) : Plan := fun s => [wr .TC_CNT_VALUE ((s.rd .TC_CNT_VALUE t c + 1) % 2 ^ 32) t c]

/-- An interrupt source of the tile becomes pending (TC_IPEND). -/
def ipend (t src : Nat) : Plan := fun s => [wr .TC_IPEND_SRC (setB (s.rd .TC_IPEND_SRC t) src) t]

/-- A summary record (TC_SUM0 to TC_SUM3). -/
def putSummary (t slot status engine tag val0 val1 cycles : Nat) (spec : Bool) : Plan := fun s =>
  [wr .TC_SUM0_STATUS status t slot, wr .TC_SUM0_ENGINE engine t slot, wr .TC_SUM0_SPEC (if spec then 1 else 0) t slot,
   wr .TC_SUM0_TAG tag t slot, wr .TC_SUM0_GTC_LO (s.gtc % 2 ^ 32) t slot, wr .TC_SUM1_VAL0 val0 t slot,
   wr .TC_SUM2_VAL1 val1 t slot, wr .TC_SUM3_CYCLES cycles t slot]

/-- A descriptor completes: the summary record where SUM_EN is 1, the counter, and ENG_DONE where IRQ is 1 (R73). -/
def complete (t e : Nat) (d : Desc) (status val0 val1 cycles : Nat) (spec : Bool) : Plan := plans
  [if d.b 21 then putSummary t (d.f 20 16) status e (d.f 47 32) val0 val1 cycles spec else fun _ => [],
   countInc t (d.f 12 8),
   if d.b 22 then ipend t 0 else fun _ => []]

/-- A finished descriptor leaves its engine and reports. -/
def retire (t e : Nat) (r : Running) : Plan := plans
  [fun _ => [.parts fun p => { p with running := p.running.put (eKey t e) none }],
   fun s => complete t e r.desc r.status r.val0 r.val1 (s.clock - r.start) r.spec s]

/-- The head of a queue leaves it. -/
def popQueue (t e : Nat) : Plan := fun s => setQueue t e ((s.queue t e).drop 1) s

/-- A descriptor starts: it leaves its queue and runs until `done`. -/
def begin_ (t e : Nat) (r : Running) : Plan := plans
  [popQueue t e, fun _ => [.parts fun p => { p with running := p.running.put (eKey t e) (some r) }]]

/-- A counter of a tile has reached a value: value − counter, as an i32, is 0 or negative (R75). -/
def State.reached (s : State) (t c v : Nat) : Bool :=
  let d := (v + 2 ^ 32 - s.rd .TC_CNT_VALUE t c) % 2 ^ 32
  d == 0 || decide (2 ^ 31 ≤ d)

/-! ### Snoop points (R501, R502) -/

/-- The record length of an armed unit. -/
def CvArm.rlen (a : CvArm) : Nat := max 64 (a.desc.f 151 128)

/-- Bytes enter the record in progress; each full record waits 8 cycles for its decision (R503). -/
def CvArm.feed (a : CvArm) (now : Nat) (bad : Bool) : Nat → List Byte → CvArm
  | 0, _ => a
  | fuel + 1, bs =>
    let room := a.rlen - a.buf.length
    if bs.length < room then { a with buf := a.buf ++ bs, bufBad := a.bufBad || (bad && !bs.isEmpty) }
    else
      CvArm.feed { a with recs := a.recs ++ [(a.buf ++ bs.take room, a.bufBad || bad, now + 8)], buf := [], bufBad := false }
        now bad fuel (bs.drop room)

/-- The unit takes the bytes of one granule that lie in its window; point 4 has none. -/
def CvArm.take (a : CvArm) (now point lo : Nat) (bs : List Byte) (bad : Bool) : CvArm :=
  if a.desc.f 66 64 ≠ point then a
  else if point = 4 then a.feed now bad (bs.length + 1) bs
  else
    let w0 := a.desc.f 95 72
    let w1 := w0 + a.desc.f 120 96
    let lo' := max lo w0
    let hi' := min (lo + bs.length) w1
    if hi' ≤ lo' then a else a.feed now bad (bs.length + 1) ((bs.drop (lo' - lo)).take (hi' - lo'))

/-- A point presents bytes at offset `off` of tile t's store; `bad` lists the poisoned granules by their offset. -/
def snoop (t point off : Nat) (bs : List Byte) (bad : List Nat) : Plan := fun s =>
  if (s.parts.cv.find (2 * t)).isNone ∧ (s.parts.cv.find (2 * t + 1)).isNone then [] else
  let pieces := if point = 4 then [(off, bs.length)] else granules off bs.length
  let upd := fun (m : NMap CvArm) u => match m.find (2 * t + u) with
    | none => m
    | some a => m.put (2 * t + u) (some (pieces.foldl (fun a p =>
        a.take s.clock point p.1 ((bs.drop (p.1 - off)).take p.2) (bad.contains (p.1 / 64 * 64))) a))
  [.parts fun p => { p with cv := upd (upd p.cv 0) 1 }]

/-- A remote store or counted write lands in tile t's store through pool agent 1 (R246, R502). -/
def landRemote (t off : Nat) (bs : List Byte) (bad : List Nat) : Plan := plans
  [writeTs t off bs (bad.map (· + storeBase t)), snoop t 2 off bs bad]

end Sys2Proof.Machine
end

