-- ==== Sys2Proof/Machine/Link.lean ====
section
/-! DEFINITION. Fabric links (Fabric Links: R311 to R329): link blocks, retry, training, qualification, loss and restart of a
link. Link p of F-die f is link 16 × f + p. What a far end or a wire shows (lane classes, alignment, soak counts, received
blocks) comes with the command. -/
namespace Sys2Proof.Machine
open Host

/-- The F-die of a link. -/
def fdieOf (l : Nat) : Nat := l / 16

/-- The state of a link (Table 13.2). -/
def State.linkState (s : State) (l : Nat) : Nat := s.rd .FL_STAT_STATE l

/-- The link is ACTIVE. -/
def State.linkActive (s : State) (l : Nat) : Bool := s.linkState l == linkActiveCode

/-- The routing weight of a link: its width in ACTIVE, and 0 in any other state or while it drains (R320, R327). -/
def State.weight (s : State) (l : Nat) : Nat :=
  if s.linkActive l ∧ s.vr .LINK_DRAIN l = 0 then s.rd .FL_STAT_WIDTH l else 0

/-- How many links are in a state, once link `l` is in state `st`. -/
def State.countLinks (s : State) (l st q : Nat) : Nat :=
  (links.filter fun k => (if k = l then st else s.linkState k) == q).length

/-- A link changes state: CHG and LINK_CHG set, a change into DOWN or HELD interrupts the firmware when IRQ_EN is 1, which posts
LINK_STATE, and an entry to DETECT is counted (R320). The last SEQ its receiver delivered is kept from leaving ACTIVE until it
next enters ACTIVE (R349). -/
def setLinkState (l st cause : Nat) : Plan := fun s =>
  let f := fdieOf l
  let p := l % 16
  [wr .FL_STAT_STATE st l, wr .FL_STAT_CAUSE cause l, wr .FL_STAT_CHG 1 l, wv .FR_LINK_CHG 1, wv .LINK_AT s.clock l,
   wr .FL_UP_ACTIVE (if st = 5 then setB (s.rd .FL_UP_ACTIVE f) p else clrB (s.rd .FL_UP_ACTIVE f) p) f,
   wr .FL_UP_HELD (if st = 8 then setB (s.rd .FL_UP_HELD f) p else clrB (s.rd .FL_UP_HELD f) p) f,
   wr .PM_READY_LINKS_ACTIVE (s.countLinks l st 5), wr .PM_READY_LINKS_HELD (s.countLinks l st 8)]
  ++ (if st = 1 then [bump s .FL_STAT_TRAINS 1 l, wv .DETECT_AT s.clock l] else [])
  ++ (if st = 5 ∨ st = 6 then [] else [wr .FL_STAT_WIDTH 0 l, wr .FL_STAT_PROBATION 0 l])
  ++ (if s.linkState l = 5 ∧ st ≠ 5 then
        [wr .NI_RECON_SEQ_SEQ ((s.vr .RX_SEQ l + 65535) % 65536) f p, wr .NI_RECON_SEQ_VALID 1 f p] else [])
  ++ (if st = 5 then [wr .NI_RECON_SEQ_VALID 0 f p] else [])
  ++ (if (st = 7 ∨ st = 8) ∧ s.rd .FL_CTL_IRQ_EN l = 1 then
        plans [raise .fabric .linkState l, postEvent 0x0006 0 0xFF [f, p, st, 0, cause]] s else [])

/-- The flits of a queued item: 8 for a sync message (R315), a header of 32 bytes and the data for a packet (R334). -/
def TxWhat.flits : TxWhat → Nat
  | .sync _ => 8
  | .pkt p => ceilDiv (32 + p.data.length) 64

/-- The packets among sent or queued items. -/
def pktsOf : List TxWhat → List Packet
  | [] => []
  | .sync _ :: t => pktsOf t
  | .pkt p :: t => p :: pktsOf t

/-! ### Blocks -/

/-- What one block takes from a queue: the items left, those whose last flit goes, and the flits used per class. A payload flit
of a class needs a credit of that class, and no class blocks another (R316, R336). -/
structure Filled where
  left : List TxItem
  ended : List TxWhat
  used : List Nat
  syncs : Nat
deriving DecidableEq, Repr

/-- A block with room for `room` flits filled from a queue under the credits `cr` of the four classes. -/
def fillBlock : Nat → List Nat → List TxItem → Filled
  | _, _, [] => ⟨[], [], [0, 0, 0, 0], 0⟩
  | room, cr, it :: t =>
    let rest := it.what.flits - it.sent
    match it.what with
    | .sync _ =>
      let n := min rest room
      let r := fillBlock (room - n) cr t
      if n = rest then ⟨r.left, it.what :: r.ended, r.used, r.syncs + n⟩
      else ⟨{ it with sent := it.sent + n } :: r.left, r.ended, r.used, r.syncs + n⟩
    | .pkt p =>
      let k := p.cls % 4
      let n := min (min rest room) (cr.getD k 0)
      let r := fillBlock (room - n) (cr.set k (cr.getD k 0 - n)) t
      let used := r.used.set k (r.used.getD k 0 + n)
      if n = rest then ⟨r.left, it.what :: r.ended, used, r.syncs⟩
      else ⟨{ it with sent := it.sent + n } :: r.left, r.ended, used, r.syncs⟩

/-- The credits of the four classes that the sender of a link holds: cumulative counts modulo 2^24 (R316). -/
def State.credits (s : State) (l : Nat) : List Nat :=
  (List.range 4).map fun k => (s.vr .CR_LIMIT l k + 2 ^ 24 - s.vr .CR_USED l k) % 2 ^ 24

/-- What the NI holds of a link that goes DOWN: unacknowledged blocks in SEQ order, then the queue (R327, R348). -/
def handbackOf (s : State) (l : Nat) : List HeldBlock :=
  (((s.parts.replay.at l).map fun b => (⟨some b.seq, pktsOf b.ended⟩ : HeldBlock))
    ++ [⟨none, pktsOf ((s.parts.linkTx.at l).map (·.what))⟩])

/-- The RECONCILE request of link `l`: to the peer named in FL_PEER, with the peer's F-die and port in the address and the first
SEQ handed back as data (R348). -/
def reconcilePkt (s : State) (l seq : Nat) : Packet :=
  { op := 0x20, cls := 3, ttl := 31, resent := false, srcNode := s.rd .NI_CTL_NODE (fdieOf l), dstNode := s.rd .FL_PEER_NODE l,
    srcTile := 63, tag := l, addr := 16 * s.rd .FL_PEER_FDIE l + s.rd .FL_PEER_PORT l, len := 1, atype := 0,
    stamp := s.gtc % 2 ^ 32, d := bitsOf (s.vr .RT (fdieOf l) (s.rd .FL_PEER_NODE l)) 47 28, cnt := 0, cntEn := false,
    taint := false, status := 0, poison := 0, data := leBytes 2 seq }

/-- A link goes DOWN: its unacknowledged replay entries and queued flits go back to the NI, which holds their packets and sends
RECONCILE in the same cycle (R327, R348). -/
def linkDown (l cause : Nat) : Plan := plans
  [fun s =>
    let blocks := handbackOf s l
    let f := fdieOf l
    let seq := match s.parts.replay.at l with | b :: _ => b.seq | [] => s.vr .TX_SEQ l
    if blocks.all fun b => b.pkts.isEmpty then
      [.parts fun p => { p with replay := p.replay.set l [], linkTx := p.linkTx.set l [] }]
    else
      [.parts fun p => { p with
          replay := p.replay.set l [],
          linkTx := p.linkTx.set l [],
          handbacks := p.handbacks.put l (some ⟨s.gtc, s.rd .FL_PEER_VALID l == 0, blocks⟩),
          fdiePkts := if s.rd .FL_PEER_VALID l = 1 then
            p.fdiePkts.set f (p.fdiePkts.at f ++ [⟨reconcilePkt s l seq, none⟩]) else p.fdiePkts },
       wr .NI_STAT_HELD 1 f, wr .NI_STAT_RECON_PEND (s.rd .FL_PEER_VALID l) f, wv .RECON_AT (s.gtc + 1) l],
   fun _ => [wv .LINK_DRAIN 0 l, wv .TX_RESEND 0 l, wv .TX_EVENT 0 l, wv .RX_NAK 0 l, wv .RX_EVENT 0 l, wv .TX_MSG 0 l],
   setLinkState l 7 cause]

/-- An ACTIVE link enters RETRAIN, which keeps its replay entries, queue, polarity and lane maps (R320, R327). -/
def linkRetrain (l : Nat) : Plan := plans [setLinkState l 6 0, fun _ => [wv .LINK_ALIGNED 0 l]]

/-- An ACTIVE link sends its next block: a resent one after a NAK, the DOWN_NOTICE that ends a drain, or up to 47 payload flits
from its queue, with idle flits in the rest. Every block sent is held in the 64-entry replay buffer (R313 to R318, R327). -/
def linkBlockSendPlan (l : Nat) : Plan := fun s =>
  if ¬ s.linkActive l then [] else
  let replay := s.parts.replay.at l
  let queue := s.parts.linkTx.at l
  let rs := s.vr .TX_RESEND l
  if rs ≠ 0 ∧ replay.any (fun b => b.seq == rs - 1) then
    let next := rs % 65536
    [wv .TX_RESEND (if replay.any fun b => b.seq == next then next + 1 else 0) l, wv .RX_NAK 0 l]
  else if s.vr .LINK_DRAIN l ≠ 0 ∧ replay.isEmpty ∧ queue.isEmpty then
    plans [fun _ => [wv .TX_MSG 2 l, wv .TX_SEQ ((s.vr .TX_SEQ l + 1) % 65536) l],
      linkDown l (if s.vr .LINK_DRAIN l = 1 then 12 else 13)] s
  else if 64 ≤ replay.length then [wv .TX_RESEND 0 l]
  else
    let r := fillBlock 47 (s.credits l) queue
    let flits := r.used.foldl (· + ·) 0 + r.syncs
    let seq := s.vr .TX_SEQ l
    [.parts fun p => { p with linkTx := p.linkTx.set l r.left, replay := p.replay.set l (replay ++ [⟨seq, flits, r.ended⟩]) },
     wv .TX_SEQ ((seq + 1) % 65536) l, bumpWrap s .FL_BLOCKS_PAYLOAD flits l, wv .RX_NAK 0 l, wv .TX_RESEND 0 l, wv .TX_MSG 0 l]
    ++ (List.range 4).map fun k => wv .CR_USED ((s.vr .CR_USED l k + r.used.getD k 0) % 2 ^ 24) l k

/-- A link sends its next link block. -/
def execLinkBlockSend (link : Link) (s : State) : Outcome State Fault Refusal :=
  .next <| s.perform (linkBlockSendPlan link)

/-- SEQ `a` lies before SEQ `b` in the 16-bit order of the 64-entry window. -/
def seqBefore (a b : Nat) : Bool :=
  let d := (b + 65536 - a % 65536) % 65536
  decide (0 < d ∧ d < 32768)

/-- A good header's acknowledgement, NAK and credits (R316 to R318). -/
def takeHeader (l : Nat) (b : RxBlock) : Plan := fun s =>
  let ack := b.ackNext.toNat
  [.parts fun p => { p with replay := p.replay.set l ((p.replay.at l).filter fun x => !seqBefore x.seq ack) }]
  ++ (List.range 4).map (fun k => wv .CR_LIMIT (b.credits.getD k (BitVec.ofNat 24 (s.vr .CR_LIMIT l k))).toNat l k)
  ++ (if b.nak then
        (if s.vr .TX_EVENT l = ack + 1 then [] else [wv .TX_RESEND (ack + 1) l, wv .TX_EVENT (ack + 1) l])
      else if s.vr .TX_EVENT l = ack + 1 then [] else [wv .TX_EVENT 0 l])

/-- A bad block: the receiver asks for it again, which is one retry event until it arrives, and the 17th retry event in a frame
retrains the link (R55, R318, R319). -/
def badBlock (l : Nat) : Plan := fun s =>
  if s.vr .RX_EVENT l = 1 then [] else
  [wv .RX_NAK 1 l, wv .RX_EVENT 1 l, bump s .FL_RETRY_EVENTS 1 l, bumpV s .FR_RETRY 1 l]
  ++ (if 17 ≤ s.vr .FR_RETRY l + 1 then linkRetrain l s else [])

/-- A received link block: bad when a codeword is uncorrectable, its CRC fails or its SEQ is not the one expected; a good one is
delivered once, in SEQ order (R312, R317, R318, R327). -/
def linkBlockReceivePlan (l : Nat) (b : RxBlock) : Plan := fun s =>
  if ¬ s.linkActive l then [] else
  let sound := b.crcOk && b.fecUncorrectable.toNat == 0
  let good := sound && b.seq.toNat == s.vr .RX_SEQ l
  let f := fdieOf l
  plans
   [fun s => [bump s .FL_FEC_CORR_BITS b.fecCorrected.toNat l, bump s .FL_FEC_UNCORR_CW b.fecUncorrectable.toNat l]
      ++ (if b.crcOk then [] else [bump s .FL_FEC_UNCORR_CRC 1 l]),
    planIf (fun _ => sound) (takeHeader l b),
    if good then fun _ =>
      [wv .RX_SEQ ((s.vr .RX_SEQ l + 1) % 65536) l, wv .RX_EVENT 0 l,
       .parts fun p => { p with fdiePkts := p.fdiePkts.set f (p.fdiePkts.at f ++ b.packets.map fun x => ⟨x, some l⟩) }]
    else badBlock l,
    fun s => if good ∧ b.msg.toNat = 2 then linkDown l 11 s
      else if good ∧ b.msg.toNat = 1 ∧ s.linkActive l then linkRetrain l s else []] s

/-- A link block is received. -/
def execLinkBlockReceive (link : Link) (block : RxBlock) (s : State) : Outcome State Fault Refusal :=
  .next <| s.perform (linkBlockReceivePlan link block)

/-! ### Training -/

/-- A DETECT attempt classifies each lane: a driver at the far end holds the link with TX_CROSS, a terminated lane leads to
ALIGN, and no far end on any lane repeats the attempt after 1,050,000 cycles with CAUSE NO_PEER (R321, R322, Table 13.2). -/
def linkDetectPlan (l : Nat) (cs : List LaneClass) : Plan := fun s =>
  if s.linkState l ≠ 1 ∨ s.clock < s.vr .DETECT_AT l then [] else
  let at_ := fun k => cs.getD k .open_
  let flag := fun (c : LaneClass) k => if at_ k = c then 1 else 0
  ((List.range 4).flatMap fun k =>
    [wr .FL_LANE_OPEN (flag .open_ k) l k, wr .FL_LANE_SHORT (flag .short k) l k, wr .FL_LANE_DRIVER (flag .driver k) l k,
     wr .FL_LANE_USED 0 l k])
  ++ [wv .LANE_USABLE ((List.range 4).foldl (fun m k => m + flag .termination k * 2 ^ k) 0) l, wv .LANE_LOCKED 0 l]
  ++ (if (List.range 4).any fun k => at_ k == .driver then setLinkState l 8 2 s
      else if (List.range 4).any fun k => at_ k == .termination then setLinkState l 2 0 s
      else [wr .FL_STAT_CAUSE 1 l, wv .DETECT_AT (s.clock + 1050000) l])

/-- A DETECT attempt on a link. -/
def execLinkDetect (link : Link) (lane0 lane1 lane2 lane3 : LaneClass) (s : State) : Outcome State Fault Refusal :=
  .next <| s.perform (linkDetectPlan link [lane0, lane1, lane2, lane3])

/-- ALIGN: lanes that lock have their polarity corrected and their lane ID mapped, and the link enters CONFIG; in RETRAIN the
polarity and lane maps are kept (R322, Table 13.2). -/
def linkAlignPlan (l : Nat) (a : List LaneAlign) : Plan := fun s =>
  let locked := fun k => match a[k]? with | some x => x.locked && testB (s.vr .LANE_USABLE l) k | none => false
  let mask := (List.range 4).foldl (fun m k => if locked k then m + 2 ^ k else m) 0
  if mask = 0 then []
  else if s.linkState l = 2 ∧ s.clock ≤ s.vr .LINK_AT l + 2100000 then
    [wv .LANE_LOCKED mask l]
    ++ ((List.range 4).flatMap fun k => match a[k]? with
        | some x => if locked k then
            [wr .FL_LANE_RX_POL_INV (if x.inverted then 1 else 0) l k, wr .FL_LANE_LOGICAL x.laneId l k] else []
        | none => [])
    ++ setLinkState l 3 0 s
  else if s.linkState l = 6 ∧ s.clock ≤ s.vr .LINK_AT l + 210000 then [wv .LANE_LOCKED mask l, wv .LINK_ALIGNED 1 l]
  else []

/-- ALIGN locks lanes of a link. -/
def execLinkAlign (link : Link) (lane0 lane1 lane2 lane3 : LaneAlign) (s : State) : Outcome State Fault Refusal :=
  .next <| s.perform (linkAlignPlan link [lane0, lane1, lane2, lane3])

/-- ALIGN locks no lane within its limit: the link is HELD with ALIGN_TIMEOUT (Table 13.2). -/
def execLinkAlignTimeout (link : Link) (s : State) : Outcome State Fault Refusal :=
  .next <| s.perform fun s =>
    if s.linkState link = 2 ∧ s.vr .LINK_AT link + 2100000 ≤ s.clock then setLinkState link 8 9 s else []

/-- The lowest `n` set bits of a four-bit lane set (R323). -/
def lowestLanes (set_ n : Nat) : Nat :=
  ((List.range 4).foldl (fun (m : Nat × Nat) k => if testB set_ k ∧ m.2 < n then (m.1 + 2 ^ k, m.2 + 1) else m) (0, 0)).1

/-- How many lanes a lane set has. -/
def laneCount (set_ : Nat) : Nat := ((List.range 4).filter fun k => testB set_ k).length

/-- The logical lanes that this end can use: those received on locked lanes, less the masked ones (R323). -/
def State.ownLanes (s : State) (l : Nat) : Nat :=
  (List.range 4).foldl (fun m q =>
    if testB (s.rd .FL_CTL_LANE_MASK l) q then m
    else if (List.range 4).any fun k => testB (s.vr .LANE_LOCKED l) k && s.rd .FL_LANE_LOGICAL l k == q then m + 2 ^ q else m) 0

/-- The flight time in cycles of a measured round trip (R328). -/
def flightOf (rt : Nat) : Nat := ceilDiv (rt - 952) 2

/-- The latency class of a flight time, 3 when it is out of range (Table 13.4). -/
def classOf (f : Nat) : Nat := if f ≤ 4 then 0 else if f ≤ 16 then 1 else if f ≤ 64 then 2 else 3

/-- The lane flags of an agreed set. -/
def showLanes (l set_ : Nat) : Plan := fun s =>
  (List.range 4).map fun k =>
    wr .FL_LANE_USED (if testB (s.vr .LANE_LOCKED l) k ∧ testB set_ (s.rd .FL_LANE_LOGICAL l k) then 1 else 0) l k

/-- The sender's resume point: entries before the peer's ACK_NEXT are dropped and the rest resent; with nothing held the next
SEQ is the one the peer expects (R327). -/
def resumeAt (l ack : Nat) : Plan := fun s =>
  let keep := (s.parts.replay.at l).filter fun x => !seqBefore x.seq ack
  [.parts fun p => { p with replay := p.replay.set l keep },
   wv .TX_RESEND (if keep.isEmpty then 0 else ack + 1) l, wv .TX_EVENT 0 l, wv .RX_NAK 0 l, wv .RX_EVENT 0 l]
  ++ (if keep.isEmpty then [wv .TX_SEQ ack l] else [])

/-- CONFIG agrees the lane set and measures the flight. Faults hold the link (R322, R323, R328); otherwise it enters QUALIFY, or
out of RETRAIN, with lanes that only fall (R324), ACTIVE in probation (R326). A class other than the one it qualified with, or no
lane left, takes a retraining link DOWN. -/
def linkConfigPlan (l : Nat) (p : PeerConfig) : Plan := fun s =>
  let retrain := decide (s.linkState l = 6 ∧ s.vr .LINK_ALIGNED l = 1)
  if s.linkState l ≠ 3 ∧ ¬ retrain then [] else
  let fl := flightOf p.roundTrip.toNat
  let cl := classOf fl
  let own := s.ownLanes l
  let both := (List.range 4).foldl (fun m q =>
    if testB own q ∧ testB p.lanes.toNat q ∧ (¬ retrain ∨ testB (s.vr .LINK_SET l) q) then m + 2 ^ q else m) 0
  let set_ := lowestLanes both (min (s.rd .FL_CTL_MAX_W l) p.maxW)
  let w := laneCount set_
  let mismatch := decide (s.rd .FL_CTL_PEER_CHK l = 1 ∧ (s.rd .FL_PEER_EXP_NODE l ≠ p.node.toNat
    ∨ s.rd .FL_PEER_EXP_FDIE l ≠ p.fdie.toNat ∨ s.rd .FL_PEER_EXP_PORT l ≠ p.port.toNat))
  [wr .FL_PEER_NODE p.node.toNat l, wr .FL_PEER_FDIE p.fdie.toNat l, wr .FL_PEER_PORT p.port.toNat l, wr .FL_PEER_VALID 1 l,
   wr .FL_LAT_FLIGHT (min fl 255) l, wr .FL_LAT_RT p.roundTrip.toNat l, wr .FL_LAT_CLASS (min cl 2) l]
  ++ (if p.conflict then setLinkState l 8 8 s
      else if mismatch then setLinkState l 8 7 s
      else if cl = 3 then setLinkState l 8 6 s
      else if retrain then
        (if w = 0 then linkDown l 10 s
         else if cl ≠ s.vr .LINK_QCLASS l then linkDown l 0 s
         else plans [fun _ => [wv .LINK_SET set_ l], resumeAt l p.ackNext.toNat, showLanes l set_, setLinkState l 5 0,
           fun _ => [wr .FL_STAT_WIDTH w l, wr .FL_STAT_PROBATION 1 l]] s)
      else if w = 0 then setLinkState l 8 3 s
      else plans [fun _ => [wv .LINK_SET set_ l], resumeAt l p.ackNext.toNat, showLanes l set_, setLinkState l 4 0,
        fun _ => [wr .FL_STAT_WIDTH w l]] s)

/-- CONFIG completes on a link. -/
def execLinkConfig (link : Link) (peer : PeerConfig) (s : State) : Outcome State Fault Refusal :=
  .next <| s.perform (linkConfigPlan link peer)

/-- The ingress flits per link of a traffic class (Table 14.5). -/
def ingressFlits (k : Nat) : Nat := match k with | 0 => 896 | 1 => 896 | 2 => 192 | _ => 64

/-- The lane set's entry with the most corrected bits, the lowest on a tie: its count and logical lane. -/
def worstLane (set_ : Nat) (corr : List Nat) : Nat × Nat :=
  (List.range 4).foldl (fun (m : Nat × Nat) k =>
    if testB set_ k ∧ (m.1 < corr.getD k 0) then (corr.getD k 0, k) else m) (0, 0)

/-- The QUALIFY soak ends after 52,500,000,000 / w cycles: the link passes when each lane corrected at most 10^7 / w bits and no
codeword was uncorrectable (R325). -/
def linkQualifyPlan (l : Nat) (corr : List Nat) (unc : Bool) : Plan := fun s =>
  let w := s.rd .FL_STAT_WIDTH l
  if s.linkState l ≠ 4 ∨ w = 0 ∨ s.clock < s.vr .LINK_AT l + 52500000000 / w then [] else
  let worst := worstLane (s.vr .LINK_SET l) corr
  let ber := decide (10 ^ 7 < worst.1 * w)
  let pass := !unc && !ber
  [wr .FL_QUAL_WORST (min worst.1 (2 ^ 32 - 1)) l, wr .FL_QUAL_WORST_LANE worst.2 l, wr .FL_QUAL_PASS (if pass then 1 else 0) l,
   wr .FL_QUAL_POSTFEC_FAIL (if unc then 1 else 0) l, wr .FL_QUAL_WIDTH w l]
  ++ (if pass then
        setLinkState l 5 0 s
        ++ [wr .FL_STAT_WIDTH w l, wv .LINK_QCLASS (s.rd .FL_LAT_CLASS l) l, wv .SOAK_OK 1 l]
        ++ (List.range 4).flatMap fun k => [wv .CR_USED 0 l k, wv .CR_LIMIT 0 l k, wv .CR_FREED (ingressFlits k) l k]
      else setLinkState l 8 (if unc then 5 else 4) s)

/-- The QUALIFY soak of a link ends. -/
def execLinkQualifyEnd (link : Link) (corr0 corr1 corr2 corr3 : BitVec 32) (uncorrectable : Bool) (s : State) :
    Outcome State Fault Refusal :=
  .next <| s.perform (linkQualifyPlan link [corr0.toNat, corr1.toNat, corr2.toNat, corr3.toNat] uncorrectable)

/-- Probation ends after 16,777,216 cycles: a lane that corrected more than 3,195 bits, or any uncorrectable codeword, fails it
and the link goes DOWN (R326). -/
def execLinkProbationEnd (link : Link) (worst : BitVec 32) (uncorrectable : Bool) (s : State) : Outcome State Fault Refusal :=
  .next <| s.perform fun s =>
    if s.linkActive link ∧ s.rd .FL_STAT_PROBATION link = 1 ∧ s.vr .LINK_AT link + 16777216 ≤ s.clock then
      (if uncorrectable ∨ 3195 < worst.toNat then linkDown link 14 s else [wr .FL_STAT_PROBATION 0 link])
    else []

/-- RETRAIN passes its limit of 210,000 cycles, or finds no lane: the link goes DOWN (Table 13.2). -/
def execLinkRetrainTimeout (link : Link) (noLane : Bool) (s : State) : Outcome State Fault Refusal :=
  .next <| s.perform fun s =>
    if s.linkState link = 6 ∧ (noLane ∨ s.vr .LINK_AT link + 210000 ≤ s.clock) then linkDown link 10 s else []

/-- After 16 cycles in DOWN a link enters DETECT, or DISABLED when its port domain is not ON (Table 13.2). -/
def execLinkDownEnd (link : Link) (s : State) : Outcome State Fault Refusal :=
  .next <| s.perform fun s =>
    if s.linkState link = 7 ∧ s.vr .LINK_AT link + 16 ≤ s.clock then
      setLinkState link (if s.domOn (100 + link) then 1 else 0) (s.rd .FL_STAT_CAUSE link) s
    else []

/-- A lane is no longer usable; an ACTIVE link that uses it retrains (R320, Table 13.3). -/
def dropLane (l k : Nat) : Plan := fun s =>
  [wv .LANE_LOCKED (clrB (s.vr .LANE_LOCKED l) k) l]
  ++ (if s.linkActive l ∧ s.rd .FL_LANE_USED l k = 1 then linkRetrain l s else [])

/-- The current sense trips on a lane: its driver is disabled and the lane is excluded (Table 13.3). -/
def execLaneShort (link : Link) (lane : Fin 4) (s : State) : Outcome State Fault Refusal :=
  .next <| s.perform fun s =>
    if s.linkState link = 0 then [] else
    [wr .FL_LANE_SHORT 1 link lane, wv .LANE_USABLE (clrB (s.vr .LANE_USABLE link) lane) link] ++ dropLane link lane s

/-- A lane loses lock: LOCK_LOST sets (Table 13.6). -/
def execLaneLockLoss (link : Link) (lane : Fin 4) (s : State) : Outcome State Fault Refusal :=
  .next <| s.perform fun s =>
    if s.linkState link = 0 then [] else wr .FL_LANE_LOCK_LOST 1 link lane :: dropLane link lane s

/-- A write of FL_CTL: the control fields, with a MAX_W outside 1 to 4 ignored (Table 13.6), and RESTART, which drains an ACTIVE
link and takes a HELD one to DETECT (R327, Table 13.2). -/
def flCtlPlan (l v : Nat) : Plan := fun s =>
  [wr .FL_CTL_PEER_CHK (bitOf v 1) l, wr .FL_CTL_IRQ_EN (bitOf v 2) l, wr .FL_CTL_LANE_MASK (bitsOf v 11 8) l]
  ++ (if 1 ≤ bitsOf v 6 4 ∧ bitsOf v 6 4 ≤ 4 then [wr .FL_CTL_MAX_W (bitsOf v 6 4) l] else [])
  ++ (if ¬ testB v 0 then []
      else if s.linkActive l then
        (if s.vr .LINK_DRAIN l = 0 then [wv .LINK_DRAIN 2 l, wv .LINK_DRAIN_AT s.clock l] else [])
      else if s.linkState l = 8 then setLinkState l 1 0 s else [])

/-- A write of FL_CTL. -/
def execLinkRestart (link : Link) (value : W64) (s : State) : Outcome State Fault Refusal :=
  .next <| s.perform (flCtlPlan link value.toNat)

/-- Entries still unacknowledged 1,048,576 cycles into a drain are handed back as for DOWN (R327). -/
def execLinkDrainTimeout (link : Link) (s : State) : Outcome State Fault Refusal :=
  .next <| s.perform fun s =>
    if s.linkActive link ∧ s.vr .LINK_DRAIN link ≠ 0 ∧ s.vr .LINK_DRAIN_AT link + 1048576 ≤ s.clock
        ∧ ¬ (s.parts.replay.at link).isEmpty then
      linkDown link (if s.vr .LINK_DRAIN link = 1 then 12 else 13) s
    else []

end Sys2Proof.Machine
end

