-- ==== Sys2Proof/Machine/Fabric.lean ====
section
/-! DEFINITION. Fabric routing and memory semantics (R330 to R359): forwarding, network interfaces, remote operations, request
trackers, flags, reconciliation and replicated regions. -/
namespace Sys2Proof

/-- A packet is a response. -/
def Packet.isResp (p : Packet) : Bool := testB p.op 7

/-- The flits of a packet. -/
def Packet.flits (p : Packet) : Nat := ceilDiv (32 + p.data.length) 64

/-- The response to a request (R335): its SRC_NODE, SRC_TILE, TAG and OP with bit 7 set; it travels to the source node. -/
def Packet.response (p : Packet) (status : Nat) (data : List Byte) (poison : Nat) : Packet :=
  { p with
    op := setB p.op 7, cls := if p.op = 0x20 then 3 else 1, dstNode := p.srcNode, resent := false, status := status, data := data,
    len := data.length, poison := poison, cntEn := false, taint := false }

/-- A request stores: a store, flag, collective data or atomic. -/
def Packet.stores (p : Packet) : Bool := p.op ∈ [0x02, 0x03, 0x04, 0x10, 0x11, 0x12, 0x13]

/-- The bytes a request touches at its target. -/
def Packet.span (p : Packet) : Nat :=
  if p.op = 0x03 then 8
  else if 0x10 ≤ p.op ∧ p.op ≤ 0x13 then (if p.atype % 2 = 1 then 8 else 4)
  else max 1 p.len

end Sys2Proof

namespace Sys2Proof.Machine
open Host

/-! ### Addresses and routes -/

/-- What a range of local addresses names (Table 10.1). -/
inductive Target where
  | stack
  | tile (logical : Nat) (off : Nat)
  | mmio
  | hole
deriving DecidableEq, Repr

/-- The target of `n` bytes from local address `a` on. -/
def targetOf (a n : Nat) : Target :=
  if a + n ≤ stackTop then .stack
  else if 0x010000000000 ≤ a ∧ a + n ≤ 0x010040000000 then .tile ((a - 0x010000000000) / 0x1000000) (a % 0x1000000)
  else if 0x018000000000 ≤ a ∧ a + n ≤ 0x018002000000 then .mmio
  else .hole

/-- The home F-die of a physical tile: the one of its die column (R338). -/
def homeF (t : Nat) : Nat := (t % 8) / 2

/-- The package's node ID as F-die f holds it (R330). -/
def State.node (s : State) (f : Nat) : Nat := s.rd .NI_CTL_NODE f

/-- The flow's bucket (R332). -/
def flowBucket (src tile dst : Nat) : Nat :=
  let h := (src * 0x9E37 + tile * 0x7F4B + dst) % 65536
  (h ^^^ (h / 256)) % 16

/-- Candidate c of a routing entry: its link when it is valid (Table 14.1). -/
def candidate (e c : Nat) : Option Nat := if testB e (7 * c + 6) then some (bitsOf e (7 * c + 5) (7 * c)) else none

/-- The candidates of an entry with their weights: 0 for one that is not valid. -/
def State.candWeights (s : State) (e : Nat) : List Nat :=
  (List.range 4).map fun c => match candidate e c with | some l => s.weight l | none => 0

/-- The buckets left over after the floors go one at a time to the largest remainder, the lower index on a tie. -/
def giveLeft : Nat → List (Nat × Nat) → List Nat
  | 0, l => l.map (·.1)
  | n + 1, l =>
    let best := l.foldl (fun m x => max m x.2) 0
    match l.findIdx? (fun x => x.2 == best) with
    | some i => giveLeft n (l.mapIdx fun k x => if k = i then (x.1 + 1, 0) else x)
    | none => l.map (·.1)

/-- How many of the 16 buckets each candidate owns (R332). -/
def bucketCounts (ws : List Nat) : List Nat :=
  let sum := ws.foldl (· + ·) 0
  if sum = 0 then ws.map fun _ => 0 else
  let fl := ws.map fun w => 16 * w / sum
  giveLeft (16 - fl.foldl (· + ·) 0) (ws.map fun w => (16 * w / sum, if w = 0 then 0 else (16 * w) % sum))

/-- The candidate that owns bucket b: contiguous runs in ascending order. -/
def ownerOf : List Nat → Nat → Nat → Option Nat
  | [], _, _ => none
  | n :: t, c, b => if b < n then some c else ownerOf t (c + 1) (b - n)

/-- What an F-die does with a packet that is not for its own node. -/
inductive Choice where
  | link (l : Nat) | wait | none
deriving DecidableEq, Repr

/-- The choice of R332 for a packet. -/
def State.choose (s : State) (f : Nat) (p : Packet) : Choice :=
  let e := s.vr .RT f p.dstNode
  if ¬ testB e 48 then .none else
  let ws := s.candWeights e
  if ws.all (· == 0) then
    (if (List.range 4).any fun c => match candidate e c with | some l => s.linkState l == 6 | Option.none => false then .wait else .none)
  else match ownerOf (bucketCounts ws) 0 (flowBucket p.srcNode p.srcTile p.dstNode) with
    | some c => match candidate e c with | some l => .link l | Option.none => .none
    | Option.none => .none

/-! ### Packets -/

/-- The NI of F-die f sends a packet: stamped, with D of its routing entry and TTL 31 (R338). -/
def niSend (f : Nat) (p : Packet) : Plan := fun s =>
  let q := { p with ttl := 31, stamp := s.gtc % 2 ^ 32, d := bitsOf (s.vr .RT f p.dstNode) 47 28 }
  [.parts fun x => { x with fdiePkts := x.fdiePkts.set f (x.fdiePkts.at f ++ [⟨q, none⟩]) }]

/-- A packet that came in on a link has left its ingress buffer: its flits are granted to the peer again (R316). -/
def freeIngress (via : Option Nat) (p : Packet) : Plan := fun s =>
  match via with
  | none => []
  | some l => [wv .CR_FREED ((s.vr .CR_FREED l (p.cls % 4) + p.flits) % 2 ^ 24) l (p.cls % 4)]

/-- A packet with no route: a request is answered with 0x64, a response discarded (R332). -/
def noRoute (f : Nat) (p : Packet) (ttl : Bool) : Plan := plans
  [fun s => (if ttl then [bump s .NI_ERR_TTL 1 f] else []) ++ [bump s .NI_ERR_NO_ROUTE 1 f],
   if p.isResp then fun _ => [] else niSend f (p.response 0x64 [] 0)]

/-- The first packet at F-die f leaves it. -/
def popFdie (f : Nat) : Act := .parts fun p => { p with fdiePkts := p.fdiePkts.set f ((p.fdiePkts.at f).drop 1) }

/-- An F-die forwards its first packet (R332). One that waits lets the packets behind it pass: it goes to the end. -/
def forwardPlan (f : Nat) : Plan := fun s =>
  match s.parts.fdiePkts.at f with
  | [] => []
  | fp :: rest =>
    let p := if fp.via.isSome then { fp.pkt with ttl := fp.pkt.ttl - 1 } else fp.pkt
    if p.dstNode = s.node f then
      plans [fun _ => [popFdie f], freeIngress fp.via p,
        fun _ => [.parts fun x => { x with niIn := x.niIn.set f (x.niIn.at f ++ [p]) }]] s
    else if fp.via.isSome ∧ p.ttl = 0 then
      plans [fun _ => [popFdie f], freeIngress fp.via p, noRoute f p true] s
    else match s.choose f p with
      | .none => plans [fun _ => [popFdie f], freeIngress fp.via p, noRoute f p false] s
      | .wait => [.parts fun x => { x with fdiePkts := x.fdiePkts.set f (rest ++ [fp]) }]
      | .link l =>
        plans [fun _ => [popFdie f], freeIngress fp.via p,
          fun _ => [.parts fun x => { x with linkTx := x.linkTx.set l (x.linkTx.at l ++ [⟨.pkt p, 0⟩]) }]] s

/-- F-die f forwards a packet. -/
def execForwardPacket (fdie : FDie) (s : State) : Outcome State Fault Refusal :=
  .next <| s.perform (forwardPlan fdie)

/-! ### Destination NI -/

/-- 32-bit time `a` lies before `b` (R337). -/
def before32 (a b : Nat) : Bool :=
  let d := (b + 2 ^ 32 - a % 2 ^ 32) % 2 ^ 32
  decide (0 < d ∧ d < 2 ^ 31)

/-- T_STALE at the NI of F-die f (R337). -/
def State.tStale (s : State) (f : Nat) : Nat := 2 ^ s.rd .NI_CTL_STALE_LOG2 f

/-- The replicated regions. -/
def regions : List Nat := List.range 64

/-- The size of region r at F-die f in bytes, 0 when it is not in use (R355). -/
def State.regionSize (s : State) (f r : Nat) : Nat :=
  if s.rd .NI_REPL_SIZE_VALID f r = 1 then s.rd .NI_REPL_SIZE_UNITS f r * 65536 else 0

/-- The base of the active buffer of region r. -/
def State.activeBuf (s : State) (f r : Nat) : Nat :=
  (if s.rd .NI_REPL_SIZE_ACTIVE f r = 0 then s.rd .NI_REPL_BUF_BUF0 f r else s.rd .NI_REPL_BUF_BUF1 f r) * 65536

/-- A local range touches the active buffer of a region (R358). -/
def State.inActiveBuf (s : State) (f a n : Nat) : Bool :=
  regions.any fun r =>
    let z := s.regionSize f r
    decide (0 < z ∧ a < s.activeBuf f r + z ∧ s.activeBuf f r < a + n)

/-- A tile is in partition reset (R353), or its domain is not in service. -/
def State.tileReset (s : State) (f l t : Nat) : Bool :=
  testB (s.rd .NI_RESET_TILES f) l || s.vr .TILE_HELD t == 1 || s.dom t == 0 || s.dom t == 1

/-- The check of Table 14.6 at the NI of F-die f (0x64, 0x8A, 0x60, 0x88), or none when the request is delivered. Collective data
for member tile 63 goes to the triggered agent of F-die 0 (R380), which has no other target; tokens are checked where they are served. A tile's
flag to its own store is fenced by neither its reset nor its caldera (R202, R243). -/
def State.refusal (s : State) (f : Nat) (fabric : Bool) (p : Packet) : Option Nat :=
  if p.op = 0x20 ∨ p.op = 0x30 then none else
  let n := p.span
  let amo := 0x10 ≤ p.op ∧ p.op ≤ 0x13
  let late := fun (rest : Option Nat) =>
    if (amo ∧ p.addr % n ≠ 0) ∨ (fabric ∧ p.stores ∧ s.inActiveBuf f p.addr n) then some 0x8A else rest
  match targetOf p.addr n with
  | .hole => some 0x64
  | .mmio => some 0x8A
  | .stack => late (if s.rangeAvail p.addr n = .off then some 0x60 else none)
  | .tile l off =>
    if p.op = 0x04 ∧ l = 63 then (if s.domOn 164 then none else some 0x60) else
    match s.physOf l with
    | none => some 0x64
    | some t => late (
        if ¬ fabric ∧ p.srcTile = l then none
        else if s.tileReset f l t then some 0x60
        else if s.rd .FS_STAT_WIN t ≠ 0 ∧ s.touchesCaldera t off n then some 0x88 else none)

/-- The flat address of a request's target. -/
def State.flatOf (s : State) (a n : Nat) : Nat :=
  match targetOf a n with
  | .tile l off => match s.physOf l with | some t => storeBase t + off | none => a
  | _ => a

/-- The tile whose caldera fence refused an access counts it (R202). -/
def countFence (p : Packet) (status : Nat) : Plan := fun s =>
  if status ≠ 0x88 then [] else
  match targetOf p.addr p.span with
  | .tile l _ => match s.physOf l with | some t => [bump s .FS_FENCE_REFUSED 1 t] | none => []
  | _ => []

/-- An answer leaves: through the NI of F-die f, or inside the package (f = 4) straight to the tracker. -/
def answer (f : Nat) (p : Packet) (status : Nat) (data : List Byte) (poison : Nat) : Plan := fun s =>
  let r := p.response status data poison
  if f < 4 then niSend f r s
  else match s.physOf p.srcTile with
    | some t => [.parts fun x => { x with responses := x.responses.set t (x.responses.at t ++ [r]) }]
    | none => [.parts fun x => { x with responses := x.responses.set 63 (x.responses.at 63 ++ [r]) }]

/-- A released packet is delivered: a response to its tile's tracker, a request through the checks of Table 14.6 to its target
(R338, R339, R353). -/
def deliver (f : Nat) (p : Packet) : Plan := fun s =>
  if p.isResp then
    if p.op = 0xA0 then [.parts fun x => { x with responses := x.responses.set (64 + p.tag % 64) (x.responses.at (64 + p.tag % 64) ++ [p]) }]
    else if p.srcTile = 63 then [.parts fun x => { x with responses := x.responses.set 63 (x.responses.at 63 ++ [p]) }]
    else match s.physOf p.srcTile with
      | some t => if testB (s.rd .NI_RESET_TILES f) p.srcTile then []
          else [.parts fun x => { x with responses := x.responses.set t (x.responses.at t ++ [p]) }]
      | none => []
  else match s.refusal f true p with
    | some st => plans [fun s => if st = 0x8A then [bump s .NI_ERR_REFUSED 1 f] else [], countFence p st, answer f p st [] 0] s
    | none => [.parts fun x => { x with serving := x.serving.set f (x.serving.at f ++ [p]) }]

/-- A packet registers at its destination NI: discarded when stale, delivered at once when late, otherwise held until STAMP + D
(R54, R337). -/
def arrivalPlan (f : Nat) : Plan := fun s =>
  match s.parts.niIn.at f with
  | [] => []
  | p :: rest =>
    let now := s.gtc % 2 ^ 32
    let rel := (p.stamp + p.d) % 2 ^ 32
    plans
     [fun _ => [.parts fun x => { x with niIn := x.niIn.set f rest }],
      if ¬ before32 now (rel + s.tStale f) ∧ before32 rel now then fun s => [bump s .NI_ERR_STALE 1 f]
      else if before32 rel now then plans [fun s => [bumpV s .FR_LATE_REL 1, bump s .NI_LATE_COUNT 1 f], deliver f p]
      else if now = rel then deliver f p
      else fun _ => [.parts fun x => { x with niHeld := x.niHeld.set f (x.niHeld.at f ++ [p]) }]] s

/-- A packet registers at the NI of F-die f. -/
def execPacketArrival (fdie : FDie) (s : State) : Outcome State Fault Refusal :=
  .next <| s.perform (arrivalPlan fdie)

/-- The first held packet whose release value has come is delivered (R54). -/
def releasePlan (f : Nat) : Plan := fun s =>
  let now := s.gtc % 2 ^ 32
  match (s.parts.niHeld.at f).find? fun p => !before32 now ((p.stamp + p.d) % 2 ^ 32) with
  | none => []
  | some p => plans [fun _ => [.parts fun x => { x with niHeld := x.niHeld.set f ((x.niHeld.at f).erase p) }], deliver f p] s

/-- The NI of F-die f releases a held packet. -/
def execPacketRelease (fdie : FDie) (s : State) : Outcome State Fault Refusal :=
  .next <| s.perform (releasePlan fdie)

/-! ### Serving requests (R339 to R341). At 0 to 3 the requests that an NI delivered, at 4 those of the package's own tiles. -/

/-- The POISON bits of bytes read from address `a`: data granule i by the 64 B granules the bytes lie in, folded modulo 60
(Table 14.3). -/
def poisonBits (a : Nat) (bad : List Nat) : Nat :=
  bad.foldl (fun m g => setB m ((g / 64 - a / 64) % 60)) 0

/-- The granules that POISON marks of `n` bytes written from flat address `a` on. -/
def badGranules (a n poison : Nat) : List Nat :=
  ((granules a n).map fun p => p.1 / 64 * 64).filter fun g => testB poison ((g / 64 - a / 64) % 60)

/-- The first request at a serving point with one of the given operations leaves it and is served by `k`, unless its stack is not
yet ON; a RECONCILE names a port and no memory. A local request meets the checks of Table 14.6 here. -/
def serve (at_ : Nat) (ops : List Nat) (k : Packet → Plan) : Plan := fun s =>
  match s.parts.serving.at at_ with
  | [] => []
  | p :: rest =>
    if ¬ ops.contains p.op then []
    else
      let pop : Plan := fun _ => [.parts fun x => { x with serving := x.serving.set at_ rest }]
      match (if at_ = 4 then s.refusal 0 false p else none) with
      | some st => plans [pop, countFence p st, answer at_ p st [] 0] s
      | none =>
        if p.op ≠ 0x20 ∧ targetOf p.addr p.span = .stack ∧ s.rangeAvail p.addr p.span = .waits then []
        else plans [pop, k p] s

/-- A load: the data with its poison, status 0x40 when any granule read carries poison. -/
def serveLoad (at_ : Nat) (p : Packet) : Plan := fun s =>
  let a := s.flatOf p.addr p.len
  let r := s.readMem a p.len
  plans [traffic a p.len false, noteRead r,
    answer at_ p (if r.bad.isEmpty then 0 else 0x40) r.data (poisonBits a r.bad)] s

/-- A counted write adds 1 to the destination tile's counter; stack memory has none (R340). -/
def countedWrite (p : Packet) : Plan := fun s =>
  match targetOf p.addr p.span with
  | .tile l _ => match s.physOf l with
    | some t => if p.cntEn then countInc t (p.cnt % 32) s else []
    | none => []
  | _ => []

/-- Bytes of a request land in stack memory or a tile store. -/
def landBytes (a : Nat) (bs : List Byte) (bad : List Nat) (wide : Bool) : Plan :=
  if a < stackTop then plans [traffic a bs.length true, writeStack a bs bad wide]
  else landRemote (tileOf a).1 (tileOf a).2 bs (bad.map fun g => g - storeBase (tileOf a).1)

/-- A store: written with its poison, counted, and answered with 0x40 when it carries poison (R340, R354). -/
def serveStore (at_ : Nat) (p : Packet) : Plan := fun s =>
  let a := s.flatOf p.addr p.len
  let bad := badGranules a p.data.length p.poison
  plans [landBytes a p.data bad true, countedWrite p, answer at_ p (if bad.isEmpty then 0 else 0x40) [] 0] s

/-- A flag: written with bit 63 set when it is tainted (R345). -/
def serveFlag (at_ : Nat) (p : Packet) : Plan := fun s =>
  let a := s.flatOf p.addr 8
  let v := leNat (p.data.take 8)
  plans [landBytes a (leBytes 8 (if p.taint then setB v 63 else v)) [] false, countedWrite p,
    answer at_ p (if p.taint then 0x41 else 0) [] 0] s

/-- The operand type of an atomic packet. -/
def atypeOf (n : Nat) : AType :=
  match n % 6 with | 0 => .i32 | 1 => .i64 | 2 => .u32 | 3 => .u64 | 4 => .f32 | _ => .f64

/-- The code of an operand type (Table 14.3). -/
def atypeCode : AType → Nat
  | .i32 => 0 | .i64 => 1 | .u32 => 2 | .u64 => 3 | .f32 => 4 | .f64 => 5

/-- An atomic: the compare value of AMO_CAS comes first in its data (R341). -/
def serveAmo (op : AmoOp) (at_ : Nat) (p : Packet) : Plan := fun s =>
  let ty := atypeOf p.atype
  let n := atypeSize ty
  let a := s.flatOf p.addr n
  let x := leNat (match op with | .cas => (p.data.drop n).take n | _ => p.data.take n)
  let r := amoMem a op ty x (leNat (p.data.take n)) s
  plans [r.2, answer at_ p r.1.1 r.1.2 (if r.1.1 = 0 then 0 else 1)] s

/-- A LOAD request is served. -/
def execLoad (point : Fin 5) (s : State) : Outcome State Fault Refusal :=
  .next <| s.perform (serve point [0x01] (serveLoad point))

/-- A STORE request is served. -/
def execStore (point : Fin 5) (s : State) : Outcome State Fault Refusal :=
  .next <| s.perform (serve point [0x02] (serveStore point))

/-- A FLAG request is served. -/
def execFlag (point : Fin 5) (s : State) : Outcome State Fault Refusal :=
  .next <| s.perform (serve point [0x03] (serveFlag point))

/-- An AMO_ADD request is served. -/
def execAmoAdd (point : Fin 5) (s : State) : Outcome State Fault Refusal :=
  .next <| s.perform (serve point [0x10] (serveAmo .add point))

/-- An AMO_MIN request is served. -/
def execAmoMin (point : Fin 5) (s : State) : Outcome State Fault Refusal :=
  .next <| s.perform (serve point [0x11] (serveAmo .min point))

/-- An AMO_MAX request is served. -/
def execAmoMax (point : Fin 5) (s : State) : Outcome State Fault Refusal :=
  .next <| s.perform (serve point [0x12] (serveAmo .max point))

/-- An AMO_CAS request is served. -/
def execAmoCas (point : Fin 5) (s : State) : Outcome State Fault Refusal :=
  .next <| s.perform (serve point [0x13] (serveAmo .cas point))

/-- The last SEQ that the receiver of link l delivered: the value held since it left ACTIVE, or that of an ACTIVE link now
(R349). -/
def State.lastDelivered (s : State) (l : Nat) : Nat :=
  if s.rd .NI_RECON_SEQ_VALID (fdieOf l) (l % 16) = 1 then s.rd .NI_RECON_SEQ_SEQ (fdieOf l) (l % 16)
  else (s.vr .RX_SEQ l + 65535) % 65536

/-- A RECONCILE request is answered with the SEQ of the last block delivered (R349). -/
def execReconcile (point : Fin 5) (s : State) : Outcome State Fault Refusal :=
  .next <| s.perform (serve point [0x20] fun p => fun s =>
    answer point p 0 (leBytes 2 (s.lastDelivered (p.addr % 64))) 0 s)

/-! ### Request trackers (R342 to R347, R352) -/

/-- The tracker entries of a physical tile, in issue order. -/
def State.tracker (s : State) (t : Nat) : List Track := s.parts.tracker.at t

/-- All 1,024 entries are in use (R342). -/
def State.trackerFull (s : State) (t : Nat) : Bool := decide (1024 ≤ (s.tracker t).length)

/-- The entry that a new request takes: the lowest free one (log entry). -/
def State.freeTag (s : State) (t : Nat) : Nat :=
  ((List.range 1024).find? fun k => (s.tracker t).all fun e => e.pkt.tag != k).getD 0

/-- The request orders as a store (a store, flag or atomic), for R343. -/
def Track.ordersStore (e : Track) : Bool := e.pkt.stores

/-- Two requests touch a common 64 B granule. -/
def Track.sameGranule (a b : Track) : Bool :=
  a.pkt.dstNode == b.pkt.dstNode
    && decide (a.pkt.addr / 64 * 64 < b.pkt.addr + b.pkt.span ∧ b.pkt.addr / 64 * 64 < a.pkt.addr + a.pkt.span)

/-- A request waits for an earlier one (R343); loads of one granule do not wait for one another. -/
def Track.waitsFor (e earlier : Track) : Bool :=
  (e.ordersStore || earlier.ordersStore) && e.sameGranule earlier

/-- A request may be sent: no earlier entry holds it back. A flag is sent by its own step. -/
def State.sendable (s : State) (t : Nat) (e : Track) : Bool :=
  !e.sent && e.pkt.op != 0x03 && !(s.tracker t).any fun x => decide (x.seq < e.seq) && e.waitsFor x

/-- The local buffer address of a load that lies in a region's home range, at the home NI (R356). -/
def State.replicaAddr (s : State) (f node a n : Nat) : Option Nat :=
  regions.findSome? fun r =>
    let z := s.regionSize f r
    let b := s.rd .NI_REPL_HOME_BASE f r * 65536
    if 0 < z ∧ s.rd .NI_REPL_HOME_NODE f r = node ∧ b ≤ a ∧ a + n ≤ b + z then some (s.activeBuf f r + (a - b)) else none

/-- A tracked request leaves the tracker: to the package's own networks, or through the home NI; a load of a replicated region is
served from the active local buffer (R338, R356). -/
def sendTrack (t : Nat) (e : Track) : Plan := fun s =>
  let f := homeF t
  let mark := fun (e' : Track) => Act.parts fun x => { x with tracker := x.tracker.set t ((x.tracker.at t).map fun y =>
    if y.seq = e.seq then e' else y) }
  let put4 := fun (p : Packet) => Act.parts fun x => { x with serving := x.serving.set 4 (x.serving.at 4 ++ [p]) }
  if e.local_ then [mark { e with sent := true }, put4 e.pkt]
  else match (if e.pkt.op = 0x01 then s.replicaAddr f e.pkt.dstNode e.pkt.addr e.pkt.len else none) with
    | some a => [mark { e with sent := true, expires := (s.gtc + 2 * s.tStale f) % 2 ^ 64 }, put4 { e.pkt with addr := a }]
    | none => plans
        [fun s => [mark { e with
           sent := true,
           expires := (s.gtc + bitsOf (s.vr .RT f e.pkt.dstNode) 47 28 + 2 * s.tStale f) % 2 ^ 64 }],
         niSend f e.pkt] s

/-- An agent of tile t issues a request to a global address; it takes an entry, and it is sent at once unless R343 or R344 holds it
back. The caller has checked that an entry is free. -/
def issueReq (t : Nat) (owner : TrkOwner) (op cls addr len atype : Nat) (data : List Byte) (poison cnt : Nat) (cntEn : Bool) :
    Plan := plans
  [fun s =>
    let f := homeF t
    let node := addr / 2 ^ 48 % 65536
    let p : Packet := {
      op := op, cls := cls, ttl := 31, resent := false, srcNode := s.node f, dstNode := node,
      srcTile := s.logicalOf t, tag := s.freeTag t, addr := addr % 2 ^ 48, len := len, atype := atype, stamp := 0, d := 0,
      cnt := cnt, cntEn := cntEn, taint := false, status := 0, poison := poison, data := data }
    let e : Track := {
      pkt := p, owner := owner, seq := s.vr .TRK_SEQ t, sent := false, local_ := node == s.node f,
      expires := (s.gtc + 2 * s.tStale f) % 2 ^ 64 }
    [.parts fun x => { x with tracker := x.tracker.set t (x.tracker.at t ++ [e]) }, wv .TRK_SEQ (s.vr .TRK_SEQ t + 1) t],
   fun s => match (s.tracker t).getLast? with
    | some e => if s.sendable t e then sendTrack t e s else []
    | none => []]

/-- Requests that no earlier entry holds back any more are sent, in issue order. -/
def releaseWaiting (t : Nat) : Plan := fun s =>
  planAll (s.tracker t) (fun e => planIf (fun s => s.sendable t e) (sendTrack t e)) s

/-- A tracked request of tile t completes with a status and data: its entry is released, its owner is answered, and a flag that
follows counts it (R342, R346). -/
def finishTrack (t : Nat) (e : Track) (status : Nat) (data : List Byte) (poison : Nat) : Plan := plans
  [fun _ =>
    [.parts fun x => { x with tracker := x.tracker.set t ((x.tracker.at t).filter fun y => y.seq != e.seq) }]
    ++ (if e.ordersStore then
          [.parts fun x => { x with flagScope := x.flagScope.set t (x.flagScope.at t ++ [(e.seq, status)]) }] else [])
    ++ (match e.owner with
        | .coreStore => []
        | .coreLoad => [.parts fun x => { x with loads := x.loads.set t ((x.loads.at t).map fun l =>
            if l.trk = e.seq + 1 then
              { l with
                answered := true, status := status, data := leNat data,
                badAddr := e.pkt.dstNode * 2 ^ 48
                  + (e.pkt.addr / 64 + (((List.range 60).find? fun k => testB poison k).getD 0)) * 64 }
            else l) }]
        | .coreAmo _ => [.parts fun x => { x with loads := x.loads.set t ((x.loads.at t).map fun l =>
            if l.trk = e.seq + 1 then
              { l with
                answered := true, status := status, data := leNat data,
                badAddr := e.pkt.dstNode * 2 ^ 48 + e.pkt.addr / 64 * 64 }
            else l) }]
        | o => [.parts fun x => { x with trkDone := x.trkDone.set t (x.trkDone.at t ++ [⟨o, e.seq, status, data, poison⟩]) }]),
   releaseWaiting t]

/-- A response registers at the tracker: it completes the entry whose TAG and operation it repeats; any other is discarded
(R335, R342, R352). -/
def trackerResponsePlan (t : Nat) : Plan := fun s =>
  match s.parts.responses.at t with
  | [] => []
  | p :: rest => plans
     [fun _ => [.parts fun x => { x with responses := x.responses.set t rest }],
      fun s => match (s.tracker t).find? fun e => e.sent && e.pkt.tag == p.tag && setB e.pkt.op 7 == p.op with
        | some e => finishTrack t e p.status p.data p.poison s
        | none => []] s

/-- A response registers at a tile's tracker. -/
def execTrackerResponse (tile : Tile) (s : State) : Outcome State Fault Refusal :=
  .next <| s.perform (trackerResponsePlan tile)

/-- The oldest entry whose response has not registered by its limit is released with 0x62 (R352). -/
def trackerTimeoutPlan (t : Nat) : Plan := fun s =>
  match (s.tracker t).find? fun e => (e.sent || e.local_) && !gtcBefore s.gtc e.expires with
  | some e => finishTrack t e 0x62 [] 0 s
  | none => []

/-- A tracker entry times out. -/
def execTrackerTimeout (tile : Tile) (s : State) : Outcome State Fault Refusal :=
  .next <| s.perform (trackerTimeoutPlan tile)

/-- A status that keeps a flag from being sent (R346). -/
def flagFails (st : Nat) : Bool := st ∈ [0x60, 0x62, 0x64, 0x88, 0x8A]

/-- The oldest flagged store is sent once every earlier store, flag and atomic has completed: as issued, tainted, or not at all
(R344 to R347). -/
def flagSendPlan (t : Nat) : Plan := fun s =>
  match (s.tracker t).find? fun e => e.pkt.op == 0x03 && !e.sent with
  | none => []
  | some e =>
    if (s.tracker t).any fun x => decide (x.seq < e.seq) && x.ordersStore then []
    else if (s.tracker t).any fun x => decide (x.seq < e.seq) && e.waitsFor x then []
    else
      let scope := (s.parts.flagScope.at t).filter fun x => decide (x.1 < e.seq)
      let first := (scope.filter fun x => flagFails x.2).foldl (fun (m : Option (Nat × Nat)) x =>
        match m with | some y => if x.1 < y.1 then some x else m | none => some x) none
      let clear : Plan := fun _ => [.parts fun x => { x with
        flagScope := x.flagScope.set t ((x.flagScope.at t).filter fun y => !decide (y.1 < e.seq)) }]
      match first with
      | some y => plans [clear, finishTrack t e y.2 [] 0] s
      | none =>
        let e' := { e with pkt := { e.pkt with taint := scope.any fun x => x.2 == 0x40 } }
        plans [clear, sendTrack t e'] s

/-- A flagged store is sent or completes unsent. -/
def execFlagSend (tile : Tile) (s : State) : Outcome State Fault Refusal :=
  .next <| s.perform (flagSendPlan tile)

/-! ### Reconciliation (R348 to R351) -/

/-- What the NI of link l's F-die still holds and awaits is shown in NI_STAT. -/
def showHeld (l : Nat) : Plan := fun s =>
  let f := fdieOf l
  let mine := (links.filter fun k => fdieOf k == f).filterMap fun k => s.parts.handbacks.find k
  [wr .NI_STAT_HELD (if mine.isEmpty then 0 else 1) f,
   wr .NI_STAT_RECON_PEND (if mine.any fun h => !h.unreachable then 1 else 0) f]

/-- The RECONCILE answer arrives: delivered blocks are dropped and the packets of the rest are sent again, in order, with RESENT;
an answer that says there is no route makes the peer unreachable (R350, R351). -/
def reconAnswerPlan (l : Nat) : Plan := fun s =>
  match s.parts.responses.at (64 + l) with
  | [] => []
  | p :: rest =>
    let f := fdieOf l
    plans
     [fun _ => [.parts fun x => { x with responses := x.responses.set (64 + l) rest }],
      fun s => match s.parts.handbacks.find l with
        | none => []
        | some h =>
          if h.unreachable then []
          else if p.status ≠ 0 then
            [.parts fun x => { x with handbacks := x.handbacks.put l (some { h with unreachable := true }) },
             bump s .NI_RECON_UNREACH 1 f, wv .RECON_AT 0 l]
          else
            let ans := leNat (p.data.take 2)
            let keep := h.blocks.filter fun b => match b.seq with | some q => seqBefore ans q | none => true
            let pkts := keep.flatMap fun b => b.pkts
            [.parts fun x => { x with
              handbacks := x.handbacks.put l none,
              fdiePkts := x.fdiePkts.set f (x.fdiePkts.at f ++ pkts.map fun q => ⟨{ q with resent := true }, none⟩) },
             bump s .NI_RECON_COUNT 1 f, bump s .NI_RECON_RESENT pkts.length f, wv .RECON_AT 0 l],
      showHeld l] s

/-- The answer to a link's RECONCILE arrives. -/
def execReconcileAnswer (link : Link) (s : State) : Outcome State Fault Refusal :=
  .next <| s.perform (reconAnswerPlan link)

/-- No answer within 1,048,576 cycles: the peer is unreachable (R351). -/
def reconTimeoutPlan (l : Nat) : Plan := fun s =>
  match s.parts.handbacks.find l with
  | none => []
  | some h =>
    if h.unreachable ∨ s.vr .RECON_AT l = 0 ∨ (s.gtc + 2 ^ 64 - (s.vr .RECON_AT l - 1)) % 2 ^ 64 < 1048576 then []
    else plans
      [fun s => [.parts fun x => { x with handbacks := x.handbacks.put l (some { h with unreachable := true }) },
         bump s .NI_RECON_UNREACH 1 (fdieOf l), wv .RECON_AT 0 l],
       showHeld l] s

/-- A link's RECONCILE times out. -/
def execReconcileTimeout (link : Link) (s : State) : Outcome State Fault Refusal :=
  .next <| s.perform (reconTimeoutPlan link)

/-- For an unreachable peer the NI discards held responses and answers the first held request whose STAMP + D + T_STALE has come
with 0x62 (R351). -/
def heldAnswerPlan (l : Nat) : Plan := fun s =>
  match s.parts.handbacks.find l with
  | none => []
  | some h =>
    if ¬ h.unreachable then [] else
    let f := fdieOf l
    let reqs := (h.blocks.flatMap fun b => b.pkts).filter fun p => !p.isResp
    let due := reqs.find? fun p => !before32 (s.gtc % 2 ^ 32) ((p.stamp + p.d + s.tStale f) % 2 ^ 32)
    let left := match due with | some p => reqs.erase p | none => reqs
    plans
     [fun _ => [.parts fun x => { x with
        handbacks := x.handbacks.put l (if left.isEmpty then none else some { h with blocks := [⟨none, left⟩] }) }],
      (match due with | some p => niSend f (p.response 0x62 [] 0) | none => fun _ => []),
      showHeld l] s

/-- A held request to an unreachable peer is answered. -/
def execHeldRequestAnswer (link : Link) (s : State) : Outcome State Fault Refusal :=
  .next <| s.perform (heldAnswerPlan link)

/-! ### NI registers (R330, R357, R359) -/

/-- A write of NI_RT_IDX with WRITE: NI_RT_DATA goes into the entry; reserved bits read 0 (R331). -/
def routeWritePlan (f v : Nat) : Plan := fun s =>
  if ¬ s.domOn (164 + f) then [] else
  [wr .NI_RT_IDX_INDEX (v % 65536) f, wv .RT (s.rd .NI_RT_DATA_ENTRY f % 2 ^ 49) f (v % 65536)]

/-- A routing-table entry is written. -/
def execRouteEntryWrite (fdie : FDie) (value : W64) (s : State) : Outcome State Fault Refusal :=
  .next <| s.perform (routeWritePlan fdie value.toNat)

/-- A write of NI_RT_IDX with READ: NI_RT_DATA takes the entry, and RT_BUSY reads 1 for 4 cycles. -/
def routeReadPlan (f v : Nat) : Plan := fun s =>
  if ¬ s.domOn (164 + f) then [] else
  [wr .NI_RT_IDX_INDEX (v % 65536) f, wr .NI_RT_DATA_ENTRY (s.vr .RT f (v % 65536)) f, wv .RT_READ_AT (s.clock + 4) f]

/-- A routing-table entry is read. -/
def execRouteEntryRead (fdie : FDie) (value : W64) (s : State) : Outcome State Fault Refusal :=
  .next <| s.perform (routeReadPlan fdie value.toNat)

/-- A link of the package is in ACTIVE or RETRAIN. -/
def State.linksUp (s : State) : Bool := links.any fun l => s.linkState l == 5 || s.linkState l == 6

/-- A write of NI_CTL: NODE is ignored while a link is up, STALE_LOG2 outside 0x12 to 0x1F (R330, Table 14.10). -/
def niCtlPlan (f v : Nat) : Plan := fun s =>
  if ¬ s.domOn (164 + f) then [] else
  (if s.linksUp then []
   else wr .NI_CTL_NODE (v % 65536) f :: (tiles.filter fun t => homeF t == f).map fun t => wr .TC_ID_NODE (v % 65536) t)
  ++ (if 0x12 ≤ bitsOf v 20 16 then [wr .NI_CTL_STALE_LOG2 (bitsOf v 20 16) f] else [])

/-- A write of NI_CTL. -/
def execNiCtlWrite (fdie : FDie) (value : W64) (s : State) : Outcome State Fault Refusal :=
  .next <| s.perform (niCtlPlan fdie value.toNat)

/-- A write of NI_MAP: accepted until the first tile domain leaves OFF after a package reset (R359). -/
def niMapPlan (f l v : Nat) : Plan := fun s =>
  if ¬ s.domOn (164 + f) ∨ s.vr .NI_MAP_SHUT = 1 then [] else
  [wr .NI_MAP_PHYS (v % 64) f l, wr .NI_MAP_VALID (bitOf v 6) f l]
  ++ (if f = 0 ∧ testB v 6 ∧ v % 64 < 40 then [wr .TC_ID_LOGICAL l (v % 64)] else [])

/-- A write of NI_MAP of logical tile l. -/
def execNiMapWrite (fdie : FDie) (logical : Fin 64) (value : W64) (s : State) : Outcome State Fault Refusal :=
  .next <| s.perform (niMapPlan fdie logical value.toNat)

/-- A write of NI_REPL_FLIP arms a flip at AT; one while a flip is pending, or with AT not later than now, is ignored and sets
REPL_REF (R357). -/
def replFlipPlan (f r v : Nat) : Plan := fun s =>
  if ¬ s.domOn (164 + f) then []
  else if s.rd .NI_REPL_SIZE_FLIP_PEND f r = 1 ∨ ¬ gtcBefore s.gtc v then [wr .NI_STAT_REPL_REF 1 f]
  else [wr .NI_REPL_FLIP_AT v f r, wr .NI_REPL_SIZE_FLIP_PEND 1 f r]

/-- A write of NI_REPL_FLIP of region r. -/
def execNiReplFlipWrite (fdie : FDie) (region : Fin 64) (value : W64) (s : State) : Outcome State Fault Refusal :=
  .next <| s.perform (replFlipPlan fdie region value.toNat)

/-- In cycle AT the region's ACTIVE bit toggles in every NI in which a flip is armed (R357). -/
def replFlipAtPlan (r : Nat) : Plan := fun s =>
  (List.range 4).flatMap fun f =>
    if s.rd .NI_REPL_SIZE_FLIP_PEND f r = 1 ∧ s.gtc = s.rd .NI_REPL_FLIP_AT f r then
      [wr .NI_REPL_SIZE_ACTIVE (1 - s.rd .NI_REPL_SIZE_ACTIVE f r) f r, wr .NI_REPL_SIZE_FLIP_PEND 0 f r]
    else []

/-- A replica flip takes effect. -/
def execReplFlipAt (region : Fin 64) (s : State) : Outcome State Fault Refusal :=
  .next <| s.perform (replFlipAtPlan region)

end Sys2Proof.Machine
end

