-- ==== Sys2Proof/Machine/Random.lean ====
section
/-! DEFINITION. The random number generator of each tile (Random Number Generation: R224 to R239). -/
namespace Sys2Proof.Machine
open Host

/-! ### Drawing (R224, R225) -/

/-- The place of state word k, counted from the oldest, of a lane of a slot of tile t. -/
def State.rnIdx (s : State) (t sl lane k : Nat) : Nat :=
  19424 * sl + 607 * lane + (s.vr .RN_H t (32 * sl + lane) + k) % 607

/-- State word k of a lane, oldest first. -/
def State.rnWord (s : State) (t sl lane k : Nat) : Nat := s.vr .RN_W t (s.rnIdx t sl lane k)

/-- The next output of a slot and what drawing it does: output j comes from lane j mod 32, whose word x(P + 607) replaces its
oldest (R224, R225). -/
def rnDraw1 (t sl : Nat) (s : State) : Nat × List Act :=
  let lane := s.rd .RN_SLOT_POS_POS t sl % 32
  let x := (s.rnWord t sl lane 0 + s.rnWord t sl lane 334) % 2 ^ 64
  (x ^^^ (x >>> 32),
   [.var .RN_W t (s.rnIdx t sl lane 0) x, .var .RN_H t (32 * sl + lane) ((s.vr .RN_H t (32 * sl + lane) + 1) % 607),
    .reg .RN_SLOT_POS_POS t sl ((s.rd .RN_SLOT_POS_POS t sl + 1) % 2 ^ 64), bumpWrap s .RN_DRAWS_COUNT 1 t])

/-- The next `n` outputs of a slot. -/
def rnDraws (t sl : Nat) : Nat → State → List Nat × List Act
  | 0, _ => ([], [])
  | n + 1, s =>
    let d := rnDraw1 t sl s
    let r := rnDraws t sl n (s.run d.2)
    (d.1 :: r.1, d.2 ++ r.2)

/-- A slot is BOUND. -/
def State.rnBound (s : State) (t sl : Nat) : Bool := s.rd .RN_SLOT_CTL_STATE t sl == 1

/-- A fill runs on the slot. -/
def State.rnFilling (s : State) (t sl : Nat) : Bool := s.rd .RN_FILL_CTL_BUSY t == 1 && s.rd .RN_FILL_CTL_SLOT t == sl

/-- A slot is LOADING, SAVING or in a fill. -/
def State.rnBusy (s : State) (t sl : Nat) : Bool := decide (2 ≤ s.rd .RN_SLOT_CTL_STATE t sl) || s.rnFilling t sl

/-- A draw is refused because its slot is not BOUND (R233). -/
def rnUnbound (t : Nat) : Plan := fun s => [wr .RN_STAT_UNBOUND_ERR 1 t, bump s .RN_ERR_UNBOUND 1 t]

/-- A draw is refused because the other agent owns its slot (R233). -/
def rnNotOwner (t : Nat) : Plan := fun s => [wr .RN_STAT_OWNER_ERR 1 t, bump s .RN_ERR_OWNER 1 t]

/-! ### The squash shadow (R235) -/

/-- A place of tile t's generator state. -/
def rnPlace (t : Nat) : Loc → Bool
  | .var .RN_W i _ => i == t
  | .var .RN_H i _ => i == t
  | .reg .RN_SLOT_POS_POS i _ => i == t
  | _ => false

/-- A window opens: every slot's state is kept as it stands. -/
def rnShadow (t : Nat) : Plan := fun s =>
  [.parts fun p => { p with rnShadow := p.rnShadow.put t (some (s.file.filter fun e => rnPlace t e.1)) }]

/-- A confirm discards the shadow. -/
def rnDiscard (t : Nat) : Plan := fun _ => [.parts fun p => { p with rnShadow := p.rnShadow.put t none }]

/-- One listed place takes its value again. -/
def putPlace : Loc × Nat → Act
  | (.reg f i j, v) => .reg f i j v
  | (.var x i j, v) => .var x i j v

/-- A squash restores every slot and its POS to the shadow. -/
def rnRestore (t : Nat) : Plan := fun s =>
  match s.parts.rnShadow.find t with
  | none => []
  | some l => .clear (rnPlace t) :: l.map putPlace ++ [.parts fun p => { p with rnShadow := p.rnShadow.put t none }]

/-! ### Loads, saves and owners (R228 to R230) -/

/-- Bit s of RN_STAT.BUSY. -/
def rnShow (t sl : Nat) : Plan := fun s =>
  let busy := s.rnBusy t sl || s.vr .RN_PCMD t sl != 0 || s.vr .RN_POWN t sl != 0
  [wr .RN_STAT_BUSY (if busy then setB (s.rd .RN_STAT_BUSY t) sl else clrB (s.rd .RN_STAT_BUSY t) sl) t,
   wr .RN_STAT_BOUND (if s.rnBound t sl ∨ s.rd .RN_SLOT_CTL_STATE t sl = 3 then setB (s.rd .RN_STAT_BOUND t) sl
     else clrB (s.rd .RN_STAT_BOUND t) sl) t]

/-- A command or an owner may take effect: every vx instruction has completed, no fill runs on the slot and no window is open
(R229). -/
def State.rnFree (s : State) (t sl : Nat) : Bool := s.vxIdle t && !s.rnFilling t sl && !s.window t

/-- The waiting owner and command of a slot take effect. -/
def rnAct (t sl : Nat) : Plan := fun s =>
  if ¬ s.rnFree t sl ∨ 2 ≤ s.rd .RN_SLOT_CTL_STATE t sl then [] else
  let c := s.vr .RN_PCMD t sl
  (if s.vr .RN_POWN t sl = 0 then [] else [wr .RN_SLOT_CTL_OWNER (s.vr .RN_POWN t sl - 1) t sl, wv .RN_POWN 0 t sl])
  ++ (if c = 1 then [wr .RN_SLOT_CTL_STATE 2 t sl, wv .RN_AT (s.clock + 2445) t sl, wv .RN_PCMD 0 t sl]
      else if c = 2 then
        (if s.rnBound t sl then [wr .RN_SLOT_CTL_STATE 3 t sl, wv .RN_AT (s.clock + 2445) t sl, wv .RN_PCMD 0 t sl]
         else [wv .RN_PCMD 0 t sl])
      else [])

/-- A write of RN_SLOT_CTL: the counter number at once, the owner and the command under R229. -/
def rnSlotCtlPlan (t sl v : Nat) : Plan := planIf (fun s => s.domOn t) <| plans
  [fun _ => [wr .RN_SLOT_CTL_CNT (bitsOf v 7 3) t sl, wv .RN_POWN (bitOf v 2 + 1) t sl]
     ++ (if v % 4 = 1 ∨ v % 4 = 2 then [wv .RN_PCMD (v % 4) t sl] else []),
   rnAct t sl, rnShow t sl]

/-- RN_SLOT_CTL.CMD = 1: a load of the slot's image. -/
def execRnSlotLoad (tile : Tile) (slot : Fin 4) (value : W64) (s : State) : Outcome State Fault Refusal :=
  .next <| s.perform (rnSlotCtlPlan tile slot (value.toNat / 4 * 4 + 1))

/-- RN_SLOT_CTL.CMD = 2: a save of the slot to its image. -/
def execRnSlotSave (tile : Tile) (slot : Fin 4) (value : W64) (s : State) : Outcome State Fault Refusal :=
  .next <| s.perform (rnSlotCtlPlan tile slot (value.toNat / 4 * 4 + 2))

/-- A write of RN_SLOT_CTL.OWNER with no command. -/
def execRnOwnerWrite (tile : Tile) (slot : Fin 4) (value : W64) (s : State) : Outcome State Fault Refusal :=
  .next <| s.perform (rnSlotCtlPlan tile slot (value.toNat / 4 * 4))

/-- The bytes of a stream image (R230). -/
def imageBytes : Nat := 155456

/-- The status of a load of the image at offset `a` (R230): the checks on FORMAT, range and CRC come first. -/
def rnImageStatus (a : Nat) (r : Rd) : Nat :=
  if 2 ^ 24 < a + imageBytes ∨ leNat (r.data.take 2) ≠ 1 then 0x89
  else if ! r.bad.isEmpty then 0x40
  else if leNat ((r.data.drop 16).take 4) ≠ crc32c (r.data.drop 64) then 0x89
  else 0

/-- A load ends: the slot is BOUND to the image's stream, or UNBOUND with the refusal. -/
def rnLoadEnd (t sl : Nat) : Plan := fun s =>
  let a := s.rd .RN_SLOT_ADDR_ADDR t sl
  let n := min imageBytes (2 ^ 24 - a)
  let r := s.readTs t a n
  let st := rnImageStatus a r
  let hdr := leNat (r.data.take 64)
  plans
   [noteRead r,
    fun _ => [wr .RN_SLOT_CTL_STATUS st t sl, wr .RN_SLOT_CTL_STATE (if st = 0 then 1 else 0) t sl]
      ++ (if st ≠ 0 then [] else
        [wr .RN_SLOT_CTL_POISON 0 t sl, wr .RN_SLOT_KEY_MODE (bitOf hdr 16) t sl, wr .RN_SLOT_KEY_KEY (bitsOf hdr 63 32) t sl,
         wr .RN_SLOT_POS_POS (bitsOf hdr 127 64) t sl, wr .RN_SLOT_KEY_JOB (bitsOf hdr 165 160) t sl]
        ++ (List.range 32).map (fun l => wv .RN_H 0 t (32 * sl + l))
        ++ (List.range 19424).map fun k => wv .RN_W (leNat ((r.data.drop (64 + 8 * k)).take 8)) t (19424 * sl + k)),
    countInc t (s.rd .RN_SLOT_CTL_CNT t sl)] s

/-- The image of a slot as it stands (R230). -/
def State.rnImage (s : State) (t sl : Nat) : List Byte :=
  let body := (List.range 32).flatMap fun lane => (List.range 607).flatMap fun k => leBytes 8 (s.rnWord t sl lane k)
  leBytes 64 (packFields [(0, 1), (16, s.rd .RN_SLOT_KEY_MODE t sl), (32, s.rd .RN_SLOT_KEY_KEY t sl),
    (64, s.rd .RN_SLOT_POS_POS t sl), (128, crc32c body), (160, s.rd .RN_SLOT_KEY_JOB t sl)]) ++ body

/-- A save ends: the image is written, with poison while the slot's state is (R236), and the slot stays BOUND. A save that would
pass the end of the store is refused as a load is. -/
def rnSaveEnd (t sl : Nat) : Plan := fun s =>
  let a := s.rd .RN_SLOT_ADDR_ADDR t sl
  let st := if 2 ^ 24 < a + imageBytes then 0x89 else 0
  let bad := if s.rd .RN_SLOT_CTL_POISON t sl = 1 then (granules a imageBytes).map (fun p => storeBase t + p.1 / 64 * 64) else []
  plans
   [if st = 0 then writeTs t a (s.rnImage t sl) bad else fun _ => [],
    fun _ => [wr .RN_SLOT_CTL_STATUS st t sl, wr .RN_SLOT_CTL_STATE 1 t sl],
    countInc t (s.rd .RN_SLOT_CTL_CNT t sl)] s

/-- A load or save ends 2,445 cycles after it begins; a command that waits under R229 begins as soon as it may. -/
def rnTransferPlan (t sl : Nat) : Plan := plans
  [fun s =>
    if s.rd .RN_SLOT_CTL_STATE t sl = 2 ∧ s.vr .RN_AT t sl ≤ s.clock then rnLoadEnd t sl s
    else if s.rd .RN_SLOT_CTL_STATE t sl = 3 ∧ s.vr .RN_AT t sl ≤ s.clock then rnSaveEnd t sl s
    else [],
   rnAct t sl, rnShow t sl]

/-- The end of a load or save. -/
def execRnSlotTransferDone (tile : Tile) (slot : Fin 4) (s : State) : Outcome State Fault Refusal :=
  .next <| s.perform (rnTransferPlan tile slot)

/-! ### Fills (R234) -/

/-- A write of RN_FILL_CTL: its fields are loaded while no fill runs, and START starts the fill or is ignored with FILL_REF. -/
def rnFillPlan (t v : Nat) : Plan := fun s =>
  if ¬ s.domOn t then [] else
  let count := bitsOf v 21 0
  let sl := bitsOf v 23 22
  let a := s.rd .RN_FILL_ADDR_ADDR t
  if s.rd .RN_FILL_CTL_BUSY t = 1 then (if testB v 29 then [wr .RN_STAT_FILL_REF 1 t] else []) else
  plans
   [fun _ => [wr .RN_FILL_CTL_COUNT count t, wr .RN_FILL_CTL_SLOT sl t, wr .RN_FILL_CTL_CNT (bitsOf v 28 24) t],
    fun s =>
      if ¬ testB v 29 then []
      else if count = 0 ∨ count % 8 ≠ 0 ∨ a % 64 ≠ 0 ∨ 2 ^ 24 < a + 8 * count ∨ ¬ s.rnBound t sl
          ∨ s.rd .RN_SLOT_CTL_OWNER t sl ≠ 0 then [wr .RN_STAT_FILL_REF 1 t]
      else [wr .RN_FILL_CTL_BUSY 1 t, wv .RN_FILL_AT (s.clock + 8 + count / 8) t],
    rnShow t sl] s

/-- A write of RN_FILL_CTL.START. -/
def execRnFillStart (tile : Tile) (value : W64) (s : State) : Outcome State Fault Refusal :=
  .next <| s.perform (rnFillPlan tile value.toNat)

/-- A fill ends: its outputs stand in the tile store, with poison while the slot's state is (R236), and its counter grows. -/
def rnFillDonePlan (t : Nat) : Plan := fun s =>
  if s.rd .RN_FILL_CTL_BUSY t = 0 ∨ s.clock < s.vr .RN_FILL_AT t then [] else
  let sl := s.rd .RN_FILL_CTL_SLOT t
  let n := s.rd .RN_FILL_CTL_COUNT t
  let a := s.rd .RN_FILL_ADDR_ADDR t
  let d := rnDraws t sl n s
  let bad := if s.rd .RN_SLOT_CTL_POISON t sl = 1 then (granules a (8 * n)).map (fun p => storeBase t + p.1 / 64 * 64) else []
  plans
   [fun _ => d.2,
    writeTs t a (d.1.flatMap (leBytes 8)) bad,
    fun _ => [wr .RN_FILL_CTL_BUSY 0 t],
    countInc t (s.rd .RN_FILL_CTL_CNT t), rnShow t sl] s

/-- The end of a fill. -/
def execRnFillDone (tile : Tile) (s : State) : Outcome State Fault Refusal :=
  .next <| s.perform (rnFillDonePlan tile)

end Sys2Proof.Machine
end

