-- ==== Sys2Proof/Machine/Control.lean ====
section
/-! DEFINITION. The tile control core (Tile Control Core: R65 to R84, R530): its registers, its instructions other than stores and
loads through global addresses, exceptions and interrupts, and its control registers. An instruction comes as a command with its
operands; the core executes it at its program counter. An instruction that stalls leaves the state as it is but for the stall. -/
namespace Sys2Proof.Machine
open Host

/-! ### Registers (Table 3.1, R65, R77) -/

/-- A physical register: gp, or sv with the fp inside it. -/
inductive Rg where
  | gp (r : Nat) | sv (r : Nat)
deriving DecidableEq, Repr

/-- The register that holds a destination. -/
def rgOf : Dest → Rg
  | .gp r => .gp r | .sv r => .sv r | .fp r => .sv r

/-- gp r; gp0 reads 0 (R65). -/
def State.gp (s : State) (t r : Nat) : Nat := if r = 0 then 0 else s.vr .GP t r

/-- sv r. -/
def State.sv (s : State) (t r : Nat) : Nat := s.vr .SV t r

/-- The value of a register in the width it names: gp and fp 64 bits, sv 256. -/
def State.regVal (s : State) (t : Nat) : Dest → Nat
  | .gp r => s.gp t r | .sv r => s.sv t r | .fp r => s.sv t r % 2 ^ 64

/-- A register carries a speculation mark; gp0 never does. -/
def State.marked (s : State) (t : Nat) : Rg → Bool
  | .gp r => r != 0 && s.vr .MARK_GP t r == 1
  | .sv r => s.vr .MARK_SV t r == 1

/-- A load to the register has not registered its answer (R67); gp0 is never awaited. -/
def State.awaited (s : State) (t : Nat) (r : Rg) : Bool :=
  r != .gp 0 && (s.parts.loads.at t).any fun l => rgOf l.dest == r

/-- A register takes a value and a mark. A write to fpN leaves bits [255:64] of svN, and keeps a mark that they carry (R65). -/
def setReg (t : Nat) (d : Dest) (v : Nat) (mark : Bool) : Plan := fun s =>
  let m := fun (b : Bool) => if b then 1 else 0
  match d with
  | .gp r => if r.val = 0 then [] else [wv .GP v t r, wv .MARK_GP (m mark) t r]
  | .sv r => [wv .SV v t r, wv .MARK_SV (m mark) t r]
  | .fp r => [wv .SV (putBits (s.sv t r) 0 64 v) t r, wv .MARK_SV (m (mark || s.marked t (.sv r))) t r]

/-- The program counter. -/
def State.pc (s : State) (t : Nat) : Nat := s.vr .PC t

/-! ### Exceptions (R78 to R80, R530) -/

/-- The DOUBLE_FAULT message goes into T2F when the tile holds the slot (R440, Table 18.5). -/
def doubleFaultMsg (t : Nat) : Plan := fun s =>
  if s.vr .DFAULT_MSG t = 1 ∧ s.rd .MB_T2F_CTL_OWN t = 0 then
    let exc := packFields [(0, s.rd .TC_EXC_CAUSE t), (8, s.rd .TC_EXC_STATUS t), (16, s.rd .TC_EXC_DEFERRED t),
      (18, s.rd .TC_EXC_FPC t)]
    [wr .MB_T2F_CTL_KIND 3 t, wr .MB_T2F_CTL_LEN 2 t, wr .MB_T2F_CTL_OWN 1 t, wr .MB_T2F_DATA_DATA exc t 0,
     wr .MB_T2F_DATA_DATA (4 * s.rd .TC_EPC_PC t) t 1, wv .DFAULT_MSG 0 t,
     wr .MB_TILE_PEND_TILES (setB (s.rd .MB_TILE_PEND_TILES) (s.logicalOf t))]
    ++ raise .job .doubleFault t s
  else []

/-- The rind-log record of a double fault: TC_EXC, TC_EPC and TC_EXC_ADDR, redacted where the address is speculative (R80, R215,
Table 21.3). -/
def doubleFaultRecord (t : Nat) : Plan := fun s =>
  let exc := packFields [(0, s.rd .TC_EXC_CAUSE t), (8, s.rd .TC_EXC_STATUS t), (16, s.rd .TC_EXC_DEFERRED t),
    (18, s.rd .TC_EXC_FPC t)]
  let red := s.vr .EXC_MARK t == 1
  let addr := if red then 2 ^ 64 - 1 else s.rd .TC_EXC_ADDR_ADDR t
  queueRind (s.rindRec s.stamp t (s.rd .TC_EXC_STATUS t) 0x0004 true red
    (leBytes 8 exc ++ leBytes 8 (4 * s.rd .TC_EPC_PC t) ++ leBytes 8 addr)) s

/-- What an exception records: its cause, status, address if it has one, the PC of the faulting instruction, whether it is a
load-answer exception, and whether the address is speculative. -/
structure Fault_ where
  cause : Nat
  status : Nat
  addr : Option Nat
  fpc : Nat
  deferred : Bool
  mark : Bool
deriving DecidableEq, Repr

/-- TC_EXC and TC_EXC_ADDR describe a fault. -/
def recordFault (t : Nat) (x : Fault_) : List Act :=
  [wr .TC_EXC_CAUSE x.cause t, wr .TC_EXC_STATUS x.status t, wr .TC_EXC_DEFERRED (if x.deferred then 1 else 0) t,
   wr .TC_EXC_FPC (x.fpc / 4) t]
  ++ (match x.addr with | some a => [wr .TC_EXC_ADDR_ADDR a t, wv .EXC_MARK (if x.mark then 1 else 0) t] | none => [])

/-- Taking an exception (R78): with INEXC at 0 the return point goes to TC_EPC, the fault is recorded, INEXC sets, loads in flight
become loads issued before the entry (R530), and the core goes on at TC_TVEC; with INEXC at 1 it is a double fault: the core halts
with the second fault recorded and TC_EPC kept, the rind-log record is written and the message to the firmware waits for its slot
(R80). -/
def takeException (t ret : Nat) (x : Fault_) : Plan := fun s =>
  let quiet := [wv .STALLED 0 t, wv .SPEC_STALL 0 t, wv .STEPPING 0 t, .parts fun p => { p with waits := p.waits.put t none }]
  if s.rd .TC_STAT_INEXC t = 1 then
    plans
     [fun _ => recordFault t x ++ quiet
        ++ [wr .TC_STAT_DFAULT 1 t, wr .TC_CTL_RUN 0 t, wr .TC_STAT_RUNNING 0 t, wv .DFAULT_MSG 1 t],
      doubleFaultRecord t, doubleFaultMsg t] s
  else
    recordFault t x ++ quiet
    ++ [wr .TC_EPC_PC (ret / 4) t, wr .TC_STAT_INEXC 1 t, wv .PC (4 * s.rd .TC_TVEC_VEC t) t,
        .parts fun p => { p with loads := p.loads.set t ((p.loads.at t).map fun l => { l with preExc := true }) }]

/-- A precise exception of the instruction at the program counter. -/
def except (t cause status : Nat) (addr : Option Nat) (mark : Bool) : Plan := fun s =>
  takeException t (s.pc t) ⟨cause, status, addr, s.pc t, false, mark⟩ s

/-! ### Issue (R66, R67, R77) -/

/-- The core issues: its domain is ON, it runs or steps, it has not stopped for a context switch, no wait
is in progress, and a redirect has passed (R218). -/
def State.issues (s : State) (t : Nat) : Bool :=
  s.domOn t && (s.rd .TC_CTL_RUN t == 1 || s.vr .STEPPING t == 1) && s.vr .STOPPED t == 0 && (s.parts.waits.find t).isNone
    && decide (s.vr .CORE_AT t ≤ s.clock)

/-- An instruction has issued and the core goes on at `pc`. -/
def goTo (t pc : Nat) : Plan := fun s =>
  [wv .PC (pc % 65536) t, wv .STALLED 0 t, wv .SPEC_STALL 0 t, wv .STEPPING 0 t]
  ++ (if s.rd .TC_CTL_RUN t = 1 then [wr .TC_STAT_RUNNING 1 t] else [])

/-- The core goes on at the next instruction. -/
def advance (t : Nat) : Plan := fun s => goTo t (s.pc t + 4) s

/-- An instruction of the core: it has no effect while the core does not issue; an uncorrectable error at its address raises 0x04
(Table 3.5); a source or destination that a load has not written stalls it (R67), and so does `hold`, the rule of R77 and R214;
otherwise its body acts. -/
def instr (t : Nat) (regs : List Rg) (hold : State → Bool) (body : Plan) : Plan := fun s =>
  if ¬ s.issues t then []
  else if s.vr .IMEM_BAD t (s.pc t / 8) = 1 then except t 0x04 0x40 none false s
  else if regs.any (s.awaited t) then [wv .STALLED 1 t]
  else if hold s then [wv .STALLED 1 t, wv .SPEC_STALL 1 t]
  else body s

/-- No speculation hold. -/
def noHold : State → Bool := fun _ => false

/-- Some register of a list is marked. -/
def State.anyMarked (s : State) (t : Nat) (l : List Rg) : Bool := l.any (s.marked t)

/-- An instruction that writes one register with a value computed from its sources, and carries their marks (R77). -/
def compute (t : Nat) (srcs : List Rg) (d : Dest) (f : State → Nat) : Plan :=
  instr t (rgOf d :: srcs) noHold fun s => plans [setReg t d (f s) (s.anyMarked t srcs), advance t] s

/-! ### Integer instructions (Table 3.2) -/

/-- An integer operand's value. -/
def State.opd (s : State) (t : Nat) : Opd → Nat
  | .gp r => s.gp t r | .imm v => v.toNat

/-- The registers an operand reads. -/
def opdRegs : Opd → List Rg
  | .gp r => [.gp r] | .imm _ => []

/-- The result of an ALU operation on 64-bit values; `c` selects for sel. -/
def aluResult (op : AluOp) (a b c : Nat) : Nat :=
  match op with
  | .add => (a + b) % 2 ^ 64
  | .sub => (a + 2 ^ 64 - b % 2 ^ 64) % 2 ^ 64
  | .and_ => a &&& b
  | .or_ => a ||| b
  | .xor_ => a ^^^ b
  | .shl => if b < 64 then (a * 2 ^ b) % 2 ^ 64 else Config.shiftOver true a b % 2 ^ 64
  | .shr => if b < 64 then (if Config.shrArith then ofSigned 64 (toSigned 64 a / 2 ^ b) else a / 2 ^ b)
    else Config.shiftOver false a b % 2 ^ 64
  | .cmp => Config.cmpValue a b % 2 ^ 64
  | .sel => if Config.selPicks c then a else b

/-- An integer ALU instruction; `rc` is read by sel alone. -/
def execIntegerAlu (tile : Tile) (op : AluOp) (rd ra : RegNo) (b : Opd) (rc : RegNo) (s : State) : Outcome State Fault Refusal :=
  .next <| s.perform (compute tile (.gp ra :: opdRegs b ++ (if op = .sel then [.gp rc] else [])) (.gp rd) fun s =>
    aluResult op (s.gp tile ra) (s.opd tile b) (s.gp tile rc))

/-- The low or high half of a 64 × 64 product. -/
def mulResult (op : MulOp) (a b : Nat) : Nat :=
  match op with
  | .mul => (a * b) % 2 ^ 64
  | .mulh => if Config.mulhSigned then ofSigned 64 (toSigned 64 a * toSigned 64 b / 2 ^ 64) else (a * b) / 2 ^ 64 % 2 ^ 64

/-- mul or mulh. -/
def execIntegerMultiply (tile : Tile) (op : MulOp) (rd ra : RegNo) (b : Opd) (s : State) : Outcome State Fault Refusal :=
  .next <| s.perform (compute tile (.gp ra :: opdRegs b) (.gp rd) fun s => mulResult op (s.gp tile ra) (s.opd tile b))

/-- A quotient or remainder; the corners the spec does not state are free. -/
def divResult (op : DivOp) (a b : Nat) : Nat :=
  let rem := op == .rem
  if b = 0 ∨ (Config.divSigned ∧ a = 2 ^ 63 ∧ b = 2 ^ 64 - 1) then Config.divCorner rem a b % 2 ^ 64
  else if Config.divSigned then
    ofSigned 64 (if rem then Int.tmod (toSigned 64 a) (toSigned 64 b) else Int.tdiv (toSigned 64 a) (toSigned 64 b))
  else if rem then a % b else a / b

/-- div or rem. -/
def execIntegerDivide (tile : Tile) (op : DivOp) (rd ra : RegNo) (b : Opd) (s : State) : Outcome State Fault Refusal :=
  .next <| s.perform (compute tile (.gp ra :: opdRegs b) (.gp rd) fun s => divResult op (s.gp tile ra) (s.opd tile b))

/-- A jump to an instruction-memory address; one that is no multiple of 4 raises 0x02 (Table 3.5). -/
def jumpTo (t target : Nat) (before : Plan) : Plan := fun s =>
  if target % 4 ≠ 0 then except t 0x02 0 (some target) false s
  else plans [before, goTo t target] s

/-- The registers a branch reads and writes. -/
def brRegs : BrKind → List Rg
  | .cond _ a b => [.gp a, .gp b] | .jump => [] | .call l => [.gp l] | .ret l => [.gp l]

/-- A branch, jump, call or return. -/
def branchPlan (t : Nat) (k : BrKind) (target : Nat) : Plan :=
  instr t (brRegs k) noHold fun s =>
    match k with
    | .cond c a b => if Config.condHolds c (s.gp t a) (s.gp t b) then jumpTo t target (fun _ => []) s else advance t s
    | .jump => jumpTo t target (fun _ => []) s
    | .call l => jumpTo t target (setReg t (.gp l) ((s.pc t + 4) % 65536) false) s
    | .ret l => jumpTo t (s.gp t l % 65536) (fun _ => []) s

/-- A branch of the core. -/
def execBranch (tile : Tile) (kind : BrKind) (target : BitVec 16) (s : State) : Outcome State Fault Refusal :=
  .next <| s.perform (branchPlan tile kind target.toNat)

/-! ### Loads and stores of the core's own memories and the tile store -/

/-- The address base + off of a memory instruction. -/
def State.ea (s : State) (t base off : Nat) : Nat := (s.gp t base + off) % 2 ^ 64

/-- An access of `n` bytes at `a` counts as misaligned; one at a multiple of its size never does. -/
def misalignedAt (n a : Nat) : Bool := a % n != 0 && Config.misaligned n a

/-- The value that `n` loaded bytes leave in a destination: the bits above the bytes are free. -/
def loadValue (d : Dest) (n data : Nat) : Nat :=
  let w := match d with | .sv _ => 256 | _ => 64
  if w ≤ 8 * n then data % 2 ^ w else (data + Config.loadUpper n data * 2 ^ (8 * n)) % 2 ^ w

/-- A load has issued: its answer is known, or it waits for tracker entry `trk` − 1. -/
def addLoad (t : Nat) (l : PendLoad) : Act := .parts fun p => { p with loads := p.loads.set t (p.loads.at t ++ [l]) }

/-- The bad words of data memory that a load touches (R79). -/
def State.dmemBad (s : State) (t a n : Nat) : Option Nat :=
  ((List.range ((a + n - 1) / 8 + 1 - a / 8)).map (a / 8 + ·)).find? fun w => s.vr .DMEM_BAD t w == 1

/-- ld.l: a load of core data memory; its fault is found when its answer registers (R79, R530). -/
def localLoadPlan (t : Nat) (d : Dest) (base off n : Nat) : Plan :=
  instr t [rgOf d, .gp base] noHold fun s =>
    let a := s.ea t base off
    let m := s.marked t (.gp base)
    if misalignedAt n a then except t 0x02 0 (some a) m s
    else if 65536 < a + n then except t 0x03 0x64 (some a) m s
    else
      let bad := s.dmemBad t a n
      plans [fun s => [addLoad t ⟨d, s.pc t, a, n, false, true, if bad.isSome then 0x40 else 0, (bad.getD 0) * 8 / 64 * 64,
          s.num (dmemBase t + a) n, m, 0⟩], advance t] s

/-- ld.l. -/
def execLocalLoad (tile : Tile) (dest : Dest) (base : RegNo) (off : W64) (size : Fin 32) (s : State) :
    Outcome State Fault Refusal :=
  .next <| s.perform (localLoadPlan tile dest base off.toNat (size + 1))

/-- st.l: bytes of a register into core data memory; a word written whole is good again. -/
def localStorePlan (t : Nat) (src : Dest) (base off n : Nat) : Plan :=
  instr t [rgOf src, .gp base] noHold fun s =>
    let a := s.ea t base off
    let m := s.marked t (.gp base)
    if misalignedAt n a then except t 0x02 0 (some a) m s
    else if 65536 < a + n then except t 0x03 0x64 (some a) m s
    else plans [fun s => putNum (dmemBase t + a) n (s.regVal t src)
        ++ ((List.range ((a + n - 1) / 8 + 1 - a / 8)).map (a / 8 + ·)).flatMap fun w =>
          if a ≤ 8 * w ∧ 8 * w + 8 ≤ a + n then [wv .DMEM_BAD 0 t w] else [], advance t] s

/-- st.l. -/
def execLocalStore (tile : Tile) (src : Dest) (base : RegNo) (off : W64) (size : Fin 32) (s : State) :
    Outcome State Fault Refusal :=
  .next <| s.perform (localStorePlan tile src base off.toNat (size + 1))

/-- The lowest-addressed poisoned granule of a read as a global address of the tile's own store. -/
def State.ownGlobal (s : State) (t off : Nat) : Nat :=
  s.node (homeF t) * 2 ^ 48 + 0x010000000000 + s.logicalOf t * 0x1000000 + off

/-- A load of the tile's own store has issued: read at once, marked when it reads the caldera of an open window (R77, R203). -/
def ownLoad (t : Nat) (d : Dest) (a off n : Nat) (mark : Bool) : Plan := fun s =>
  let r := s.readTs t off n
  plans [noteRead r,
    fun s => [addLoad t ⟨d, s.pc t, a, n, false, true, if r.bad.isEmpty then 0 else 0x40,
      s.ownGlobal t ((r.bad.head?.getD 0) - storeBase t), leNat r.data,
      mark || (s.window t && s.touchesCaldera t off n), 0⟩]] s

/-- ld.t (R77, R243, R246). -/
def tileLoadPlan (t : Nat) (d : Dest) (base off n : Nat) : Plan :=
  instr t [rgOf d, .gp base] noHold fun s =>
    let a := s.ea t base off
    let m := s.marked t (.gp base)
    if misalignedAt n a then except t 0x02 0 (some a) m s
    else if 2 ^ 24 < a + n then except t 0x03 0x64 (some a) m s
    else plans [ownLoad t d (s.ownGlobal t a) a n m, advance t] s

/-- ld.t. -/
def execTileStoreLoad (tile : Tile) (dest : Dest) (base : RegNo) (off : W64) (size : Fin 32) (s : State) :
    Outcome State Fault Refusal :=
  .next <| s.perform (tileLoadPlan tile dest base off.toNat (size + 1))

/-- Every byte of a range lies in tile t's caldera. -/
def State.insideCaldera (s : State) (t o n : Nat) : Bool :=
  decide (0 < n) && s.inCaldera t o && s.inCaldera t (o + n - 1)

/-- st.t: it stalls while a marked source meets an address outside the caldera (R77). -/
def tileStorePlan (t : Nat) (src : Dest) (base off n : Nat) : Plan :=
  instr t [rgOf src, .gp base] (fun s => s.anyMarked t [rgOf src, .gp base] && !s.insideCaldera t (s.ea t base off) n) fun s =>
    let a := s.ea t base off
    let m := s.marked t (.gp base)
    if misalignedAt n a then except t 0x02 0 (some a) m s
    else if 2 ^ 24 < a + n then except t 0x03 0x64 (some a) m s
    else plans [writeTs t a (leBytes n (s.regVal t src)) [], advance t] s

/-- st.t. -/
def execTileStoreStore (tile : Tile) (src : Dest) (base : RegNo) (off : W64) (size : Fin 32) (s : State) :
    Outcome State Fault Refusal :=
  .next <| s.perform (tileStorePlan tile src base off.toNat (size + 1))

/-! ### Floating point (R65, R68) -/

/-- The format of a scalar FP instruction. -/
def fpFmt : FpFmt → Fmt
  | .fp32 => .fp32 | .fp64 => .fp64

/-- An FP operation has a result with flags: a flag whose trap is enabled raises 0x07 and nothing else happens; otherwise the flags
accumulate in TC_FCSR.FLAGS and the result is written (R68, R78). -/
def fpFinish (t : Nat) (d : Dest) (v flags : Nat) (mark : Bool) : Plan := fun s =>
  if s.rd .TC_FCSR_TRAPEN t &&& flags ≠ 0 then except t 0x07 0 none false s
  else plans [fun s => [wr .TC_FCSR_FLAGS (s.rd .TC_FCSR_FLAGS t ||| flags) t], setReg t d v mark, advance t] s

/-- The rounding mode of the core. -/
def State.coreRM (s : State) (t : Nat) : RMode := RMode.ofCode (s.rd .TC_FCSR_RM t)

/-- The result and flags of fadd, fmul and fma (a × b + c). -/
def fpResult (op : FpOp) (f : Fmt) (rm : RMode) (a b c : Nat) : Nat × Nat :=
  match op with
  | .fadd => f.add rm a b
  | .fmul => f.mul rm a b
  | .fma => f.fma rm a b c

/-- An operand of a scalar FP instruction: FP32 reads bits [31:0] of fpN. -/
def State.fpOpd (s : State) (t r : Nat) (f : Fmt) : Nat := s.sv t r % 2 ^ f.bits

/-- A scalar FP add, multiply or fused multiply-add; FP32 writes bits [63:32] as 0. -/
def scalarFpPlan (t : Nat) (op : FpOp) (f : Fmt) (rd ra rb rc : RegNo) : Plan :=
  let srcs : List Rg := [.sv ra, .sv rb] ++ (if op = .fma then [.sv rc] else [])
  instr t (.sv rd :: srcs) noHold fun s =>
    let r := fpResult op f (s.coreRM t) (s.fpOpd t ra f) (s.fpOpd t rb f) (s.fpOpd t rc f)
    fpFinish t (.fp rd) r.1 r.2 (s.anyMarked t srcs) s

/-- fadd, fmul or fma. -/
def execScalarFp (tile : Tile) (op : FpOp) (fmt : FpFmt) (rd ra rb rc : RegNo) (s : State) : Outcome State Fault Refusal :=
  .next <| s.perform (scalarFpPlan tile op (fpFmt fmt) rd ra rb rc)

/-- fdiv or fsqrt. -/
def scalarFpDivPlan (t : Nat) (op : FpDivOp) (f : Fmt) (rd ra rb : RegNo) : Plan :=
  let srcs : List Rg := .sv ra :: (if op = .fdiv then [.sv rb] else [])
  instr t (.sv rd :: srcs) noHold fun s =>
    let r := match op with
      | .fdiv => f.div (s.coreRM t) (s.fpOpd t ra f) (s.fpOpd t rb f)
      | .fsqrt => f.sqrt (s.coreRM t) (s.fpOpd t ra f)
    fpFinish t (.fp rd) r.1 r.2 (s.anyMarked t srcs) s

/-- fdiv or fsqrt. -/
def execScalarFpDivide (tile : Tile) (op : FpDivOp) (fmt : FpFmt) (rd ra rb : RegNo) (s : State) : Outcome State Fault Refusal :=
  .next <| s.perform (scalarFpDivPlan tile op (fpFmt fmt) rd ra rb)

/-- The element width of a short-vector format. -/
def svWidth : SvFmt → Nat
  | .fp64 => 64 | .fp32 => 32 | .fp16 => 16 | .bf16 => 16 | .int8 => 8

/-- One element of sv.add or sv.fma (a × b + c) with its flags; INT8 keeps the low 8 bits. -/
def svElem (op : SvOp) (f : SvFmt) (rm : RMode) (a b c : Nat) : Nat × Nat :=
  let fp := fun (g : Fmt) => match op with | .add => g.add rm a b | .fma => g.fma rm a b c
  match f with
  | .fp64 => fp .fp64
  | .fp32 => fp .fp32
  | .fp16 => fp .fp16
  | .bf16 => fp .bf16
  | .int8 => (match op with | .add => (a + b) % 256 | .fma => (a * b + c) % 256, 0)

/-- sv.add or sv.fma over all elements of a short-vector register. -/
def svResult (op : SvOp) (f : SvFmt) (rm : RMode) (a b c : Nat) : Nat × Nat :=
  let w := svWidth f
  (List.range (256 / w)).foldl (fun m i =>
    let e := svElem op f rm (bitsOf a (w * i + w - 1) (w * i)) (bitsOf b (w * i + w - 1) (w * i)) (bitsOf c (w * i + w - 1) (w * i))
    (m.1 + e.1 * 2 ^ (w * i), m.2 ||| e.2)) (0, 0)

/-- A short-vector arithmetic instruction. -/
def svPlan (t : Nat) (op : SvOp) (f : SvFmt) (rd ra rb rc : RegNo) : Plan :=
  let srcs : List Rg := [.sv ra, .sv rb] ++ (if op = .fma then [.sv rc] else [])
  instr t (.sv rd :: srcs) noHold fun s =>
    let r := svResult op f (s.coreRM t) (s.sv t ra) (s.sv t rb) (s.sv t rc)
    fpFinish t (.sv rd) r.1 r.2 (s.anyMarked t srcs) s

/-- sv.add or sv.fma. -/
def execShortVectorArithmetic (tile : Tile) (op : SvOp) (fmt : SvFmt) (rd ra rb rc : RegNo) (s : State) :
    Outcome State Fault Refusal :=
  .next <| s.perform (svPlan tile op fmt rd ra rb rc)

/-- sv.perm or sv.cvt, whose results the spec does not state. -/
def svMovePlan (t : Nat) (op : SvMove) (rd ra rb : RegNo) : Plan :=
  let srcs : List Rg := .sv ra :: (if op = .perm then [.sv rb] else [])
  instr t (.sv rd :: srcs) noHold fun s =>
    let r := match op with
      | .perm => (Config.svPerm (s.sv t ra) (s.sv t rb) % 2 ^ 256, 0)
      | .cvt code => (Config.svCvt code (s.sv t ra) % 2 ^ 256, Config.svCvtFlags code (s.sv t ra) % 32)
    fpFinish t (.sv rd) r.1 r.2 (s.anyMarked t srcs) s

/-- sv.perm or sv.cvt. -/
def execShortVectorPermute (tile : Tile) (op : SvMove) (rd ra rb : RegNo) (s : State) : Outcome State Fault Refusal :=
  .next <| s.perform (svMovePlan tile op rd ra rb)

/-! ### Descriptor issue (R71, R77, R206, R256, R257) -/

/-- The operation codes an engine defines (Tables 4.2, 7.2, 15.2, 10.4, R204, R501); engine 7 takes no descriptors. -/
def opcDefined (e opc : Nat) : Bool :=
  match e with
  | 0 => opc ∈ [0x01, 0x02, 0x10]
  | 1 => opc ∈ [1, 2, 3, 4]
  | 2 => opc ∈ [1, 2, 3, 4, 5, 6]
  | 3 => opc ∈ [1, 2, 3]
  | 4 => opc == 1
  | 5 => opc == 1
  | 6 => opc == 1
  | _ => false

/-- The depth of an engine's queue (Table 3.3). -/
def queueDepth (e : Nat) : Nat := if e = 7 then 32 else 16

/-- Recording is on for an engine and has room (R256). -/
def State.records (s : State) (t e : Nat) : Bool :=
  s.rd .DM_REC_CTL_EN t == 1 && testB (s.rd .DM_REC_CTL_MASK t) e && s.rd .DM_REC_CTL_COUNT t != s.rd .DM_REC_CTL_LIMIT t

/-- The issued descriptor is recorded as an entry, in the recorder buffer while a window is open; at LIMIT, FULL sets (R256, R257). -/
def recordIssue (t e raw : Nat) : Plan := fun s =>
  if s.rd .DM_REC_CTL_EN t = 1 ∧ testB (s.rd .DM_REC_CTL_MASK t) e then
    if s.rd .DM_REC_CTL_COUNT t = s.rd .DM_REC_CTL_LIMIT t then [wr .DM_REC_CTL_FULL 1 t]
    else
      let n := s.rd .DM_REC_CTL_COUNT t
      let off := (s.rd .DM_REC_ADDR_ADDR t + 64 * n) % 2 ^ 24
      let entry := putBits raw 24 4 (e + 8)
      (if s.window t then [.parts fun p => { p with recBuf := p.recBuf.set t (p.recBuf.at t ++ [(off, entry)]) }]
       else writeTs t off (leBytes 64 entry) [] s)
      ++ [wr .DM_REC_CTL_COUNT (n + 1) t]
      ++ (if n + 1 = s.rd .DM_REC_CTL_LIMIT t then [wr .DM_REC_CTL_FULL 1 t] else [])
  else []

/-- Whether an FS_OPEN issued now opens a window: 0, or the status it will report (R206). -/
def fsOpenNote (s : State) (t : Nat) : Nat :=
  if s.rd .FS_STAT_FSTATE t = 2 ∨ (s.rd .FS_STAT_FSTATE t = 1 ∧ s.rd .FS_STAT_PEND_DIS t = 0) then
    (if s.window t ∨ ¬ (s.queue t 6).isEmpty ∨ (s.running t 6).isSome then 0x84 else 0)
  else 0x85

/-- A window opens: the fence and the written flags apply, the generator keeps a shadow, and the recorder's count is kept (R203,
R206, R235, R257). -/
def openWindow (t : Nat) : Plan := plans
  [rnShadow t,
   fun s => [wr .FS_STAT_WIN 1 t, wr .FS_FENCE_WRITTEN 0 t, wv .REC_COUNT0 (s.rd .DM_REC_CTL_COUNT t) t,
     .clear fun l => match l with | .var .CALD_W i _ => i == t | _ => false]]

/-- A descriptor enters engine e's queue; an FS_OPEN opens its window in the next cycle (R71, R206). -/
def enqueue (t e raw : Nat) (marked : Bool) : Plan := plans
  [fun s =>
    let d : Desc := ⟨raw, s.vr .ISSUE_SEQ t, s.clock, s.window t, marked, if e = 6 then fsOpenNote s t else 0⟩
    plans [recordIssue t e raw, fun s => setQueue t e (s.queue t e ++ [d]) s,
      fun s => [wv .ISSUE_SEQ (s.vr .ISSUE_SEQ t + 1) t],
      if e = 6 ∧ d.note = 0 then openWindow t else fun _ => []] s]

/-- The registers an issue reads. -/
def issueRegs : IssueForm → List Rg
  | .pair k => [.sv (2 * k), .sv (2 * k + 1)]
  | .mem r => [.gp r]

/-- issue or issue.m: a misaligned or outside data-memory address and an uncorrectable word raise their exceptions, an undefined
operation code raises 0x06, and a full queue or recorder buffer stalls. -/
def issuePlan (t e : Nat) (form : IssueForm) : Plan :=
  instr t (issueRegs form) (fun s => s.anyMarked t (issueRegs form) && decide (2 ≤ e ∧ e ≤ 6)) fun s =>
    let go := fun (raw : Nat) =>
      if ¬ opcDefined e (raw % 256) then except t 0x06 0 none false s
      else if queueDepth e ≤ (s.queue t e).length ∨ (s.window t ∧ s.records t e ∧ 16 ≤ (s.parts.recBuf.at t).length) then
        [wv .STALLED 1 t]
      else plans [enqueue t e raw (s.anyMarked t (issueRegs form)), advance t] s
    match form with
    | .pair k => go (s.sv t (2 * k) + s.sv t (2 * k + 1) * 2 ^ 256)
    | .mem r =>
      let a := s.gp t r
      let m := s.marked t (.gp r)
      if a % 64 ≠ 0 then except t 0x02 0 (some a) m s
      else if 65536 < a + 64 then except t 0x03 0x64 (some a) m s
      else if (s.dmemBad t a 64).isSome then except t 0x04 0x40 (some a) m s
      else go (s.num (dmemBase t + a) 64)

/-- issue or issue.m. -/
def execDescriptorIssue (tile : Tile) (engine : Fin 8) (form : IssueForm) (s : State) : Outcome State Fault Refusal :=
  .next <| s.perform (issuePlan tile engine form)

/-! ### Counters, summaries, time and draws (R73 to R76, R84, R232) -/

/-- wait.ge begins: the core waits at it. -/
def execCounterWait (tile : Tile) (counter : RegNo) (rv : RegNo) (s : State) : Outcome State Fault Refusal :=
  .next <| s.perform (instr tile [.gp rv] noHold fun s =>
    [.parts fun p => { p with waits := p.waits.put tile (some ⟨counter, s.gp tile rv % 2 ^ 32, none⟩) }])

/-- wait.dl begins, or ends at once with 0 in gp1 when its deadline is not later than the GTC. -/
def waitDlPlan (t c rv rdl : Nat) : Plan :=
  instr t [.gp rv, .gp rdl, .gp 1] noHold fun s =>
    if gtcBefore s.gtc (s.gp t rdl) then
      [.parts fun p => { p with waits := p.waits.put t (some ⟨c, s.gp t rv % 2 ^ 32, some (s.gp t rdl)⟩) }]
    else plans [setReg t (.gp 1) 0 (s.anyMarked t [.gp rv, .gp rdl]), advance t] s

/-- wait.dl. -/
def execCounterWaitDeadline (tile : Tile) (counter rv rdl : RegNo) (s : State) : Outcome State Fault Refusal :=
  .next <| s.perform (waitDlPlan tile counter rv rdl)

/-- A wait ends: a wait.dl writes gp1. -/
def endWait (t : Nat) (w : Wait) (ok : Nat) : Plan := plans
  [fun _ => [.parts fun p => { p with waits := p.waits.put t none }],
   if w.deadline.isSome then setReg t (.gp 1) ok false else fun _ => [],
   advance t]

/-- A wait whose counter has reached its value ends; under R49 the deadline's own cycle belongs to the deadline. -/
def waitReleasePlan (t : Nat) : Plan := fun s =>
  match s.parts.waits.find t with
  | none => []
  | some w =>
    let early : Bool := match w.deadline with | some d => gtcBefore s.gtc d | none => true
    if s.reached t w.counter w.value ∧ early then endWait t w 1 s else []

/-- A counter wait is satisfied. -/
def execWaitRelease (tile : Tile) (s : State) : Outcome State Fault Refusal :=
  .next <| s.perform (waitReleasePlan tile)

/-- The GTC reaches a wait.dl's deadline: the wait ends with 0 in gp1. -/
def waitDeadlinePlan (t : Nat) : Plan := fun s =>
  match s.parts.waits.find t with
  | none => []
  | some w => match w.deadline with
    | some d => if gtcBefore s.gtc d then [] else endWait t w 0 s
    | none => []

/-- A wait's deadline. -/
def execWaitDeadline (tile : Tile) (s : State) : Outcome State Fault Refusal :=
  .next <| s.perform (waitDeadlinePlan tile)

/-- cnt.rd. -/
def execCounterRead (tile : Tile) (rd : RegNo) (counter : RegNo) (s : State) : Outcome State Fault Refusal :=
  .next <| s.perform (compute tile [] (.gp rd) fun s => s.rd .TC_CNT_VALUE tile counter)

/-- cnt.set. -/
def execCounterSet (tile : Tile) (counter : RegNo) (rs : RegNo) (s : State) : Outcome State Fault Refusal :=
  .next <| s.perform (instr tile [.gp rs] noHold fun s =>
    plans [fun s => [wr .TC_CNT_VALUE (s.gp tile rs % 2 ^ 32) tile counter], advance tile] s)

/-- Word w of summary slot `slot` (TC_SUM0 to TC_SUM3). -/
def State.sumWord (s : State) (t slot w : Nat) : Nat :=
  match w % 4 with
  | 0 => packFields [(0, s.rd .TC_SUM0_STATUS t slot), (8, s.rd .TC_SUM0_ENGINE t slot), (11, s.rd .TC_SUM0_SPEC t slot),
      (16, s.rd .TC_SUM0_TAG t slot), (32, s.rd .TC_SUM0_GTC_LO t slot)]
  | 1 => s.rd .TC_SUM1_VAL0 t slot
  | 2 => s.rd .TC_SUM2_VAL1 t slot
  | _ => s.rd .TC_SUM3_CYCLES t slot

/-- sum.ld reads a word of a summary slot; a slot with SPEC set marks the register (R77). -/
def execSummaryRead (tile : Tile) (rd : RegNo) (slot : RegNo) (word : Fin 4) (s : State) : Outcome State Fault Refusal :=
  .next <| s.perform (instr tile [.gp rd] noHold fun s =>
    plans [setReg tile (.gp rd) (s.sumWord tile slot word) (s.rd .TC_SUM0_SPEC tile slot == 1), advance tile] s)

/-- b.sum: a branch when the mask selects the class of the slot's status (R76). -/
def execBranchOnSummary (tile : Tile) (slot : RegNo) (mask : BitVec 16) (target : BitVec 16) (s : State) :
    Outcome State Fault Refusal :=
  .next <| s.perform (instr tile [] noHold fun s =>
    if testB mask.toNat (s.rd .TC_SUM0_STATUS tile slot / 16) then jumpTo tile target.toNat (fun _ => []) s else advance tile s)

/-- rd.gtc reads the GTC; rd.cyc the cycles since RUN was last set. -/
def execTimeRead (tile : Tile) (rd : RegNo) (which : TimeReg) (s : State) : Outcome State Fault Refusal :=
  .next <| s.perform (compute tile [] (.gp rd) fun s =>
    match which with | .gtc => s.gtc | .cyc => (s.clock - s.vr .RUN_AT tile) % 2 ^ 64)

/-- rn.get: the next output of a slot; it stalls on a slot that is loading, saving or filling, returns 0 with the error flag from a
slot that is UNBOUND or the vector engine's, and raises 0x04 on a failed state (R232, R233, R236). -/
def drawPlan (t rd sl : Nat) (h : rd < 32) : Plan :=
  instr t [.gp rd] noHold fun s =>
    let d : Dest := .gp ⟨rd, h⟩
    if s.rnBusy t sl then [wv .STALLED 1 t]
    else if ¬ s.rnBound t sl then plans [rnUnbound t, setReg t d 0 false, advance t] s
    else if s.rd .RN_SLOT_CTL_OWNER t sl = 1 then plans [rnNotOwner t, setReg t d 0 false, advance t] s
    else if s.rd .RN_SLOT_CTL_POISON t sl = 1 then except t 0x04 0x40 none false s
    else
      let r := rnDraw1 t sl s
      plans [fun _ => r.2, setReg t d r.1 false, advance t] s

/-- rn.get. -/
def execRandomDraw (tile : Tile) (rd : RegNo) (slot : Fin 4) (s : State) : Outcome State Fault Refusal :=
  .next <| s.perform (drawPlan tile rd slot rd.isLt)

/-! ### Load answers, eret and interrupts (R78, R530) -/

/-- The load-answer exception of an answered load: TC_EPC takes the first instruction not yet issued. -/
def loadFault (t ret : Nat) (l : PendLoad) : Plan := plans
  [fun _ => [.parts fun p => { p with loads := p.loads.set t ((p.loads.at t).erase l) }],
   takeException t ret ⟨if l.status = 0x40 then 0x04 else 0x05, l.status,
     some (if l.status = 0x40 then l.badAddr else l.addr), l.pc, true, l.mark⟩]

/-- The answered loads whose answer is a fault, in issue order. -/
def State.faulting (s : State) (t : Nat) : List PendLoad := (s.parts.loads.at t).filter fun l => l.answered && l.status != 0

/-- A load's answer registers: its data is written, or its fault is taken; of several faults the first-issued comes first, and a
load issued before the exception entry in force keeps its fault pending (R530). -/
def loadAnswerPlan (t n : Nat) : Plan := fun s =>
  match (s.parts.loads.at t)[n]? with
  | none => []
  | some l =>
    if ¬ l.answered then []
    else if l.status = 0 then
      plans [fun _ => [.parts fun p => { p with loads := p.loads.set t ((p.loads.at t).erase l) }, wv .STALLED 0 t],
        setReg t l.dest (loadValue l.dest l.size l.data) l.mark] s
    else if (s.faulting t).head? ≠ some l then []
    else if s.rd .TC_STAT_INEXC t = 1 ∧ l.preExc then []
    else loadFault t (s.pc t) l s

/-- The answer of the load numbered `n` among the tile's outstanding loads, in issue order. -/
def execLoadAnswer (tile : Tile) (n : Fin 64) (s : State) : Outcome State Fault Refusal :=
  .next <| s.perform (loadAnswerPlan tile n)

/-- eret: INEXC clears and the core resumes at TC_EPC; a load-answer fault that stayed pending is taken before any instruction
issues there (R78, R530). -/
def eretPlan (t : Nat) : Plan :=
  instr t [] noHold <| plans
    [fun s => wr .TC_STAT_INEXC 0 t :: goTo t (4 * s.rd .TC_EPC_PC t) s,
     fun s => match (s.faulting t).find? fun l => l.preExc with
      | some l => loadFault t (s.pc t) l s
      | none => []]

/-- eret. -/
def execExceptionReturn (tile : Tile) (s : State) : Outcome State Fault Refusal :=
  .next <| s.perform (eretPlan tile)

/-- An enabled pending interrupt is taken as exception 0x10 while INEXC is 0; a wait in progress starts again after eret (R75, R78). -/
def interruptPlan (t : Nat) : Plan := fun s =>
  if s.domOn t ∧ s.rd .TC_CTL_RUN t = 1 ∧ s.vr .STOPPED t = 0 ∧ s.rd .TC_STAT_INEXC t = 0
      ∧ s.rd .TC_IPEND_SRC t &&& s.rd .TC_IEN_SRC t ≠ 0 then
    except t 0x10 0 none false s
  else []

/-- An interrupt is taken. -/
def execInterruptEntry (tile : Tile) (s : State) : Outcome State Fault Refusal :=
  .next <| s.perform (interruptPlan tile)

/-- The DOUBLE_FAULT message is written as soon as the tile holds its slot. -/
def execDoubleFaultMessage (tile : Tile) (s : State) : Outcome State Fault Refusal :=
  .next <| s.perform (doubleFaultMsg tile)

/-! ### Control registers (R66, R74, R81, R84) -/

/-- A write of TC_CTL.RUN: 1 starts a halted core at TC_EPC.PC; 0 halts it at the next instruction boundary. -/
def tcRunPlan (t v : Nat) : Plan := fun s =>
  if ¬ s.domOn t then []
  else if testB v 0 then
    (if s.rd .TC_CTL_RUN t = 1 then [] else
      [wr .TC_CTL_RUN 1 t, wr .TC_STAT_RUNNING 1 t, wv .PC (4 * s.rd .TC_EPC_PC t) t, wv .RUN_AT s.clock t, wv .STALLED 0 t,
       wv .SPEC_STALL 0 t, wv .STOPPED 0 t])
  else [wr .TC_CTL_RUN 0 t, wr .TC_STAT_RUNNING 0 t]

/-- A write of TC_CTL.RUN. -/
def execTcRun (tile : Tile) (value : W64) (s : State) : Outcome State Fault Refusal :=
  .next <| s.perform (tcRunPlan tile value.toNat)

/-- A write of TC_CTL.STEP issues one cycle of a halted core, when debug is unlocked. -/
def tcStepPlan (t : Nat) : Plan := fun s =>
  if s.domOn t ∧ s.rd .TC_CTL_RUN t = 0 ∧ s.debug then [wv .STEPPING 1 t] else []

/-- A write of TC_CTL.STEP. -/
def execTcStep (tile : Tile) (s : State) : Outcome State Fault Refusal :=
  .next <| s.perform (tcStepPlan tile)

/-- A write of TC_CNT (R74). -/
def tcCntPlan (t n v : Nat) : Plan := fun s => if s.domOn t then [wr .TC_CNT_VALUE (v % 2 ^ 32) t n] else []

/-- A write of TC_CNT. -/
def execTcCntWrite (tile : Tile) (counter : RegNo) (value : W64) (s : State) : Outcome State Fault Refusal :=
  .next <| s.perform (tcCntPlan tile counter value.toNat)

/-- A context switch that has passed its 8 frames: the firmware's command returns 0x12 (R81). -/
def deferralPlan (t : Nat) : Plan := fun s =>
  if s.rd .TC_PREEMPT_REQ t = 1 ∧ s.rd .TC_PREEMPT_DONE t = 0 ∧ 8 ≤ s.vr .PREEMPT_TICKS t ∧ s.vr .PREEMPT_LATE t = 0 then
    wv .PREEMPT_LATE 1 t :: raise .job .preemptLate t s
  else []

/-- The limit of a deferred context switch. -/
def execPreemptDeferralLimit (tile : Tile) (s : State) : Outcome State Fault Refusal :=
  .next <| s.perform (deferralPlan tile)

/-- The tile watchdog fires after TC_WDOG.FRAMES frames without GT_TILE.DONE. -/
def tileWatchdogPlan (t : Nat) : Plan := fun s =>
  if s.domOn t ∧ s.rd .TC_WDOG_FRAMES t ≠ 0 ∧ s.rd .TC_WDOG_FRAMES t ≤ s.vr .WDOG_FRAMES t ∧ s.rd .TC_WDOG_FIRED t = 0 then
    plans [fun _ => [wr .TC_WDOG_FIRED 1 t], ipend t 4, raise .safety .tileWatchdog t] s
  else []

/-- The tile watchdog. -/
def execTileWatchdog (tile : Tile) (s : State) : Outcome State Fault Refusal :=
  .next <| s.perform (tileWatchdogPlan tile)

end Sys2Proof.Machine
end

