-- ==== Sys2Proof/Machine/VecMath.lean ====
section
/-! DEFINITION. Element arithmetic of the long-vector engine (R140, R151 to R159): formats, element operations, conversions, exact
sums and the reduction tree. -/
namespace Sys2Proof.Machine

/-- The width in bits of an SEW code (Table 6.2). -/
def sewBits (c : Nat) : Nat :=
  match c with | 0 => 8 | 1 => 16 | 2 => 32 | 3 => 64 | 4 => 16 | 5 => 16 | 6 => 32 | 7 => 64 | _ => 8

/-- The floating-point format of an SEW code; integer formats have none. -/
def sewFmt (c : Nat) : Option Fmt :=
  match c with
  | 4 => some .fp16 | 5 => some .bf16 | 6 => some .fp32 | 7 => some .fp64 | 8 => some .e4m3 | 9 => some .e5m2
  | _ => none

/-- VLMAX (R140). -/
def vlMax (c : Nat) : Nat := 8192 / sewBits c

/-- Integer arithmetic: add, sub, mul, fma, min and max on w-bit elements (R152). -/
def intArith (fn w a b c : Nat) : Nat :=
  let x := toSigned w a
  let y := toSigned w b
  match fn with
  | 0 => ofSigned w (x + y)
  | 1 => ofSigned w (x - y)
  | 2 => ofSigned w (x * y)
  | 3 => ofSigned w (x * y + toSigned w c)
  | 4 => if y < x then b else a
  | _ => if x < y then b else a

/-- vx.arith on one element: VS1, VS2 and the old VD (R151, R152). -/
def vxArith (sew fn : Nat) (rm : RMode) (a b c : Nat) : Nat × Nat :=
  match sewFmt sew with
  | none => (intArith fn (sewBits sew) a b c, 0)
  | some f => match fn with
    | 0 => f.add rm a b
    | 1 => f.sub rm a b
    | 2 => f.mul rm a b
    | 3 => f.fma rm a b c
    | 4 => f.min a b
    | 5 => f.max a b
    | 6 => f.div rm a b
    | _ => f.sqrt rm a

/-- vx.logic on one element of w bits; shift counts are modulo w (R152). -/
def vxLogic (fn w a b : Nat) : Nat :=
  let n := b % w
  match fn with
  | 0 => a &&& b
  | 1 => a ||| b
  | 2 => a ^^^ b
  | 3 => (a * 2 ^ n) % 2 ^ w
  | 4 => a / 2 ^ n
  | _ => ofSigned w (toSigned w a / 2 ^ n)

/-- vx.cmp on one element (R152). -/
def vxCompare (sew fn a b : Nat) : Bool × Nat :=
  match sewFmt sew with
  | some f => f.compare fn a b
  | none =>
    let x := toSigned (sewBits sew) a
    let y := toSigned (sewBits sew) b
    (match fn with | 0 => decide (x = y) | 1 => decide (x ≠ y) | 2 => decide (x < y) | _ => decide (x ≤ y), 0)

/-- vx.cvt on one element from code `sew` to code `dst` (R153). -/
def vxConvert (sew dst : Nat) (rm : RMode) (sat8 : Bool) (a : Nat) : Nat × Nat :=
  match sewFmt sew, sewFmt dst with
  | some g, some f => f.convert g rm sat8 a
  | some g, none => g.toInt rm (sewBits dst) a
  | none, some f => f.ofInt rm sat8 (toSigned (sewBits sew) a)
  | none, none =>
    let w := sewBits dst
    let x := toSigned (sewBits sew) a
    if x < -(2 : Int) ^ (w - 1) then (2 ^ (w - 1), 1)
    else if (2 : Int) ^ (w - 1) ≤ x then (2 ^ (w - 1) - 1, 1)
    else (ofSigned w x, 0)

/-- The format of a wmul or dot result. -/
def wideFmt (sew : Nat) : Fmt := if sew = 6 then .fp64 else .fp32

/-- vx.wmul on one element: invalid is the only flag it raises (R156). -/
def vxWiden (sew : Nat) (rm : RMode) (a b : Nat) : Nat × Nat :=
  match sewFmt sew with
  | none => (ofSigned (2 * sewBits sew) (toSigned (sewBits sew) a * toSigned (sewBits sew) b), 0)
  | some g => let r := (wideFmt sew).mulFrom g rm a b; (r.1, r.2 &&& 1)

/-- The exact sum of finite values and the signs of its terms; none when a term is no finite value. -/
def exactSum : List FV → Option Dy
  | [] => some Dy.zero
  | .fin n m e :: t => (exactSum t).map (Dy.add (dyOf n m e))
  | _ :: _ => none

/-- A sum of values rounded once to `f` (R156): NaN and infinite terms decide it before any rounding. -/
def Fmt.sumOf (f : Fmt) (rm : RMode) (terms : List FV) : Nat × Nat :=
  if terms.any FV.isNan then (f.nan, nanFlags terms)
  else
    let pos := terms.any fun v => v.isInf && !v.neg
    let neg := terms.any fun v => v.isInf && v.neg
    if pos && neg then (f.nan, 1)
    else if pos || neg then (f.inf neg, 0)
    else match exactSum terms with
      | some d => f.roundDy rm (terms.all FV.neg || (terms.any FV.neg && rm == .dn)) d
      | none => (f.nan, 0)

/-- One lane of a floating-point dot: a0 × b0 + a1 × b1 + c in FP32, rounded once (R156). -/
def dotLane (g : Fmt) (rm : RMode) (a0 b0 a1 b1 c : Nat) : Nat × Nat :=
  let p := (g.decode a0).mul (g.decode b0)
  let q := (g.decode a1).mul (g.decode b1)
  let z := Fmt.fp32.decode c
  match p, q with
  | some x, some y => Fmt.fp32.sumOf rm [x, y, z]
  | _, _ => (Fmt.fp32.nan, 1)

/-- One lane of an INT8 dot: the old lane plus four products, modulo 2^32 (R156). -/
def dotInt (prods : List (Nat × Nat)) (c : Nat) : Nat :=
  ofSigned 32 (prods.foldl (fun m p => m + toSigned 8 p.1 * toSigned 8 p.2) (toSigned 32 c))

/-! ### The reduction tree (R157) -/

/-- Positions 2i and 2i + 1 combine. -/
def pairUp (f : Nat → Nat → Nat × Nat) : List Nat → List Nat × Nat
  | a :: b :: t => let r := f a b; let m := pairUp f t; (r.1 :: m.1, r.2 ||| m.2)
  | l => (l, 0)

/-- Levels of the tree until one value remains. -/
def treeReduce (f : Nat → Nat → Nat × Nat) : Nat → List Nat → Nat × Nat
  | 0, l => (l.headD 0, 0)
  | n + 1, l =>
    match l with
    | [] => (0, 0)
    | [x] => (x, 0)
    | _ => let p := pairUp f l; let r := treeReduce f n p.1; (r.1, p.2 ||| r.2)

/-- ceil(log2 n). -/
def lg2 (n : Nat) : Nat := if n ≤ 1 then 0 else Nat.log2 (n - 1) + 1

/-- The identity of a reduction: 0 sum, 1 min, 2 max (R157). -/
def redIdent (sew fn : Nat) : Nat :=
  let w := sewBits sew
  match sewFmt sew with
  | some f => match fn with | 0 => f.sgn true | 1 => f.inf false | _ => f.inf true
  | none => match fn with | 0 => 0 | 1 => 2 ^ (w - 1) - 1 | _ => 2 ^ (w - 1)

/-- The combination of a reduction. -/
def redStep (sew fn : Nat) (rm : RMode) (a b : Nat) : Nat × Nat :=
  vxArith sew (match fn with | 0 => 0 | 1 => 4 | _ => 5) rm a b 0

/-- The reduction of positions 0 to n − 1: an absent position holds the identity. -/
def reduce (sew fn : Nat) (rm : RMode) (n : Nat) (val : Nat → Option Nat) : Nat × Nat :=
  treeReduce (redStep sew fn rm) (lg2 n + 1) ((List.range (2 ^ lg2 n)).map fun i =>
    if i < n then (val i).getD (redIdent sew fn) else redIdent sew fn)

/-! ### Long accumulators (R158, R159) -/

/-- A long accumulator: its value in units of 2^−2148, its flags, its poison, and the additions since xclr. -/
structure LongAcc where
  v : Int
  pos : Bool
  neg : Bool
  nan : Bool
  pois : Bool
  count : Nat
deriving DecidableEq, Repr

/-- One addition of a value (R158). -/
def LongAcc.add (a : LongAcc) (x : Option FV) (pois : Bool) : LongAcc :=
  let a := { a with pois := a.pois || pois, count := a.count + 1 }
  match x with
  | none => { a with nan := true }
  | some (.nan _) => { a with nan := true }
  | some (.inf n) => if n then { a with neg := true } else { a with pos := true }
  | some (.fin n m e) =>
    let k : Int := (m * 2 ^ (e + 2148).toNat : Nat)
    { a with v := a.v + (if n then -k else k) }

/-- The accumulator as FP64, and the flags of its rounding (R159). -/
def LongAcc.read (a : LongAcc) : Nat × Nat :=
  if a.nan ∨ (a.pos ∧ a.neg) then (Fmt.fp64.nan, 0)
  else if a.pos ∨ a.neg then (Fmt.fp64.inf a.neg, 0)
  else Fmt.fp64.roundDy .ne false ⟨a.v, -2148⟩

/-- The second element of an xrd pair: round(x − hi), or +0 when hi is no finite value (R159). -/
def LongAcc.readLo (a : LongAcc) : Nat × Nat :=
  match Fmt.fp64.decode a.read.1 with
  | .fin n m e => Fmt.fp64.roundDy .ne false ((⟨a.v, -2148⟩ : Dy).add (dyOf n m e).neg)
  | _ => (0, 0)

/-- The accumulator holds a set flag. -/
def LongAcc.flagged (a : LongAcc) : Bool := a.nan || a.pos || a.neg

/-- The square root of the exact value, or the canonical NaN below zero (R159). -/
def LongAcc.root (a : LongAcc) : Nat × Nat :=
  if a.flagged then a.read
  else if a.v < 0 then (Fmt.fp64.nan, 1)
  else if a.v = 0 then (0, 0)
  else Fmt.fp64.sqrtPos .ne a.v.toNat (-2148)

end Sys2Proof.Machine
end

