-- ==== Sys2Proof/Machine/Vector.lean ====
section
/-! DEFINITION. The long-vector engine (Long-Vector Engine: R138 to R171). A vx instruction is checked and queued by the core; the
command of its own operation starts it, in the cycle the recurrence of R145 allows at the earliest. -/
namespace Sys2Proof.Machine
open Host

/-! ### Instruction words (Table 6.3) -/

/-- OP6. -/
def VxQ.op (q : VxQ) : Nat := bitsOf q.word 31 26

/-- VD. -/
def VxQ.vd (q : VxQ) : Nat := bitsOf q.word 9 5

/-- VS1. -/
def VxQ.vs1 (q : VxQ) : Nat := bitsOf q.word 14 10

/-- VS2. -/
def VxQ.vs2 (q : VxQ) : Nat := bitsOf q.word 19 15

/-- FN. -/
def VxQ.fn (q : VxQ) : Nat := bitsOf q.word 24 20

/-- M. -/
def VxQ.m (q : VxQ) : Bool := testB q.word 25

/-- The tile register in VD[7:5] of the word. -/
def VxQ.td (q : VxQ) : Nat := q.vd % 8

/-- The accumulator in VD[6:5] of the word. -/
def VxQ.lad (q : VxQ) : Nat := q.vd % 4

/-- The operation codes of Table 6.4. -/
def vxOps : List Nat :=
  [0x00, 0x01, 0x02, 0x03, 0x04, 0x05, 0x06, 0x07, 0x08, 0x10, 0x11, 0x12, 0x13, 0x14, 0x15, 0x16, 0x17, 0x18, 0x19]
  ++ [0x20, 0x21, 0x22, 0x23, 0x28, 0x29, 0x2A, 0x2B, 0x2C, 0x2D, 0x2E, 0x2F, 0x30, 0x31, 0x32]

/-! ### The issue checks (R143, R144) -/

/-- A widening cvt. -/
def VxQ.widens (q : VxQ) (sew : Nat) : Bool := q.op == 0x14 && decide (sewBits sew < sewBits (q.vs2 % 16))

/-- The operation accepts the SEW code, and its function codes are defined. -/
def VxQ.sewOk (q : VxQ) (sew : Nat) : Bool :=
  let fp := decide (4 ≤ sew)
  let fp8 := decide (8 ≤ sew)
  match q.op with
  | 0x00 => decide (q.vs1 % 16 ≤ 9)
  | 0x08 => !fp8
  | 0x10 => !fp8 && decide (q.fn ≤ 7) && (fp || decide (q.fn ≤ 5))
  | 0x11 => !fp && decide (q.fn ≤ 5)
  | 0x12 => !fp8 && decide (q.fn ≤ 3)
  | 0x14 => decide (q.vs2 % 16 ≤ 9)
  | 0x15 => sew ∈ [0, 1, 2, 4, 5, 6]
  | 0x16 => sew ∈ [0, 4, 5, 8, 9]
  | 0x19 => !fp8 && decide (q.fn ≤ 2)
  | 0x21 => sew == 6 || sew == 7
  | 0x22 => sew == 6 || sew == 7
  | 0x23 => decide (q.fn ≤ 1)
  | 0x28 => decide (1 ≤ sew ∧ sew ≤ 7)
  | 0x29 => decide (1 ≤ sew ∧ sew ≤ 7)
  | 0x2A => decide (1 ≤ sew ∧ sew ≤ 7) && decide (q.fn % 8 ≤ 4)
  | 0x2B => decide (1 ≤ sew ∧ sew ≤ 7) && decide (q.fn ≤ 5)
  | 0x2C => decide (1 ≤ sew ∧ sew ≤ 7) && decide (q.fn % 4 ≤ 2)
  | 0x2D => sew == 2 || sew == 6
  | 0x2E => decide (1 ≤ sew ∧ sew ≤ 7)
  | 0x2F => decide (1 ≤ sew ∧ sew ≤ 7)
  | 0x30 => decide (q.vs2 % 8 ≤ 6) && (!fp8 || decide (5 ≤ q.vs2 % 8))
  | _ => true

/-- The instruction has no mask, so M must be 0. -/
def VxQ.unmasked (q : VxQ) : Bool := q.op ∈ [0x00, 0x13, 0x20, 0x23, 0x31, 0x32]

/-- The destination is a register pair. -/
def VxQ.pair (q : VxQ) (sew : Nat) : Bool := q.op == 0x15 || q.widens sew

/-- The registers of the index vector that follow VS1 (R144). -/
def indexRegs (vs1 vl : Nat) : List Nat := (List.range (max 1 (ceilDiv vl 256))).map (vs1 + ·)

/-- The exception that the checks of R143 raise for an instruction under a length and format, 0 for none. -/
def vxCheck (q : VxQ) (vl sew : Nat) : Nat :=
  let nb := sewBits sew / 8
  if ¬ vxOps.contains q.op ∨ ¬ q.sewOk sew ∨ (q.pair sew ∧ q.vd % 2 = 1) ∨ (q.m ∧ q.unmasked)
      ∨ (q.op ∈ [0x06, 0x07, 0x08] ∧ 32 < q.vs1 + ceilDiv vl 256)
      ∨ (q.widens sew ∧ 16384 < vl * sewBits (q.vs2 % 16))
      ∨ (q.op = 0x16 ∧ vl % (if sew = 0 then 4 else 2) ≠ 0) then 0x01
  else if (q.op ∈ [0x02, 0x03] ∧ q.base % 64 ≠ 0) ∨ (q.op ∈ [0x04, 0x05] ∧ (q.base % nb ≠ 0 ∨ q.stride % nb ≠ 0))
      ∨ (q.op ∈ [0x28, 0x29] ∧ (q.base % 64 ≠ 0 ∨ q.stride % 64 ≠ 0)) then 0x02
  else if (q.op ∈ [0x02, 0x03] ∧ vl ≠ 0 ∧ 2 ^ 24 < q.base + vl * nb)
      ∨ (q.op ∈ [0x28, 0x29] ∧ (List.range 64).any fun r => decide (2 ^ 24 < (q.base + r * q.stride) % 2 ^ 64 + 256)) then 0x03
  else 0

/-- VL and SEW as they stand after every instruction in the queue (R141, R143). -/
def State.issueVtype (s : State) (t : Nat) : Nat × Nat :=
  match (s.parts.vq.at t).reverse.find? fun q => q.op == 0 with
  | some q => (min q.base (vlMax (q.vs1 % 16)), q.vs1 % 16)
  | none => (s.rd .VX_VTYPE_VL t, s.rd .VX_VTYPE_SEW t)

/-- The registers an instruction reads at its issue: the gp or fp that FN and VS2 name (R144). -/
def vxCoreRegs (q : VxQ) (sew : Nat) : Option Rg × Option Rg :=
  let base : Option Rg :=
    if q.op = 0x01 ∧ 4 ≤ sew then some (.sv q.fn)
    else if q.op ∈ [0x00, 0x01, 0x02, 0x03, 0x04, 0x05, 0x06, 0x07, 0x08, 0x18, 0x28, 0x29, 0x2E, 0x2F] then some (.gp q.fn)
    else none
  (base, if q.op ∈ [0x04, 0x05, 0x28, 0x29] then some (.gp q.vs2) else none)

/-- The low 64 bits of a register. -/
def State.low64 (s : State) (t : Nat) : Option Rg → Nat
  | some (.gp r) => s.gp t r
  | some (.sv r) => s.sv t r % 2 ^ 64
  | none => 0

/-- The vector queue of tile t holds `q` (R171). -/
def setVq (t : Nat) (q : List VxQ) : Plan := fun s =>
  [.parts fun p => { p with vq := p.vq.set t q }, wr .TC_QSTAT_OCC (occWith (s.rd .TC_QSTAT_OCC t) 7 q.length) t,
   wr .VX_STAT_QOCC q.length t]

/-- A vx instruction issues: a failed check raises its exception, a full queue stalls, and otherwise the word and the registers it
reads enter the queue (R143, R144). -/
def vxIssuePlan (t word : Nat) : Plan := fun s =>
  let q0 : VxQ := ⟨word, 0, 0, 0, 0, false, false⟩
  let vt := s.issueVtype t
  let rs := vxCoreRegs q0 vt.2
  let regs := rs.1.toList ++ rs.2.toList
  instr t regs noHold (fun s =>
    let q : VxQ := ⟨word, s.low64 t rs.1, s.low64 t rs.2, s.vr .VX_ISSUED t, s.clock, s.window t, s.anyMarked t regs⟩
    let mark := s.anyMarked t regs
    match vxCheck q vt.1 vt.2 with
    | 0 =>
      if 32 ≤ (s.parts.vq.at t).length then [wv .STALLED 1 t]
      else plans [fun s => setVq t (s.parts.vq.at t ++ [q]) s, fun s => [wv .VX_ISSUED (s.vr .VX_ISSUED t + 1) t], advance t] s
    | 1 => except t 0x01 0 none false s
    | 2 => except t 0x02 0 (some q.base) mark s
    | _ => except t 0x03 0x64 (some q.base) mark s) s

/-- A vx instruction of the core. -/
def execVectorEngineInstruction (tile : Tile) (word : BitVec 32) (s : State) : Outcome State Fault Refusal :=
  .next <| s.perform (vxIssuePlan tile word.toNat)

/-! ### Registers and elements -/

/-- Element i of width w of vector register r; a pair continues in the next register (R140, R144). -/
def State.vEl (s : State) (t r i w : Nat) : Nat := s.num (vreg t r + i * w / 8) (w / 8)

/-- The 64 B that holds element i of register r carries a poison mark. -/
def State.vPois (s : State) (t r i w : Nat) : Bool := s.vr .VX_POIS t (16 * r + i * w / 512) == 1

/-- Bit i of v0. -/
def State.v0Bit (s : State) (t i : Nat) : Bool := testB (s.byte (vreg t 0 + i / 8)).toNat (i % 8)

/-- The active elements in ascending order (R142). -/
def State.vActive (s : State) (t vl : Nat) (m : Bool) : List Nat := (List.range vl).filter fun i => !m || s.v0Bit t i

/-- A mark of a numbered register: v0 to v31, t0 to t7, la0 to la3. -/
def State.vMark (s : State) (t r : Nat) : Bool := s.vr .MARK_VX t r == 1

/-- Element n of tile register k in row order. -/
def State.tEl (s : State) (t k n w : Nat) : Nat := s.num (treg t k + n * w / 8) (w / 8)

/-- The 64 B that holds element n of tile register k carries a poison mark. -/
def State.tPois (s : State) (t k n w : Nat) : Bool := s.vr .VX_POIS t (512 + 256 * k + n * w / 512) == 1

/-- Results in ascending order: element number, value and poison. -/
abbrev VxRes := List (Nat × Nat × Bool)

/-- Elements are written: a 64 B with a poisoned result is marked, and one written whole without loses its mark; the register takes
a speculation mark from a speculative source and loses it when written whole without (R142, R167, R169). -/
def vxPut (t base pbase : Nat) (reg : Nat → Nat) (full w : Nat) (res : VxRes) (spec : Bool) : Plan := fun _ =>
  let gs := (res.map fun r => r.1 * w / 512).eraseDups
  let rs := (gs.map reg).eraseDups
  (res.flatMap fun r => putNum (base + r.1 * w / 8) (w / 8) r.2.1)
  ++ (gs.flatMap fun g =>
    let mine := res.filter fun r => r.1 * w / 512 == g
    if mine.any (·.2.2) then [wv .VX_POIS 1 t (pbase + g)]
    else if mine.length * w = 512 then [wv .VX_POIS 0 t (pbase + g)] else [])
  ++ (rs.flatMap fun x =>
    let n := (res.filter fun r => reg (r.1 * w / 512) == x).length
    if spec then [wv .MARK_VX 1 t x] else if n * w = full then [wv .MARK_VX 0 t x] else [])

/-- Elements of vector register vd are written. -/
def vxWrite (t vd w : Nat) (res : VxRes) (spec : Bool) : Plan := vxPut t (vreg t vd) (16 * vd) (fun g => vd + g / 16) 8192 w res spec

/-- Elements of tile register k are written. -/
def vxWriteTile (t k w : Nat) (res : VxRes) (spec : Bool) : Plan := vxPut t (treg t k) (512 + 256 * k) (fun _ => 32 + k) 131072 w res spec

/-- Every 64 B of vector register vd takes a poison mark. -/
def vxPoisonAll (t vd : Nat) : List Act := (List.range 16).map fun g => wv .VX_POIS 1 t (16 * vd + g)

/-- Floating-point flags are raised (R151, R165). -/
def vxFlags (t fl : Nat) : Plan := fun s =>
  if fl = 0 then [] else [wr .VX_FCSR_FLAGS (s.rd .VX_FCSR_FLAGS t ||| fl) t, wv .VX_MFLAGS (s.vr .VX_MFLAGS t ||| fl) t]

/-- The rounding mode of VX_FCSR. -/
def State.vxRM (s : State) (t : Nat) : RMode := RMode.ofCode (s.rd .VX_FCSR_RM t)

/-- Long accumulator k. -/
def State.longAcc (s : State) (t k : Nat) : LongAcc :=
  let f := s.vr .LA_FLAG t k
  ⟨toSigned 4288 (s.vr .LA t k), testB f 0, testB f 1, testB f 2, s.vr .LA_POIS t k == 1, s.vr .LA_COUNT t k⟩

/-- Long accumulator k takes a value. -/
def putLongAcc (t k : Nat) (a : LongAcc) : List Act :=
  let b := fun (x : Bool) n => if x then n else 0
  [wv .LA (ofSigned 4288 a.v) t k, wv .LA_FLAG (b a.pos 1 + b a.neg 2 + b a.nan 4) t k, wv .LA_POIS (b a.pois 1) t k,
   wv .LA_COUNT (a.count % 2 ^ 64) t k]

/-! ### Order and timing (R145 to R149) -/

/-- What an instruction meets when it starts: its length, format, element width and active elements. -/
structure VxEnv where
  t : Nat
  q : VxQ
  vl : Nat
  sew : Nat
  act : List Nat
  spec : Bool
deriving DecidableEq, Repr

/-- The element width. -/
def VxEnv.w (e : VxEnv) : Nat := sewBits e.sew

/-- Addresses of the active elements of an access, those beyond the tile store left out (R150). -/
def VxEnv.addrs (e : VxEnv) (s : State) : List (Nat × Nat) :=
  let nb := e.w / 8
  let a := fun i =>
    match e.q.op with
    | 0x02 => e.q.base + i * nb
    | 0x03 => e.q.base + i * nb
    | 0x04 => (e.q.base + i * e.q.stride) % 2 ^ 64
    | 0x05 => (e.q.base + i * e.q.stride) % 2 ^ 64
    | _ => (e.q.base + s.vEl e.t e.q.vs1 i 32 * nb) % 2 ^ 64
  (e.act.map fun i => (i, a i)).filter fun p => decide (p.2 + nb ≤ 2 ^ 24)

/-- Groups of eight. -/
def groups8 {α : Type} : Nat → List α → List (List α)
  | 0, _ => []
  | n + 1, l => if l.isEmpty then [] else l.take 8 :: groups8 n (l.drop 8)

/-- The cost of a group: the most distinct granules in one bank, at least 1 (R149). -/
def groupCost (nb : Nat) (g : List (Nat × Nat)) : Nat :=
  let gr := (g.flatMap fun p => [p.2 / 64, (p.2 + nb - 1) / 64]).eraseDups
  (List.range 16).foldl (fun m b => max m (gr.filter fun x => x % 16 == b).length) 1

/-- G (R149). -/
def groupTotal (nb : Nat) (l : List (Nat × Nat)) : Nat := (groups8 (l.length + 1) l).foldl (fun m g => m + groupCost nb g) 0

/-- Source and destination registers, numbered v0 to v31, t0 to t7 (32 on) and la0 to la3 (40 on); an xdot or xsum does not wait
on its own accumulator, so the third list holds the destinations that must be ready (R145). -/
def VxEnv.regs (e : VxEnv) : List Nat × List Nat × List Nat :=
  let q := e.q
  let idx := indexRegs q.vs1 e.vl
  let sd : List Nat × List Nat :=
    match q.op with
    | 0x01 => ([], [q.vd])
    | 0x02 => ([], [q.vd])
    | 0x03 => ([q.vd], [])
    | 0x04 => ([], [q.vd])
    | 0x05 => ([q.vd], [])
    | 0x06 => (idx, [q.vd])
    | 0x07 => (q.vd :: idx, [])
    | 0x08 => (q.vd :: idx, [])
    | 0x10 => (q.vs1 :: (if q.fn = 7 then [] else [q.vs2]) ++ (if q.fn = 3 then [q.vd] else []), [q.vd])
    | 0x11 => ([q.vs1, q.vs2], [q.vd])
    | 0x12 => ([q.vs1, q.vs2], [q.vd])
    | 0x13 => ([q.vs1, q.vs2, 0], [q.vd])
    | 0x14 => ([q.vs1], if q.widens e.sew then [q.vd, q.vd + 1] else [q.vd])
    | 0x15 => ([q.vs1, q.vs2], [q.vd, q.vd + 1])
    | 0x16 => ([q.vs1, q.vs2, q.vd], [q.vd])
    | 0x17 => ([q.vs1, q.vs2], [q.vd])
    | 0x18 => ([q.vs1], [q.vd])
    | 0x19 => ([q.vs1], [q.vd])
    | 0x20 => ([], [40 + q.lad])
    | 0x21 => ([q.vs1, q.vs2], [40 + q.lad])
    | 0x22 => ([q.vs1], [40 + q.lad])
    | 0x23 => ([40 + q.vs1 % 4], [q.vd])
    | 0x28 => ([], [32 + q.td])
    | 0x29 => ([32 + q.td], [])
    | 0x2A => ([32 + q.td, q.vs1], [32 + q.td])
    | 0x2B => ([32 + q.vs1 % 8, 32 + q.vs2 % 8] ++ (if q.fn = 3 then [32 + q.td] else []), [32 + q.td])
    | 0x2C => ([32 + q.vs1 % 8], [q.vd])
    | 0x2D => ([32 + q.td], [32 + q.td])
    | 0x2E => ([32 + q.vs1 % 8], [q.vd])
    | 0x2F => ([q.vs1], [32 + q.td])
    | 0x30 => ([if 5 ≤ q.vs2 % 8 then 40 + q.vs1 % 4 else q.vs1], [])
    | _ => ([], [])
  let mask := if q.m ∧ ¬ (0x28 ≤ q.op ∧ q.op ≤ 0x2F) then [0] else []
  (sd.1 ++ mask, sd.2, if q.op = 0x21 ∨ q.op = 0x22 then [] else sd.2)

/-- P, the slices in service (R139). -/
def State.slices (s : State) (t : Nat) : Nat := s.rd .VX_CAPS_SLICES t

/-- A or A_w: the cycles over VL elements of a width (R146). -/
def vxA (p vl w : Nat) : Nat := max 1 (ceilDiv (ceilDiv (vl * w) 512) p)

/-- The pipe (0 ARITH, 1 MEM, 2 ACC, 3 none), the occupancy and the depth of an instruction (Table 6.5). -/
def VxEnv.cost (e : VxEnv) (s : State) : Nat × Nat × Nat :=
  let q := e.q
  let p := s.slices e.t
  let a := vxA p e.vl e.w
  let fp := decide (4 ≤ e.sew)
  let tile := if p = 3 then 86 else 64
  let nb := e.w / 8
  let k := q.vs2 % 8
  match q.op with
  | 0x00 => (0, 1, 1)
  | 0x10 => if fp then (if 6 ≤ q.fn then (0, (if e.sew = 7 then 8 else 4) * a, 24) else (0, a, 6))
      else (0, a, if q.fn = 2 ∨ q.fn = 3 then 4 else 2)
  | 0x14 => if q.widens e.sew then (0, vxA p e.vl (sewBits (q.vs2 % 16)), 6) else (0, a, 4)
  | 0x15 => (0, vxA p e.vl (2 * e.w), 6)
  | 0x16 => (0, a, 6)
  | 0x17 => (0, a, a + 4)
  | 0x18 => (0, a, a + 4)
  | 0x19 => (0, a, (if fp then 6 else 2) * lg2 e.vl)
  | 0x02 => (1, ceilDiv (e.vl * nb) 512, 8)
  | 0x03 => (1, ceilDiv (e.vl * nb) 512, 8)
  | 0x04 => (1, groupTotal nb (e.addrs s), 8)
  | 0x05 => (1, groupTotal nb (e.addrs s), 8)
  | 0x06 => (1, groupTotal nb (e.addrs s), 8)
  | 0x07 => (1, groupTotal nb (e.addrs s), 8)
  | 0x08 => (1, 2 * groupTotal nb (e.addrs s), 8)
  | 0x28 => (1, 32, 8)
  | 0x29 => (1, 32, 8)
  | 0x2A => (0, tile, 6)
  | 0x2B => (0, tile, 6)
  | 0x2C => (0, tile, 6 * lg2 (if testB q.fn 2 then 64 else 2048 / e.w))
  | 0x2D => (0, tile, 4)
  | 0x2E => (0, if p = 3 then 2 else 1, 2)
  | 0x2F => (0, if p = 3 then 2 else 1, 2)
  | 0x20 => (2, 1, 1)
  | 0x21 => (2, ceilDiv e.vl (if p = 3 then 6 else 8), 8)
  | 0x22 => (2, ceilDiv e.vl (if p = 3 then 6 else 8), 8)
  | 0x23 => (2, 1, 24)
  | 0x30 => if k = 5 then (2, 1, 24) else if k = 6 then (2, 1, 40) else (0, a, 6 * lg2 e.vl + 4)
  | 0x31 => (3, 0, 0)
  | 0x32 => (3, 0, 0)
  | _ => (0, a, 2)

/-- The offsets and lengths that a memory instruction touches. -/
def VxEnv.spans (e : VxEnv) (s : State) : List (Nat × Nat) :=
  if e.q.op = 0x28 ∨ e.q.op = 0x29 then (List.range 64).map fun r => ((e.q.base + r * e.q.stride) % 2 ^ 64, 256)
  else if 0x02 ≤ e.q.op ∧ e.q.op ≤ 0x08 then (e.addrs s).map fun p => (p.2, e.w / 8)
  else []

/-- Two lists of spans share a byte. -/
def spansMeet (a b : List (Nat × Nat)) : Bool := a.any fun x => b.any fun y => decide (x.1 < y.1 + y.2 ∧ y.1 < x.1 + x.2)

/-- A store, scatter, scatter-add or tile store. -/
def VxQ.stores (q : VxQ) : Bool := q.op ∈ [0x03, 0x05, 0x07, 0x08, 0x29]

/-- The first cycle in which the pipe, order, earlier stores and lends let an instruction start (R145, R165, R166). -/
def VxEnv.floor (e : VxEnv) (s : State) : Nat :=
  let c := e.cost s
  let pf := fun j => s.vr .VX_PIPE e.t j
  let hold := (s.parts.vxStores.at e.t).foldl (fun m x => if spansMeet x.2 (e.spans s) then max m (x.1 + 1) else m) 0
  let base := max (max (e.q.issued + 2) (s.vr .VX_FLOOR e.t)) (max hold (s.vr .VX_PREV e.t + 1))
  if c.1 < 3 then max base (pf c.1)
  else if e.q.op = 0x32 then max base (max (pf 0) (max (pf 1) (pf 2)))
  else max base (s.vr .VX_LAST e.t)

/-- The same with the registers it reads and writes (R145). -/
def VxEnv.depend (e : VxEnv) (s : State) : Nat :=
  let r := e.regs
  let m := r.1.foldl (fun m x => max m (s.vr .VX_READY e.t x)) (e.floor s)
  let m := r.2.1.foldl (fun m x => max m (s.vr .VX_REND e.t x)) m
  r.2.2.foldl (fun m x => max m (s.vr .VX_READY e.t x)) m

/-- What an instruction of the queue meets now. -/
def State.vxEnv (s : State) (t : Nat) (q : VxQ) : VxEnv :=
  let vl := s.rd .VX_VTYPE_VL t
  let e : VxEnv := ⟨t, q, vl, s.rd .VX_VTYPE_SEW t, s.vActive t vl q.m, false⟩
  { e with spec := q.marked || e.regs.1.any (s.vMark t) }

/-- A store that R169 holds: a source or base is marked and some byte lies outside the caldera. -/
def VxEnv.held (e : VxEnv) (s : State) : Bool :=
  e.q.stores && e.spec && (e.spans s).any fun x => !s.insideCaldera e.t x.1 x.2

/-- Errors of the register words that an instruction reads are corrected and counted, or poison their 64 B (R168). -/
def vxScrub (t : Nat) (regs : List Nat) : Plan := fun s =>
  let words := regs.flatMap fun r =>
    if r < 32 then (List.range 128).map (128 * r + ·) else if r < 40 then (List.range 2048).map (4096 + 2048 * (r - 32) + ·) else []
  let bad := words.filter fun j => s.vr .VX_BAD t j != 0
  if bad = [] then [] else
  let unc := bad.filter fun j => s.vr .VX_BAD t j == 2
  (bad.map fun j => wv .VX_BAD 0 t j) ++ (unc.map fun j => wv .VX_POIS 1 t (j / 8))
  ++ [bump s .VX_ERR_UNCORR unc.length t, bump s .VX_ERR_CORR (bad.length - unc.length) t]

/-- The instruction leaves the queue and takes its place in the recurrence, starting now (R145). -/
def vxTake (e : VxEnv) : Plan := fun s =>
  let c := e.cost s
  let t := e.t
  let st := s.clock
  let r := e.regs
  let stop := st + c.2.1
  let last := if e.q.stores then stop + 8 else if c.1 = 3 then st else stop + c.2.2
  let busy := max (s.vr .VX_PIPE t 0) (max (s.vr .VX_PIPE t 1) (s.vr .VX_PIPE t 2))
  let live := (s.parts.vxStores.at t).filter fun x => decide (st ≤ x.1)
  plans [fun s => setVq t ((s.parts.vq.at t).drop 1) s, fun s =>
    [wv .VX_PREV st t, wv .VX_LAST (max (s.vr .VX_LAST t) last) t, wr .VX_STAT_SPEC_HOLD 0 t,
     wv .VX_LASTN (if e.q.win then s.vr .VX_LASTN t else max (s.vr .VX_LASTN t) last) t,
     bump s .VX_STALL_DEP (e.depend s - e.floor s) t,
     bump s .VX_STALL_SPEC (if s.rd .VX_STAT_SPEC_HOLD t = 1 then s.vr .SPEC_RELEASE t - e.depend s else 0) t]
    ++ (if c.1 < 3 then [wv .VX_PIPE stop t c.1, bumpWrap s .VX_BUSY_CYC_COUNT (stop - max st busy) t] else [])
    ++ (r.1.map fun x => wv .VX_REND (max (s.vr .VX_REND t x) stop) t x)
    ++ (r.2.1.map fun x => wv .VX_READY (stop + c.2.2) t x)
    ++ [.parts fun p => { p with vxStores := p.vxStores.set t (live ++ if e.q.stores then [(stop + 8, e.spans s)] else []) }]] s

/-- A summary or mark ends: its slot, if it writes one, and its counter (R163, R165). -/
def vxReport (t : Nat) (d : VxDone) : Plan := plans
  [match d.slot with | some sl => putSummary t sl d.status 7 0 d.val0 d.val1 d.cycles d.spec | none => fun _ => [],
   countInc t d.counter]

/-- A mark's record begins again. -/
def vxMarkClear (t : Nat) : List Act :=
  [wv .VX_MFLAGS 0 t, wv .VX_MDISC 0 t, .parts fun p => { p with vxPois := p.vxPois.set t [] }]

/-- An instruction that reaches the head in OFF with no enable latched (R170, R189). -/
def vxDiscard (t : Nat) (q : VxQ) : Plan := plans
  [fun s => setVq t ((s.parts.vq.at t).drop 1) s,
   fun s =>
    if q.op = 0x30 then vxReport t ⟨s.clock, q.fn, some q.vd, 0x85, 0, 0, 0, false⟩ s
    else if q.op = 0x31 then
      vxReport t ⟨s.clock, q.fn, if testB q.vs2 0 then some q.vd else none, 0x85, 0, 0, 0, false⟩ s ++ vxMarkClear t
    else
      [bump s .VX_ERR_OFF_DISCARD 1 t, wv .VX_MDISC 1 t]
      ++ (if q.op = 0x32 then [wv .LENDS (s.vr .LENDS t + 1) t,
            .parts fun p => { p with lendsOff := p.lendsOff.set t (p.lendsOff.at t ++ [s.vr .LENDS t]) }] else [])]

/-- The function state lets the head of the queue go on (R170): ON, or DRAINING with an instruction issued before the disable. -/
def State.vxOn (s : State) (t : Nat) (q : VxQ) : Bool :=
  s.rd .VX_STAT_FSTATE t == 2 || (s.rd .VX_STAT_FSTATE t == 3 && decide (q.issued < s.vr .FUNC_DIS_AT t 0))

/-- The head of the queue is carried out by its own command. In OFF it is discarded; a held store only shows that it is held; and
before its cycle of R145, or while lent, nothing happens. With VL = 0 only tile instructions, setvl, mark, lend, summaries and
accumulator reads act (R141). -/
def vxRun (t op : Nat) (body : VxEnv → Plan) : Plan := fun s =>
  match s.parts.vq.at t with
  | [] => []
  | q :: _ =>
    if q.op ≠ op ∨ ¬ s.domOn t then []
    else if s.rd .VX_STAT_FSTATE t = 0 ∧ s.rd .VX_STAT_PEND_EN t = 0 then vxDiscard t q s
    else if ¬ s.vxOn t q ∨ s.rd .VX_STAT_LENT t = 1 then []
    else
      let e := s.vxEnv t q
      if e.held s then [wr .VX_STAT_SPEC_HOLD 1 t]
      else if s.clock < max (e.depend s) (if s.rd .VX_STAT_SPEC_HOLD t = 1 then s.vr .SPEC_RELEASE t else 0) then []
      else
        let idle := e.vl == 0 && !(q.op ∈ [0x00, 0x23, 0x30, 0x31, 0x32]) && !decide (0x28 ≤ q.op ∧ q.op ≤ 0x2F)
        plans [vxScrub t e.regs.1, vxTake e, if idle then fun _ => [] else body e] s

/-! ### Vector length, scalars and memory (R141, R144, R147 to R150, R167) -/

/-- vx.setvl (R141). -/
def execVxSetvl (tile : Tile) (s : State) : Outcome State Fault Refusal :=
  .next <| s.perform <| vxRun tile 0x00 fun e _ =>
    let code := e.q.vs1 % 16
    [wr .VX_VTYPE_SEW code tile, wr .VX_VTYPE_VL (min e.q.base (vlMax code)) tile]
    ++ (if vlMax code < e.q.base then [wr .VX_STAT_VL_CLIP 1 tile] else [])

/-- An element-wise result: one value and its flags for each active element, poisoned where a source is. -/
def vxMap (e : VxEnv) (srcs : List Nat) (wo : Nat) (f : Nat → List Nat → Nat × Nat) : Plan := fun s =>
  let rs := e.act.map fun i =>
    let r := f i (srcs.map fun x => s.vEl e.t x i e.w)
    (i, r.1 % 2 ^ wo, srcs.any fun x => s.vPois e.t x i e.w, r.2)
  plans [vxWrite e.t e.q.vd wo (rs.map fun r => (r.1, r.2.1, r.2.2.1)) e.spec,
    vxFlags e.t (rs.foldl (fun m r => m ||| r.2.2.2) 0)] s

/-- vx.bcast (R144). -/
def execVxBcast (tile : Tile) (s : State) : Outcome State Fault Refusal :=
  .next <| s.perform <| vxRun tile 0x01 fun e => vxMap e [] e.w fun _ _ => (e.q.base, 0)

/-- Some address of an access lies beyond the tile store (R150). -/
def vxOutside (e : VxEnv) : Plan := fun s =>
  if (e.addrs s).length < e.act.length then [wr .VX_STAT_IDX_OOR 1 e.t] else []

/-- Loads of elements one by one; one access of a granule by a group of eight charges once (R149, R293). -/
def vxLoadElems (e : VxEnv) (spec : Bool) : Plan := fun s =>
  let l := e.addrs s
  let nb := e.w / 8
  let reads := l.map fun p => (p.1, s.readTs e.t p.2 nb)
  let notes := (groups8 (reads.length + 1) reads).flatMap fun g =>
    [(⟨[], [], (g.flatMap fun r => r.2.corr).eraseDups, (g.flatMap fun r => r.2.unc).eraseDups⟩ : Rd)]
  plans [vxOutside e, planAll notes noteRead,
    vxWrite e.t e.q.vd e.w (reads.map fun r => (r.1, leNat r.2.data, !r.2.bad.isEmpty)) spec] s

/-- The access reads the caldera of an open window (R169). -/
def VxEnv.fromCaldera (e : VxEnv) (s : State) : Bool :=
  s.window e.t && (e.spans s).any fun x => s.touchesCaldera e.t x.1 x.2

/-- vx.ld: one contiguous read (R147). -/
def vxLoad (e : VxEnv) : Plan := fun s =>
  let r := s.readTs e.t e.q.base (e.vl * (e.w / 8))
  let bad := r.bad.map (· - storeBase e.t)
  plans [noteRead r, vxWrite e.t e.q.vd e.w (e.act.map fun i =>
      let a := e.q.base + i * (e.w / 8)
      (i, leNat ((r.data.drop (i * (e.w / 8))).take (e.w / 8)), bad.contains (a / 64 * 64))) (e.spec || e.fromCaldera s)] s

/-- vx.ld. -/
def execVxLd (tile : Tile) (s : State) : Outcome State Fault Refusal :=
  .next <| s.perform <| vxRun tile 0x02 vxLoad

/-- vx.lds. -/
def execVxLds (tile : Tile) (s : State) : Outcome State Fault Refusal :=
  .next <| s.perform <| vxRun tile 0x04 fun e s => vxLoadElems e (e.spec || e.fromCaldera s) s

/-- A poisoned element of the index vector, over the active elements. -/
def VxEnv.badIndex (e : VxEnv) (s : State) : Bool := e.act.any fun i => s.vPois e.t e.q.vs1 i 32

/-- vx.gather: a poisoned index poisons the whole destination (R167). -/
def execVxGather (tile : Tile) (s : State) : Outcome State Fault Refusal :=
  .next <| s.perform <| vxRun tile 0x06 fun e s =>
    vxLoadElems e (e.spec || e.fromCaldera s) s ++ (if e.badIndex s then vxPoisonAll e.t e.q.vd else [])

/-- One run of bytes of a store goes to tile store; a poisoned one is recorded for the next mark (R165, R167). -/
def vxStoreRun (t off : Nat) (bs : List Byte) (pois : Bool) : Plan := fun s =>
  let gs := (granules off bs.length).map fun p => p.1 / 64 * 64
  writeTs t off bs (if pois then gs.map (· + storeBase t) else []) s
  ++ (if pois then [wr .VX_STAT_POISON 1 t,
        .parts fun p => { p with vxPois := p.vxPois.set t ((p.vxPois.at t ++ gs).eraseDups) }] else [])

/-- Consecutive elements inside one granule are one run. -/
def vxRuns (nb : Nat) : List (Nat × Nat × Bool) → List (Nat × List Byte × Bool)
  | [] => []
  | (a, x, p) :: t =>
    match vxRuns nb t with
    | (b, bs, p') :: r =>
      if a + nb = b ∧ b % 64 ≠ 0 ∧ p = p' then (a, leBytes nb x ++ bs, p) :: r else (a, leBytes nb x, p) :: (b, bs, p') :: r
    | [] => [(a, leBytes nb x, p)]

/-- The elements of VD and where they go. -/
def VxEnv.stored (e : VxEnv) (s : State) : List (Nat × Nat × Bool) :=
  (e.addrs s).map fun p => (p.2, s.vEl e.t e.q.vd p.1 e.w, s.vPois e.t e.q.vd p.1 e.w)

/-- A store of the active elements, the highest index last (R150). -/
def vxStore (e : VxEnv) : Plan := fun s =>
  plans [vxOutside e, planAll (vxRuns (e.w / 8) (e.stored s)) fun r => vxStoreRun e.t r.1 r.2.1 r.2.2] s

/-- vx.st. -/
def execVxSt (tile : Tile) (s : State) : Outcome State Fault Refusal :=
  .next <| s.perform <| vxRun tile 0x03 vxStore

/-- vx.sts. -/
def execVxSts (tile : Tile) (s : State) : Outcome State Fault Refusal :=
  .next <| s.perform <| vxRun tile 0x05 vxStore

/-- The elements of a scatter whose index carries no poison; the others are counted (R167). -/
def VxEnv.scattered (e : VxEnv) (s : State) : List (Nat × Nat × Bool) :=
  ((e.addrs s).filter fun p => !s.vPois e.t e.q.vs1 p.1 32).map fun p =>
    (p.2, s.vEl e.t e.q.vd p.1 e.w, s.vPois e.t e.q.vd p.1 e.w)

/-- The count of skipped elements. -/
def vxSkip (e : VxEnv) : Plan := fun s =>
  [bump s .VX_ERR_IDX_SKIP ((e.addrs s).length - (e.scattered s).length) e.t]

/-- vx.scatter. -/
def execVxScatter (tile : Tile) (s : State) : Outcome State Fault Refusal :=
  .next <| s.perform <| vxRun tile 0x07 fun e s =>
    plans [vxOutside e, vxSkip e, planAll (e.scattered s) fun r => vxStoreRun e.t r.1 (leBytes (e.w / 8) r.2.1) r.2.2] s

/-- One element of a scatter-add (R150). -/
def vxAddInto (e : VxEnv) (a x : Nat) (pois : Bool) : Plan := fun s =>
  let r := s.readTs e.t a (e.w / 8)
  let v := vxArith e.sew 0 (s.vxRM e.t) (leNat r.data) x 0
  plans [noteRead r, vxFlags e.t v.2, vxStoreRun e.t a (leBytes (e.w / 8) v.1) (pois || !r.bad.isEmpty)] s

/-- vx.scatadd. -/
def execVxScatadd (tile : Tile) (s : State) : Outcome State Fault Refusal :=
  .next <| s.perform <| vxRun tile 0x08 fun e s =>
    plans [vxOutside e, vxSkip e, planAll (e.scattered s) fun r => vxAddInto e r.1 r.2.1 r.2.2] s

/-! ### Arithmetic (R151 to R157) -/

/-- vx.arith. -/
def execVxArith (tile : Tile) (s : State) : Outcome State Fault Refusal :=
  .next <| s.perform <| vxRun tile 0x10 fun e s =>
    let srcs := e.q.vs1 :: (if e.q.fn = 7 then [] else [e.q.vs2]) ++ (if e.q.fn = 3 then [e.q.vd] else [])
    vxMap e srcs e.w (fun _ x => vxArith e.sew e.q.fn (s.vxRM tile) (x.getD 0 0) (x.getD 1 0) (x.getD 2 0)) s

/-- vx.logic. -/
def execVxLogic (tile : Tile) (s : State) : Outcome State Fault Refusal :=
  .next <| s.perform <| vxRun tile 0x11 fun e =>
    vxMap e [e.q.vs1, e.q.vs2] e.w fun _ x => (vxLogic e.q.fn e.w (x.getD 0 0) (x.getD 1 0), 0)

/-- vx.cmp: bits of active elements, zeros from VL on, the others as they were. -/
def vxCmp (e : VxEnv) : Plan := fun s =>
  let rs := e.act.map fun i => (i, vxCompare e.sew e.q.fn (s.vEl e.t e.q.vs1 i e.w) (s.vEl e.t e.q.vs2 i e.w),
    s.vPois e.t e.q.vs1 i e.w || s.vPois e.t e.q.vs2 i e.w)
  let old := s.num (vreg e.t e.q.vd) 1024 % 2 ^ e.vl
  let new := rs.foldl (fun m r => if r.2.1.1 then setB m r.1 else clrB m r.1) old
  let kept := fun g => (List.range e.vl).any fun i => i / 512 == g && !e.act.contains i
  putNum (vreg e.t e.q.vd) 1024 new
  ++ (List.range 16).flatMap (fun g =>
      if rs.any fun r => r.2.2 && r.1 / 512 == g then [wv .VX_POIS 1 e.t (16 * e.q.vd + g)]
      else if kept g then [] else [wv .VX_POIS 0 e.t (16 * e.q.vd + g)])
  ++ (if e.spec then [wv .MARK_VX 1 e.t e.q.vd]
      else if e.act.length = e.vl then [wv .MARK_VX 0 e.t e.q.vd] else [])
  ++ vxFlags e.t (rs.foldl (fun m r => m ||| r.2.1.2) 0) s

/-- vx.cmp. -/
def execVxCmp (tile : Tile) (s : State) : Outcome State Fault Refusal :=
  .next <| s.perform <| vxRun tile 0x12 vxCmp

/-- vx.sel (R144). -/
def execVxSel (tile : Tile) (s : State) : Outcome State Fault Refusal :=
  .next <| s.perform <| vxRun tile 0x13 fun e s =>
    vxMap e [e.q.vs1, e.q.vs2] e.w (fun i x => (if s.v0Bit tile i then x.getD 0 0 else x.getD 1 0, 0)) s

/-- The draws of a stochastic cvt: ceil(VL / 2) outputs of its slot, or zeros and an error flag where the slot does not serve the
engine (R155, R232, R233). -/
def vxDraws (t vl : Nat) (s : State) : List Nat × List Act :=
  let sl := s.rd .VX_RNSEL_STREAM t % 4
  if s.rd .RN_SLOT_CTL_STATE t sl ≠ 1 then ([], rnUnbound t s)
  else if s.rd .RN_SLOT_CTL_OWNER t sl = 0 ∨ s.rnBusy t sl then ([], rnNotOwner t s)
  else rnDraws t sl (ceilDiv vl 2) s

/-- vx.cvt (R153 to R155, R236). -/
def vxCvt (e : VxEnv) : Plan := fun s =>
  let dst := e.q.vs2 % 16
  let stoch := e.q.fn % 4 == 2 && ((sewFmt e.sew).isSome || (sewFmt dst).isSome)
  let d := if stoch then vxDraws e.t e.vl s else ([], [])
  let pois := stoch && d.1 ≠ [] && s.rd .RN_SLOT_CTL_POISON e.t (s.rd .VX_RNSEL_STREAM e.t % 4) == 1
  let rm := fun (i : Nat) => match e.q.fn % 4 with
    | 0 => s.vxRM e.t
    | 1 => RMode.ne
    | 2 => RMode.stoch (bitsOf (d.1.getD (i / 2) 0) (32 * (i % 2) + 31) (32 * (i % 2)))
    | _ => RMode.tz
  plans [vxMap e [e.q.vs1] (sewBits dst) fun i x => vxConvert e.sew dst (rm i) (s.rd .VX_CTL_SAT8 e.t == 1) (x.getD 0 0),
    fun _ => d.2 ++ (if pois then (e.act.map fun i => wv .VX_POIS 1 e.t (16 * e.q.vd + i * sewBits dst / 512)) else [])] s

/-- vx.cvt. -/
def execVxCvt (tile : Tile) (s : State) : Outcome State Fault Refusal :=
  .next <| s.perform <| vxRun tile 0x14 vxCvt

/-- vx.wmul. -/
def execVxWmul (tile : Tile) (s : State) : Outcome State Fault Refusal :=
  .next <| s.perform <| vxRun tile 0x15 fun e s =>
    vxMap e [e.q.vs1, e.q.vs2] (2 * e.w) (fun _ x => vxWiden e.sew (s.vxRM tile) (x.getD 0 0) (x.getD 1 0)) s

/-- vx.dot: lane i takes the elements from i × n on, n to a lane (R156). -/
def vxDot (e : VxEnv) : Plan := fun s =>
  let n := if e.sew = 0 then 4 else 2
  let el := fun r i => s.vEl e.t r i e.w
  let rs := ((List.range (e.vl / n)).filter fun i => !e.q.m || s.v0Bit e.t i).map fun i =>
    let c := s.vEl e.t e.q.vd i 32
    let r := match sewFmt e.sew with
      | some g => dotLane g (s.vxRM e.t) (el e.q.vs1 (2 * i)) (el e.q.vs2 (2 * i)) (el e.q.vs1 (2 * i + 1)) (el e.q.vs2 (2 * i + 1)) c
      | none => (dotInt ((List.range 4).map fun j => (el e.q.vs1 (4 * i + j), el e.q.vs2 (4 * i + j))) c, 0)
    (i, r.1, s.vPois e.t e.q.vd i 32 || (List.range n).any fun j =>
      s.vPois e.t e.q.vs1 (n * i + j) e.w || s.vPois e.t e.q.vs2 (n * i + j) e.w, r.2)
  plans [vxWrite e.t e.q.vd 32 (rs.map fun r => (r.1, r.2.1, r.2.2.1)) e.spec,
    vxFlags e.t (rs.foldl (fun m r => m ||| r.2.2.2) 0)] s

/-- vx.dot. -/
def execVxDot (tile : Tile) (s : State) : Outcome State Fault Refusal :=
  .next <| s.perform <| vxRun tile 0x16 vxDot

/-- Elements moved within registers: a poisoned source poisons the whole destination (R167). -/
def vxMove (e : VxEnv) (srcs : List Nat) (f : State → Nat → Nat) : Plan := fun s =>
  let bad := (List.range e.vl).any fun i => srcs.any fun r => s.vPois e.t r i e.w
  vxWrite e.t e.q.vd e.w (e.act.map fun i => (i, f s i, false)) e.spec s ++ (if bad then vxPoisonAll e.t e.q.vd else [])

/-- vx.perm (R144). -/
def execVxPerm (tile : Tile) (s : State) : Outcome State Fault Refusal :=
  .next <| s.perform <| vxRun tile 0x17 fun e => vxMove e [e.q.vs1, e.q.vs2] fun s i =>
    let k := s.vEl tile e.q.vs2 i e.w
    if k < e.vl then s.vEl tile e.q.vs1 k e.w else 0

/-- vx.slide (R144). -/
def execVxSlide (tile : Tile) (s : State) : Outcome State Fault Refusal :=
  .next <| s.perform <| vxRun tile 0x18 fun e => vxMove e [e.q.vs1] fun s i =>
    let k : Int := i - toSigned 64 e.q.base
    if 0 ≤ k ∧ k < e.vl then s.vEl tile e.q.vs1 k.toNat e.w else 0

/-- The reduction of the active elements of a register (R157). -/
def VxEnv.reduced (e : VxEnv) (s : State) (fn : Nat) : Nat × Nat :=
  reduce e.sew fn (s.vxRM e.t) e.vl fun i => if e.act.contains i then some (s.vEl e.t e.q.vs1 i e.w) else none

/-- A poison mark touches an active element of VS1. -/
def VxEnv.badSource (e : VxEnv) (s : State) : Bool := e.act.any fun i => s.vPois e.t e.q.vs1 i e.w

/-- vx.red (R157, R167). -/
def execVxRed (tile : Tile) (s : State) : Outcome State Fault Refusal :=
  .next <| s.perform <| vxRun tile 0x19 fun e s =>
    let r := e.reduced s e.q.fn
    plans [vxWrite tile e.q.vd e.w [(0, r.1, false)] e.spec, vxFlags tile r.2,
      fun _ => if e.badSource s then vxPoisonAll tile e.q.vd else []] s

/-! ### Long accumulators (R158, R159) -/

/-- vx.xclr. -/
def execVxXclr (tile : Tile) (s : State) : Outcome State Fault Refusal :=
  .next <| s.perform <| vxRun tile 0x20 fun e _ =>
    putLongAcc tile e.q.lad ⟨0, false, false, false, false, 0⟩ ++ [wv .MARK_VX 0 tile (40 + e.q.lad)]

/-- An accumulation of one value for each active element. -/
def vxAccumulate (e : VxEnv) (val : Fmt → Nat → Option FV) (bad : Nat → Bool) : Plan := fun s =>
  match sewFmt e.sew with
  | none => []
  | some f => putLongAcc e.t e.q.lad (e.act.foldl (fun a i => a.add (val f i) (bad i)) (s.longAcc e.t e.q.lad))
      ++ (if e.spec then [wv .MARK_VX 1 e.t (40 + e.q.lad)] else [])

/-- vx.xdot. -/
def execVxXdot (tile : Tile) (s : State) : Outcome State Fault Refusal :=
  .next <| s.perform <| vxRun tile 0x21 fun e s =>
    vxAccumulate e (fun f i => (f.decode (s.vEl tile e.q.vs1 i e.w)).mul (f.decode (s.vEl tile e.q.vs2 i e.w)))
      (fun i => s.vPois tile e.q.vs1 i e.w || s.vPois tile e.q.vs2 i e.w) s

/-- vx.xsum. -/
def execVxXsum (tile : Tile) (s : State) : Outcome State Fault Refusal :=
  .next <| s.perform <| vxRun tile 0x22 fun e s =>
    vxAccumulate e (fun f i => some (f.decode (s.vEl tile e.q.vs1 i e.w))) (fun i => s.vPois tile e.q.vs1 i e.w) s

/-- vx.xrd: one element or a pair, whatever VL and the mask (R141, R159). -/
def execVxXrd (tile : Tile) (s : State) : Outcome State Fault Refusal :=
  .next <| s.perform <| vxRun tile 0x23 fun e s =>
    let a := s.longAcc tile (e.q.vs1 % 4)
    let lo := if e.q.fn = 1 then [(1, a.readLo.1, a.pois)] else []
    plans [vxWrite tile e.q.vd 64 ((0, a.read.1, a.pois) :: lo) e.spec,
      vxFlags tile (a.read.2 ||| (if e.q.fn = 1 then a.readLo.2 else 0))] s

/-! ### Tile registers (R161, R162) -/

/-- The columns of a tile register at an element width. -/
def VxEnv.cols (e : VxEnv) : Nat := 2048 / e.w

/-- All elements of a tile register in row order. -/
def VxEnv.cells (e : VxEnv) : List Nat := List.range (64 * e.cols)

/-- vx.tld: 64 rows. -/
def execVxTld (tile : Tile) (s : State) : Outcome State Fault Refusal :=
  .next <| s.perform <| vxRun tile 0x28 fun e s =>
    let rows := (e.spans s).map fun x => s.readTs tile x.1 x.2
    let spec := e.spec || e.fromCaldera s
    plans [planAll rows noteRead, fun _ =>
      (rows.zipIdx.flatMap fun (r, k) =>
        putBytes (treg tile e.q.td + 256 * k) r.data
        ++ (List.range 4).map fun g =>
          let o := (e.q.base + k * e.q.stride) % 2 ^ 64 + 64 * g
          wv .VX_POIS (if r.bad.contains (storeBase tile + o) then 1 else 0) tile (512 + 256 * e.q.td + 4 * k + g))
      ++ [wv .MARK_VX (if spec then 1 else 0) tile (32 + e.q.td)]] s

/-- vx.tst: 64 rows. -/
def execVxTst (tile : Tile) (s : State) : Outcome State Fault Refusal :=
  .next <| s.perform <| vxRun tile 0x29 fun e s =>
    planAll (List.range 256) (fun k => vxStoreRun tile ((e.q.base + k / 4 * e.q.stride) % 2 ^ 64 + 64 * (k % 4))
      (s.bytes (treg tile e.q.td + 64 * k) 64) (s.vr .VX_POIS tile (512 + 256 * e.q.td + k) == 1)) s

/-- A tile operation element by element. -/
def vxTile (e : VxEnv) (f : Nat → Nat × Nat) (bad : Nat → Bool) : Plan :=
  let rs := e.cells.map fun n => (n, f n)
  plans [vxWriteTile e.t e.q.td e.w (rs.map fun r => (r.1, r.2.1, bad r.1)) e.spec,
    vxFlags e.t (rs.foldl (fun m r => m ||| r.2.2) 0)]

/-- The function codes of tbc and tred as those of arith: tbc has no fma. -/
def tileFn (fn : Nat) : Nat := if 3 ≤ fn then fn + 1 else fn

/-- vx.tbc: a poisoned vector poisons the whole tile (R162, R167). -/
def execVxTbc (tile : Tile) (s : State) : Outcome State Fault Refusal :=
  .next <| s.perform <| vxRun tile 0x2A fun e s =>
    let vi := fun n => if testB e.q.fn 3 then n / e.cols else n % e.cols
    let vbad := (List.range (if testB e.q.fn 3 then 64 else e.cols)).any fun i => s.vPois tile e.q.vs1 i e.w
    vxTile e (fun n => vxArith e.sew (tileFn (e.q.fn % 8)) (s.vxRM tile) (s.tEl tile e.q.td n e.w) (s.vEl tile e.q.vs1 (vi n) e.w) 0)
      (fun n => vbad || s.tPois tile e.q.td n e.w) s

/-- vx.tew. -/
def execVxTew (tile : Tile) (s : State) : Outcome State Fault Refusal :=
  .next <| s.perform <| vxRun tile 0x2B fun e s =>
    let a := e.q.vs1 % 8
    let b := e.q.vs2 % 8
    vxTile e (fun n => vxArith e.sew e.q.fn (s.vxRM tile) (s.tEl tile a n e.w) (s.tEl tile b n e.w) (s.tEl tile e.q.td n e.w))
      (fun n => s.tPois tile a n e.w || s.tPois tile b n e.w || (e.q.fn == 3 && s.tPois tile e.q.td n e.w)) s

/-- vx.tred: each row or column reduced by the tree of R157. -/
def execVxTred (tile : Tile) (s : State) : Outcome State Fault Refusal :=
  .next <| s.perform <| vxRun tile 0x2C fun e s =>
    let k := e.q.vs1 % 8
    let byCol := testB e.q.fn 2
    let rs := (List.range (if byCol then e.cols else 64)).map fun i =>
      (i, reduce e.sew (e.q.fn % 4) (s.vxRM tile) (if byCol then 64 else e.cols) fun j =>
        some (s.tEl tile k (if byCol then j * e.cols + i else i * e.cols + j) e.w))
    plans [vxWrite tile e.q.vd e.w (rs.map fun r => (r.1, r.2.1, false)) e.spec,
      vxFlags tile (rs.foldl (fun m r => m ||| r.2.2) 0),
      fun _ => if (List.range 256).any fun g => s.vr .VX_POIS tile (512 + 256 * k + g) == 1 then vxPoisonAll tile e.q.vd else []] s

/-- vx.ttr: the transpose of a tile of 64 × 64; any poison poisons it all. -/
def execVxTtr (tile : Tile) (s : State) : Outcome State Fault Refusal :=
  .next <| s.perform <| vxRun tile 0x2D fun e s =>
    let bad := (List.range 256).any fun g => s.vr .VX_POIS tile (512 + 256 * e.q.td + g) == 1
    vxTile e (fun n => (s.tEl tile e.q.td (n % 64 * 64 + n / 64) e.w, 0)) (fun _ => bad) s

/-- vx.trow: a row of a tile goes to VD. -/
def execVxTrow (tile : Tile) (s : State) : Outcome State Fault Refusal :=
  .next <| s.perform <| vxRun tile 0x2E fun e s =>
    let k := e.q.vs1 % 8
    let r0 := e.q.base % 64 * e.cols
    vxWrite tile e.q.vd e.w ((List.range e.cols).map fun i => (i, s.tEl tile k (r0 + i) e.w, s.tPois tile k (r0 + i) e.w)) e.spec s

/-- vx.tput: VS1 goes to a row of a tile. -/
def execVxTput (tile : Tile) (s : State) : Outcome State Fault Refusal :=
  .next <| s.perform <| vxRun tile 0x2F fun e s =>
    let r0 := e.q.base % 64 * e.cols
    vxWriteTile tile e.q.td e.w ((List.range e.cols).map fun i => (r0 + i, s.vEl tile e.q.vs1 i e.w, s.vPois tile e.q.vs1 i e.w))
      e.spec s

/-! ### Summaries, marks and lends (R163 to R166) -/

/-- All ones: no such index. -/
def noIndex : Nat := 2 ^ 64 - 1

/-- A value of 32 bits or less widened exactly; NaN widens to the canonical NaN (Table 6.6). -/
def widen64 (sew v : Nat) : Nat :=
  match sewFmt sew with
  | some f => (Fmt.fp64.convert f .ne false v).1
  | none => ofSigned 64 (toSigned (sewBits sew) v)

/-- The magnitude of an element: its encoding without the sign, or the absolute value (Table 6.6). -/
def magOf (sew v : Nat) : Nat :=
  match sewFmt sew with
  | some f => v % 2 ^ (f.ew + f.mw)
  | none => (toSigned (sewBits sew) v).natAbs

/-- The result of a summary function over elements: status, VAL0, VAL1 and the flags it raises (R163, R164). -/
def VxEnv.summary (e : VxEnv) (s : State) : Nat × Nat × Nat × Nat :=
  let k := e.q.vs2 % 8
  let el := e.act.map fun i => (i, s.vEl e.t e.q.vs1 i e.w)
  let dec := fun v => (sewFmt e.sew).map fun f => f.decode v
  let bad := fun v => match dec v with | some (.fin _ _ _) => false | some _ => true | none => false
  let nan := fun v => match dec v with | some (.nan _) => true | _ => false
  let firstOf := fun (p : Nat → Bool) => match el.find? fun x => p x.2 with | some x => x.1 | none => noIndex
  let anyNan := el.any fun x => nan x.2
  let st := if e.badSource s then 0x40 else if k ≤ 3 ∧ el.any (fun x => bad x.2) then 0x24 else 0
  let r : Nat × Nat × Nat :=
    match k with
    | 0 => let r := e.reduced s 0; (widen64 e.sew r.1, 0, r.2)
    | 3 =>
      let top := el.foldl (fun m x => max m (magOf e.sew x.2)) 0
      if anyNan then (Fmt.fp64.nan, firstOf nan, 0)
      else ((match sewFmt e.sew with | some _ => widen64 e.sew top | none => top), firstOf fun v => magOf e.sew v == top, 0)
    | 4 => ((el.filter fun x => bad x.2).length, firstOf bad, 0)
    | _ => let r := e.reduced s k; (widen64 e.sew r.1, if anyNan then firstOf nan else firstOf (· == r.1), r.2)
  if st = 0x40 then (st, 0, 0, r.2.2) else (st, r.1, r.2.1, r.2.2)

/-- The result of a summary of an accumulator (R159, R164). -/
def LongAcc.summary (a : LongAcc) (root : Bool) : Nat × Nat × Nat × Nat :=
  let r := if root then a.root else a.read
  if a.pois then (0x40, 0, 0, r.2)
  else (if a.flagged then 0x24 else if root ∧ a.v < 0 then 0x25 else 0, r.1, a.count, r.2)

/-- vx.summ starts: its result is reported at st + o + d (R163). -/
def execVxSumm (tile : Tile) (s : State) : Outcome State Fault Refusal :=
  .next <| s.perform <| vxRun tile 0x30 fun e s =>
    let k := e.q.vs2 % 8
    let c := e.cost s
    let r := if 5 ≤ k then (s.longAcc tile (e.q.vs1 % 4)).summary (k == 6) else e.summary s
    let d : VxDone := ⟨s.clock + c.2.1 + c.2.2, e.q.fn, some e.q.vd, r.1, r.2.1, r.2.2.1, c.2.1 + c.2.2, e.spec⟩
    plans [vxFlags tile r.2.2.2, fun _ => [.parts fun p => { p with vxDone := p.vxDone.set tile (p.vxDone.at tile ++ [d]) }]] s

/-- A summary that is due writes its slot and its counter (R163). -/
def vxSummaryDone (t : Nat) : Plan := fun s =>
  match (s.parts.vxDone.at t).find? fun d => decide (d.done ≤ s.clock) with
  | none => []
  | some d => plans [fun _ => [.parts fun p => { p with vxDone := p.vxDone.set t ((p.vxDone.at t).erase d) }], vxReport t d] s

/-- A summary completes. -/
def execVxSummaryComplete (tile : Tile) (s : State) : Outcome State Fault Refusal :=
  .next <| s.perform (vxSummaryDone tile)

/-- vx.mark: after every earlier completion it counts, and with VS2[0] reports (R165). -/
def execVxMark (tile : Tile) (s : State) : Outcome State Fault Refusal :=
  .next <| s.perform <| vxRun tile 0x31 fun e s =>
    let n := (s.parts.vxPois.at tile).length
    let st := if s.vr .VX_MDISC tile = 1 then 0x85 else if n ≠ 0 then 0x40 else 0
    vxReport tile ⟨s.clock, e.q.fn, if testB e.q.vs2 0 then some e.q.vd else none, st, n, s.vr .VX_MFLAGS tile, 0, false⟩ s
    ++ vxMarkClear tile

/-- The lend ends: v24 to v31 and la3 are 0, and the engine goes on in the next cycle (R187, R188). -/
def lendEnd (t : Nat) : Plan := fun s =>
  [wr .VX_STAT_LENT 0 t, wv .VX_FLOOR (s.clock + 1) t, wv .VX_LAST (max (s.vr .VX_LAST t) s.clock) t,
   .clearMem fun a => decide (vreg t 24 ≤ a ∧ a < vreg t 32),
   .clear fun l => match l with
     | .var .VX_POIS i j => i == t && decide (384 ≤ j ∧ j < 512)
     | .var .MARK_VX i j => i == t && (decide (24 ≤ j ∧ j < 32) || j == 43)
     | .var .LA i j => i == t && j == 3
     | .var .LA_FLAG i j => i == t && j == 3
     | .var .LA_POIS i j => i == t && j == 3
     | .var .LA_COUNT i j => i == t && j == 3
     | _ => false]

/-- vx.lend: the engine is the solver's until its paired solve completes, at once when that has completed (R166, R187). -/
def execVxLend (tile : Tile) (s : State) : Outcome State Fault Refusal :=
  .next <| s.perform <| vxRun tile 0x32 fun _ => plans
    [fun s => [wv .LENDS (s.vr .LENDS tile + 1) tile, wr .VX_STAT_LENT 1 tile],
     planIf (fun s => decide (s.vr .LENDS tile ≤ s.vr .SOLVES tile)) (lendEnd tile)]

/-! ### Registers (R171) -/

/-- VX_STAT.BUSY as it reads: an instruction is in a pipe, or the engine is lent. -/
def State.vxBusy (s : State) (t : Nat) : Bool :=
  s.rd .VX_STAT_LENT t == 1 || (List.range 3).any fun j => decide (s.clock < s.vr .VX_PIPE t j)

/-- The engine takes writes of its format, status and stream registers. -/
def State.vxWritable (s : State) (t : Nat) : Bool := s.domOn t && !s.vxBusy t && (s.parts.vq.at t).isEmpty

/-- A write of VX_VTYPE. -/
def vxVtypePlan (t v : Nat) : Plan := planIf (fun s => s.vxWritable t) fun _ =>
  let sew := bitsOf v 15 12
  let vl := bitsOf v 10 0
  if 9 < sew then []
  else [wr .VX_VTYPE_SEW sew t, wr .VX_VTYPE_VL (min vl (vlMax sew)) t]
    ++ (if vlMax sew < vl then [wr .VX_STAT_VL_CLIP 1 t] else [])

/-- A write of VX_VTYPE. -/
def execVxVtypeWrite (tile : Tile) (value : W64) (s : State) : Outcome State Fault Refusal :=
  .next <| s.perform (vxVtypePlan tile value.toNat)

/-- A write of VX_FCSR. -/
def vxFcsrPlan (t v : Nat) : Plan := planIf (fun s => s.vxWritable t) fun _ =>
  [wr .VX_FCSR_RM (bitsOf v 1 0) t, wr .VX_FCSR_FLAGS (bitsOf v 6 2) t]

/-- A write of VX_FCSR. -/
def execVxFcsrWrite (tile : Tile) (value : W64) (s : State) : Outcome State Fault Refusal :=
  .next <| s.perform (vxFcsrPlan tile value.toNat)

/-- A write of VX_RNSEL. -/
def vxRnselPlan (t v : Nat) : Plan := planIf (fun s => s.vxWritable t) fun _ => [wr .VX_RNSEL_STREAM (bitsOf v 7 0) t]

/-- A write of VX_RNSEL. -/
def execVxRnselWrite (tile : Tile) (value : W64) (s : State) : Outcome State Fault Refusal :=
  .next <| s.perform (vxRnselPlan tile value.toNat)

end Sys2Proof.Machine
end

