-- ==== Sys2Proof/Machine/Matrix.lean ====
section
/-! DEFINITION. The matrix engine (Matrix Engine: R85 to R111): MMA and EPI descriptors, their work units and the recurrence of R97.
A command starts the descriptor at the head of the queue, or goes on with one that waited, and carries out every unit that neither a
piece gate nor a speculation hold stops. -/
namespace Sys2Proof.Machine
open Host

/-! ### Memories of the engine (R85, R120) -/

/-- The first address of the matrix engine's own memories in the model's flat memory. -/
def mxBase (t : Nat) : Nat := 0x3000000000000 + t * 0x800000

/-- Accumulator word (i, j) of bank a (R85). -/
def bankAt (t a i j : Nat) : Nat := mxBase t + a * 0x100000 + (512 * i + j) * 4

/-- The segment of column j in stationary buffer u. -/
def bufAt (t u j : Nat) : Nat := mxBase t + 0x200000 + u * 0x10000 + 128 * j

/-- The recomposition store (R120). -/
def rsBase (t : Nat) : Nat := mxBase t + 0x400000

/-- The value of an accumulator word. -/
def State.acc (s : State) (t a i j : Nat) : Int := toSigned 32 (s.num (bankAt t a i j) 4)

/-! ### Descriptor fields (Table 4.3) -/

/-- MMA, or EPI. -/
def Desc.isEpi (d : Desc) : Bool := d.opc == 2

/-- Bits of a Table 4.1 element. -/
def opdBits (fmt : Nat) : Nat := if fmt < 2 then 8 else 4

/-- Kc (R87). -/
def Desc.kc (d : Desc) : Nat := if 2 ≤ d.f 337 336 ∧ 2 ≤ d.f 339 338 then 256 else 128

/-- Bytes of n elements of a format. -/
def opdBytes (fmt n : Nat) : Nat := ceilDiv (n * opdBits fmt) 8

/-- Whole granules. -/
def whole64 (n : Nat) : Nat := ceilDiv n 64 * 64

/-- Bytes per element of an output format (Table 4.4). -/
def outBytes (f : Nat) : Nat := match f with | 0 => 4 | 1 => 2 | 2 => 1 | 3 => 1 | 4 => 4 | 5 => 2 | _ => 2

/-- Elements of a segment: 9-bit values (R86, R87). -/
def opdElems (fmt : Nat) (bs : List Byte) (n : Nat) : List Int :=
  (List.range n).map fun k =>
    match fmt with
    | 0 => toSigned 8 (bs.getD k 0).toNat
    | 1 => (bs.getD k 0).toNat
    | 2 => toSigned 4 (bitsOf (bs.getD (k / 2) 0).toNat (4 * (k % 2) + 3) (4 * (k % 2)))
    | _ => bitsOf (bs.getD (k / 2) 0).toNat (4 * (k % 2) + 3) (4 * (k % 2))

/-- The bytes of A that row i reads in k-step kb: offset and length, in whole granules (R92, R94). -/
def Desc.aSpan (d : Desc) (i kb : Nat) : Nat × Nat :=
  let n := min d.kc (d.f 335 320 - kb * d.kc)
  (d.f 87 64 + i * d.f 183 160 + opdBytes (d.f 337 336) (kb * d.kc), whole64 (opdBytes (d.f 337 336) n))

/-- The bytes of B that column j reads in k-step kb. -/
def Desc.bSpan (d : Desc) (j kb : Nat) : Nat × Nat :=
  let n := min d.kc (d.f 335 320 - kb * d.kc)
  (d.f 119 96 + kb * d.f 247 224 + j * d.f 215 192, whole64 (opdBytes (d.f 339 338) n))

/-- KT (R93). -/
def Desc.kt (d : Desc) : Nat := ceilDiv (d.f 335 320) d.kc

/-- The descriptor writes C. -/
def Desc.writesC (d : Desc) : Bool := d.isEpi || d.b 342

/-- The regions an MMA or EPI reads (R106). -/
def Desc.mxReads (d : Desc) : List (Nat × Nat) :=
  let m := d.f 303 288
  let n := d.f 319 304
  (if d.isEpi then [] else
    ((List.range d.kt).flatMap fun kb => ((List.range m).map fun i => d.aSpan i kb) ++ (List.range n).map fun j => d.bSpan j kb))
  ++ (if d.writesC ∧ d.f 350 349 = 2 then [(d.f 439 416, 4 * n)] else [])
  ++ (if d.writesC ∧ d.b 351 then [(d.f 471 448, 4 * n)] else [])

/-- The rows of C. -/
def Desc.mxWrites (d : Desc) : List (Nat × Nat) :=
  if d.writesC then (List.range (d.f 303 288)).map fun i => (d.f 151 128 + i * d.f 279 256, d.f 319 304 * outBytes (d.f 346 344))
  else []

/-- The descriptor is refused (R106). -/
def Desc.mxInvalid (d : Desc) : Bool :=
  let m := d.f 303 288
  let n := d.f 319 304
  let ep := d.writesC
  let odd := fun hi lo => d.f hi lo % 64 != 0
  (!d.isEpi && (odd 87 64 || odd 119 96 || odd 183 160 || odd 215 192 || odd 247 224))
  || (ep && (odd 151 128 || odd 279 256 || (d.f 350 349 == 2 && (odd 439 416 || d.f 447 440 != 0)) || (d.b 351 && odd 471 448)))
  || m == 0 || n == 0 || (!d.isEpi && d.f 335 320 == 0)
  || ((d.isEpi || !d.b 342) && decide (512 < m ∨ 512 < n))
  || (ep && (d.f 346 344 == 7 || decide (2 ≤ d.f 348 347) || d.f 350 349 == 3))
  || (!d.isEpi && d.b 365 && d.f 383 368 == 0)
  || (d.mxReads ++ d.mxWrites).any (fun r => decide (2 ^ 24 < r.1 + r.2))
  || spansMeet d.mxReads d.mxWrites

/-! ### The recurrence (R97, R470) -/

/-- The cycle after the last of m rows that begin to enter in cycle s: at duty D rows enter in the first D cycles of every 8. -/
def rowsEnd (duty s m : Nat) : Nat :=
  if 8 ≤ duty ∨ duty = 0 ∨ m = 0 then s + m
  else
    let n := s / 8 * duty + min (s % 8) duty + m - 1
    n / duty * 8 + n % duty + 1

/-- A work unit: a k-step into a bank (for an MMF with its slices of A and B), an epilogue, results left in a bank, a drain into the
recomposition store, or the rounding of an MMF block. -/
inductive MxUnit where
  | kstep (bank i0 j0 m n kb : Nat) (first : Bool) (sl : Option (Nat × Nat))
  | epi (bank i0 j0 m n : Nat)
  | leave (bank : Nat)
  | drain (bank m n sa sb : Nat) (first : Bool)
  | round (i0 j0 m n : Nat)
deriving DecidableEq, Repr

/-- The work of an MMA or EPI in order (R93). -/
def Desc.mxUnits (d : Desc) : List MxUnit :=
  let m := d.f 303 288
  let n := d.f 319 304
  let a0 := d.f 341 341
  if d.isEpi then [.epi a0 0 0 m n] else
  let nt := ceilDiv n 512
  (List.range (ceilDiv m 512 * nt)).flatMap fun b =>
    let i0 := 512 * (b / nt)
    let j0 := 512 * (b % nt)
    let mb := min 512 (m - i0)
    let nb := min 512 (n - j0)
    let a := (a0 + b) % 2
    ((List.range d.kt).map fun kb => .kstep a i0 j0 mb nb kb (kb == 0) none)
    ++ [if d.b 342 then .epi a i0 j0 mb nb else .leave a]

/-- The last started descriptor of tile t. -/
def State.mxCur (s : State) (t : Nat) : Option MxRun := (s.parts.mx.at t).getLast?

/-- The last started descriptor changes. -/
def mxSet (t : Nat) (f : MxRun → MxRun) : Act :=
  .parts fun p => { p with mx := p.mx.set t (match (p.mx.at t).getLast? with
    | some r => (p.mx.at t).dropLast ++ [f r]
    | none => []) }

/-- The cycle from which the descriptor may act (R98, R110). -/
def State.mxAvail (s : State) (t : Nat) (d : Desc) : Nat := max (d.issued + 4) (s.vr .BIST_AT t)

/-- Errors of accumulator or store words that a read meets: counted, and an uncorrectable one reported for its row. -/
def wordErrors (s : State) (v : Var) (t : Nat) (words : List Nat) : Nat × Nat :=
  ((words.filter fun j => s.vr v t j == 1).length, (words.filter fun j => s.vr v t j == 2).length)

/-- The words of row i of a bank that n columns touch. -/
def bankWords (a i n : Nat) : List Nat := (List.range (ceilDiv n 2)).map (131072 * a + 256 * i + ·)

/-- Rows of a bank are read: their errors are counted and cleared, and an uncorrectable one marks its row (R104, R107). -/
def bankScrub (t a m n : Nat) : Plan := planAll (List.range m) fun i s =>
  let ws := bankWords a i n
  let e := wordErrors s .MX_BAD t ws
  if e = (0, 0) then [] else
  [bump s .MX_ACC_ERR_CORR e.1 t, bump s .MX_ACC_ERR_UNCORR e.2 t] ++ (ws.map fun j => wv .MX_BAD 0 t j)
  ++ (if e.2 = 0 then [] else [wv .MX_ROWP 1 t (512 * a + i)])

/-- The k-step's place in the recurrence: its load and stream, the stall it meets, and the row count (R97). -/
def kstepTiming (t bank m n : Nat) (first : Bool) (gateA gateB : Nat) : Plan := fun s =>
  match s.mxCur t with
  | none => []
  | some r =>
    let u := s.vr .MX_NBUF t
    let ld0 := max (s.mxAvail t r.desc) (max (s.vr .MX_LOAD t) (s.vr .MX_BUF t u))
    let ld := r.ld.getD (max ld0 gateB)
    let bf := if first then s.vr .MX_BANK t bank else 0
    let s0 := max (s.vr .MX_STREAM t) (ld + n)
    let st := max s0 (max gateA bf)
    let stop := rowsEnd (s.rd .PM_THROT_DUTY) st m
    let piece := (if r.ld.isSome then 0 else ld - ld0) + (st - max s0 bf)
    let bank_ := st - max s0 gateA
    [wv .MX_LOAD (if r.ld.isSome then s.vr .MX_LOAD t else ld + n) t, wv .MX_STREAM stop t, wv .MX_BUF stop t u,
     wv .MX_NBUF (1 - u) t, bump s .MX_STALL_PIECE piece t, bump s .MX_STALL_BANK_BANK bank_ t,
     bumpWrap s .MX_BUSY_CYC_COUNT m t, wr .MX_STAT_PIECE_WAIT 0 t,
     mxSet t fun r => { r with start := if r.pos = 0 ∧ r.desc.opc = 1 ∧ r.ld.isNone then ld else r.start, ld := none, wait := false,
                               streamEnd := stop, stall := r.stall + piece + bank_ }]

/-- The epilogue, drain or rounding of `m` rows at `rate` cycles a row takes the epilogue port; `e0` is when it could begin (R97,
R131). A held one begins no earlier than the cycle after confirm. -/
def portTiming (t m rate e0 : Nat) (final : Bool) : Plan := fun s =>
  match s.mxCur t with
  | none => []
  | some r =>
    let e := if r.held then max e0 (s.vr .SPEC_RELEASE t) else e0
    [wv .MX_EPI (e + m * rate) t, bump s .MX_STALL_SPEC (e - e0) t, wr .MX_STAT_SPEC_HOLD 0 t,
     mxSet t fun r => { r with held := false, stall := r.stall + (e - e0),
                               start := if r.pos = 0 ∧ r.desc.opc = 2 then e else r.start,
                               done := if final then e + m * rate + 16 else r.done }]

/-- The beginning of the port's use is known from what it set: bank_free = e − 139 (R97). -/
def bankFree (t bank m : Nat) : Plan := fun s => [wv .MX_BANK (s.vr .MX_EPI t - m - 139) t bank]

/-! ### K-steps and epilogues -/

/-- A segment as the engine reads it: its elements and whether a granule of it is poisoned. -/
structure Seg where
  els : List Int
  bad : Bool
  rd : Rd

/-- The segments of the rows or columns of a k-step. -/
def State.segs (s : State) (t fmt n cnt : Nat) (span : Nat → Nat × Nat) : List Seg :=
  (List.range n).map fun i =>
    let r := s.readTs t (span i).1 (span i).2
    ⟨opdElems fmt r.data cnt, !r.bad.isEmpty, r⟩

/-- The dot product of two segments. -/
def dotInts (a b : List Int) : Int := (List.zipWith (· * ·) a b).foldl (· + ·) 0

/-- Marks of a k-step: kept when it adds to the bank, begun again when it overwrites (R107). -/
def stepMarks (t bank : Nat) (ovr : Bool) (v : Var) (l : List Seg) : Plan := fun s =>
  l.mapIdx fun i g => wv v (if g.bad ∨ (¬ ovr ∧ s.vr v t (512 * bank + i) = 1) then 1 else 0) t (512 * bank + i)

/-- The products of a k-step are added into the bank, modulo 2^32 (R88); `over` for a k-step that overwrites it. -/
def kstepData (t bank : Nat) (ovr : Bool) (rows cols : List Seg) : Plan := fun s =>
  let sums := rows.mapIdx fun i a => cols.mapIdx fun j b =>
    (i, j, (if ovr then 0 else s.acc t bank i j) + dotInts a.els b.els)
  let flat := sums.flatten
  (flat.flatMap fun x => putNum (bankAt t bank x.1 x.2.1) 4 (ofSigned 32 x.2.2))
  ++ (if ovr then rows.mapIdx (fun i _ => bankWords bank i cols.length) |>.flatten.map fun j => wv .MX_BAD 0 t j else [])
  ++ (if flat.any fun x => decide (x.2.2 < -(2 : Int) ^ 31 ∨ (2 : Int) ^ 31 ≤ x.2.2) then [mxSet t fun r => { r with wrap := true }] else [])

/-- The bytes of the stationary segments enter the buffer in use. -/
def loadBuffer (t : Nat) (cols : List Seg) : Plan := fun s =>
  (cols.mapIdx fun j g => putBytes (bufAt t (s.vr .MX_NBUF t) j) (g.rd.data.take 128)).flatten

/-- A k-step on segments (R85 to R88, R107, R108). -/
def kstepBody (t bank m n : Nat) (ovr : Bool) (gateA gateB : Nat) (first : Bool) (rows cols : List Seg) : Plan := plans
  [planAll (rows ++ cols) fun g => noteRead g.rd,
   loadBuffer t cols,
   kstepTiming t bank m n first gateA gateB,
   if ovr then fun _ => [] else bankScrub t bank m n,
   stepMarks t bank ovr .MX_ROWP rows, stepMarks t bank ovr .MX_COLP cols,
   kstepData t bank ovr rows cols,
   fun s => (if (rows ++ cols).any (·.bad) then [mxSet t fun r => { r with poison := true }] else [])
     ++ (if (s.mxCur t).any fun r => r.spec then [wr .MX_STAT_BANK_SPEC (setB (s.rd .MX_STAT_BANK_SPEC t) bank) t] else [])]

/-- The scale or bias entries of a block: the 4-byte values and whether each lies in a poisoned granule. -/
def State.entries (s : State) (t off n : Nat) : List (Nat × Bool) × Rd :=
  let r := s.readTs t off (4 * n)
  ((List.range n).map fun j => (leNat ((r.data.drop (4 * j)).take 4), r.bad.contains (storeBase t + (off + 4 * j) / 64 * 64)), r)

/-- The range of an integer output format. -/
def outRange (f : Nat) : Int × Int :=
  match f with
  | 0 => (-(2 ^ 31), 2 ^ 31 - 1)
  | 1 => (-(2 ^ 15), 2 ^ 15 - 1)
  | 2 => (-128, 127)
  | _ => (0, 255)

/-- The floating-point output formats of Table 4.4. -/
def outFmt (f : Nat) : Fmt := match f with | 4 => .fp32 | 5 => .bf16 | _ => .fp16

/-- ReLU on an encoding: negative results and −0 become +0, NaN stays (R96). -/
def relu (f : Fmt) (v : Nat) : Nat := if testB v (f.bits - 1) ∧ ¬ (f.decode v).isNan then 0 else v

/-- One element of the epilogue: v = acc + bias is converted, and the activation applied (R95, R96). -/
def epiElem (fmt act sh : Nat) (scale : Option Nat) (v : Int) : Nat :=
  if fmt < 4 then
    let mult : Int := match scale with | some x => toSigned 32 x | none => 1
    let y := (v * mult + (if sh = 0 then 0 else 2 ^ (sh - 1))) / 2 ^ sh
    let r := outRange fmt
    let z := max r.1 (min y r.2)
    ofSigned (8 * outBytes fmt) (if act = 1 then max z 0 else z)
  else
    let f := outFmt fmt
    let x := match scale with | some c => Fmt.fp32.decode c | none => .fin false 1 0
    let z := match (FV.fin (decide (v < 0)) v.natAbs 0).mul x with | some p => (f.ofFV .ne false p).1 | none => f.nan
    if act = 1 then relu f z else z

/-- A row of results goes to tile store; granules that hold a poisoned element carry poison (R107). -/
def writeRow (t off osz : Nat) (vals : List (Nat × Bool)) : Plan := fun s =>
  let bad := ((vals.zipIdx.filter fun x => x.1.2).map fun x => storeBase t + (off + x.2 * osz) / 64 * 64).eraseDups
  writeTs t off (vals.flatMap fun x => leBytes osz x.1) bad s
  ++ (if bad = [] then [] else [mxSet t fun r => { r with pg := r.pg + bad.length, poison := true }])

/-- The epilogue of a block (R95, R96, R107). -/
def epiBody (t bank i0 j0 m n : Nat) : Plan := fun s =>
  match s.mxCur t with
  | none => []
  | some r =>
    let d := r.desc
    let fmt := d.f 346 344
    let bias := if d.b 351 then s.entries t (d.f 471 448 + 4 * j0) n else ([], ⟨[], [], [], []⟩)
    let scale := if d.f 350 349 = 2 then s.entries t (d.f 439 416 + 4 * j0) n else ([], ⟨[], [], [], []⟩)
    let colBad := fun j => s.vr .MX_COLP t (512 * bank + j) == 1 || (bias.1.getD j (0, false)).2 || (scale.1.getD j (0, false)).2
    let sc := fun j => match d.f 350 349 with
      | 1 => some (d.f 447 416)
      | 2 => some (scale.1.getD j (0, false)).1
      | _ => none
    plans
     [noteRead bias.2, noteRead scale.2, bankScrub t bank m n,
      fun s => planAll (List.range m) (fun i s =>
        let rowBad := s.vr .MX_ROWP t (512 * bank + i) == 1
        writeRow t (d.f 151 128 + (i0 + i) * d.f 279 256 + j0 * outBytes fmt) (outBytes fmt)
          ((List.range n).map fun j =>
            (epiElem fmt (d.f 348 347) (d.f 357 352) (sc j)
              (s.acc t bank i j + (if d.b 351 then toSigned 32 (bias.1.getD j (0, false)).1 else 0)), rowBad || colBad j)) s) s,
      fun s => [wr .MX_STAT_BANK_HELD (clrB (s.rd .MX_STAT_BANK_HELD t) bank) t]] s

/-! ### Gates and holds (R102, R108) -/

/-- Whether a k-step's piece has arrived. -/
def State.pieceHere (s : State) (t : Nat) (d : Desc) (kb : Nat) : Bool :=
  !d.b 365 || s.reached t (d.f 364 360) ((d.f 415 384 + kb / d.f 383 368 + 1) % 2 ^ 32)

/-- The load of a k-step whose stream waits at its gate goes on (R102). -/
def loadOnly (t n : Nat) : Plan := fun s =>
  match s.mxCur t with
  | none => []
  | some r =>
    if r.ld.isSome then [] else
    let u := s.vr .MX_NBUF t
    let ld := max (s.mxAvail t r.desc) (max (s.vr .MX_LOAD t) (s.vr .MX_BUF t u))
    [wv .MX_LOAD (ld + n) t, mxSet t fun r => { r with ld := some ld, start := if r.pos = 0 ∧ r.desc.opc = 1 then ld else r.start }]

/-- Some byte that a started descriptor writes lies outside the caldera. -/
def State.mxLeaves (s : State) (t : Nat) (w : List (Nat × Nat)) : Bool := w.any fun r => !s.insideCaldera t r.1 r.2

/-- Whether a unit can go on: k-steps wait for their piece, epilogues and roundings of speculative results for confirm. -/
def State.unitFree (s : State) (t : Nat) (r : MxRun) (writes : List (Nat × Nat)) : MxUnit → Bool
  | .kstep _ _ _ _ _ kb _ _ => s.pieceHere t r.desc kb
  | .epi _ _ _ _ _ => !(r.spec && s.mxLeaves t writes)
  | .round _ _ _ _ => !(r.spec && s.mxLeaves t writes)
  | _ => true

/-- A unit that cannot go on shows why. -/
def unitWaits (t : Nat) (d : Desc) : MxUnit → Plan
  | .kstep _ _ _ _ n _ _ _ => plans
    [if d.b 366 then loadOnly t n else fun _ => [], fun _ => [wr .MX_STAT_PIECE_WAIT 1 t, mxSet t fun r => { r with wait := true }]]
  | _ => fun _ => [wr .MX_STAT_SPEC_HOLD 1 t, mxSet t fun r => { r with held := true }]

/-- The gate cycles of a k-step: now for one that has waited, 0 otherwise (R102). -/
def State.gates (s : State) (r : MxRun) : Nat × Nat :=
  if r.wait then (if r.desc.b 366 then (s.clock, 0) else (0, s.clock)) else (0, 0)

/-- A unit of an MMA or EPI. -/
def mxUnit (t : Nat) (u : MxUnit) : Plan := fun s =>
  match s.mxCur t with
  | none => []
  | some r =>
    let d := r.desc
    let g := s.gates r
    match u with
    | .kstep a i0 j0 m n kb first _ =>
      let cnt := min d.kc (d.f 335 320 - kb * d.kc)
      kstepBody t a m n (first && !d.b 340) g.1 g.2 first (s.segs t (d.f 337 336) m cnt fun i => d.aSpan (i0 + i) kb)
        (s.segs t (d.f 339 338) n cnt fun j => d.bSpan (j0 + j) kb) s
    | .epi a i0 j0 m n =>
      let e0 := if d.isEpi then max (s.mxAvail t d) (max (s.vr .MX_EPI t) (s.vr .MX_ACC t a + 1))
        else max (r.streamEnd - m + 141) (s.vr .MX_EPI t)
      plans [portTiming t m 1 e0 true, bankFree t a m, epiBody t a i0 j0 m n] s
    | .leave a =>
      [wv .MX_ACC (r.streamEnd + 140) t a, wr .MX_STAT_BANK_HELD (setB (s.rd .MX_STAT_BANK_HELD t) a) t,
       mxSet t fun r => { r with done := r.streamEnd + 140 }]
    | _ => []

/-- Every unit is done: the completion cycle stands, in issue order (R97). -/
def mxFinish (t : Nat) : Plan := fun s =>
  match s.mxCur t with
  | none => []
  | some r => let c := max r.done (s.vr .MX_DONE t)
    [wv .MX_DONE c t, mxSet t fun r => { r with done := c, fin := true }]

/-- Units one after another until one cannot go on. -/
def mxGo (t : Nat) (unit : MxUnit → Plan) (writes : List (Nat × Nat)) : List MxUnit → Plan
  | [] => mxFinish t
  | u :: us => fun s =>
    match s.mxCur t with
    | none => []
    | some r =>
      if s.unitFree t r writes u then
        plans [unit u, fun _ => [mxSet t fun r => { r with pos := r.pos + 1 }], mxGo t unit writes us] s
      else unitWaits t r.desc u s

/-! ### Starting (R98, R106, R108, R109, R219) -/

/-- The array's domain lets a descriptor start: `none` while it must wait, `some false` when it completes with 0x85. -/
def State.arrayServes (s : State) (t : Nat) (d : Desc) : Option Bool :=
  let p := 40 + t
  let late := s.rd .PM_DOM_PEND_DIS 0 p == 1 || s.dom p == 3 || s.dom p == 0
  match s.dom p with
  | 2 => some true
  | 1 => if late ∧ s.vr .DOM_DIS_AT 0 p ≤ d.issued ∧ s.rd .PM_DOM_PEND_EN 0 p = 0 then some false else none
  | 3 => if d.issued < s.vr .DOM_DIS_AT 0 p then some true else if s.rd .PM_DOM_PEND_EN 0 p = 1 then none else some false
  | _ => if s.rd .PM_DOM_PEND_EN 0 p = 1 then none else some false

/-- A descriptor enters the list of started ones. -/
def mxBegin (t : Nat) (r : MxRun) : Plan := plans
  [popQueue t 0, fun _ => [.parts fun p => { p with mx := p.mx.set t (p.mx.at t ++ [r]) }, wr .MX_STAT_BUSY 1 t]]

/-- A descriptor completes without work: with its status, in issue order; `keep` leaves the recurrence as it is (R106). -/
def mxEarly (t : Nat) (d : Desc) (status c : Nat) (keep : Bool) : Plan := plans
  [fun s => mxBegin t { desc := d, start := max c (s.vr .MX_DONE t), done := max c (s.vr .MX_DONE t), fin := true, status := status } s,
   fun s => if keep then [] else [wv .MX_DONE (max c (s.vr .MX_DONE t)) t]]

/-- The recurrence's free cycles are no earlier than `c` (R219). -/
def mxFloor (t c : Nat) : Plan := fun s =>
  let up := fun v j => wv v (max c (s.vr v t j)) t j
  [up .MX_LOAD 0, up .MX_STREAM 0, up .MX_EPI 0, up .MX_BUF 0, up .MX_BUF 1, up .MX_BANK 0, up .MX_BANK 1, up .MX_ACC 0, up .MX_ACC 1]

/-- A descriptor that a squash or an abort has ended before its start completes in its turn (R103, R219). -/
def mxKilled (t : Nat) (d : Desc) : Plan := fun s =>
  if d.note = 0x14 then
    let c := max s.clock (max (s.vr .SQ_AT t) (s.vr .MX_DONE t + 1))
    plans [mxEarly t d 0x14 c false, mxFloor t (c + 1)] s
  else mxEarly t d d.note s.clock false s

/-- An MMA or EPI is speculative as it starts (R108). -/
def State.mxSpec (s : State) (t : Nat) (d : Desc) : Bool :=
  d.win && s.window t && (d.marked || d.mxReads.any (fun r => s.touchesCaldera t r.1 r.2)
    || ((d.isEpi || d.b 340) && (List.range 2).any fun a =>
      testB (s.rd .MX_STAT_BANK_SPEC t) a && (a == d.f 341 341 || decide (512 < d.f 303 288 ∨ 512 < d.f 319 304))))

/-- The first unit of a descriptor may act now: its first load, or its epilogue, falls no later (R97, R98). -/
def State.mxDue (s : State) (t : Nat) (d : Desc) : Bool :=
  let c := match d.opc with
    | 1 => max (s.vr .MX_LOAD t) (s.vr .MX_BUF t (s.vr .MX_NBUF t))
    | 2 => max (s.vr .MX_EPI t) (s.vr .MX_ACC t (d.f 341 341) + 1)
    | _ => max (s.vr .MX_LOAD t) (max (s.vr .MX_STREAM t) (s.vr .MX_EPI t))
  decide (max (s.mxAvail t d) c ≤ s.clock) && s.ready t d && s.vr .BIST_RUN t == 0

/-- A matrix command of an operation: it goes on with the last started descriptor when that is not finished and is of its kind, or
starts the head of the queue. `check` refuses, `go` does the work from the start or from where it stopped. -/
def mxCommand (t opc : Nat) (check : Desc → Option Plan) (go : MxRun → Plan) (first : Desc → Plan) : Plan := fun s =>
  if ¬ s.domOn t then [] else
  match (s.parts.mx.at t).find? fun r => !r.fin with
  | some r => if r.desc.opc = opc then go r s else []
  | none =>
    match s.queue t 0 with
    | [] => []
    | d :: _ =>
      if d.opc ≠ opc then []
      else if d.note ≠ 0 then mxKilled t d s
      else if ¬ s.ready t d ∨ s.vr .BIST_RUN t = 1 then []
      else match check d with
        | some p => p s
        | none =>
          match s.arrayServes t d with
          | none => []
          | some false => mxEarly t d 0x85 s.clock true s
          | some true => if s.mxDue t d then first d s else []

/-- The rest of an MMA's or EPI's work. -/
def mmaGo (t : Nat) (r : MxRun) : Plan := mxGo t (mxUnit t) r.desc.mxWrites (r.desc.mxUnits.drop r.pos)

/-- An MMA or EPI starts. A k-step that waits at its gate before the first load starts nothing yet but shows the wait. -/
def mmaFirst (t : Nat) (d : Desc) : Plan := fun s =>
  let r : MxRun := { desc := d, start := s.clock, spec := s.mxSpec t d }
  plans [mxBegin t r, mmaGo t r] s

/-- The refusal of an MMA or EPI (R106). -/
def mmaCheck (t : Nat) (d : Desc) : Option Plan := if d.mxInvalid then some (fun s => mxEarly t d 0x84 s.clock true s) else none

/-- MMA. -/
def execMma (tile : Tile) (s : State) : Outcome State Fault Refusal :=
  .next <| s.perform (mxCommand tile 1 (mmaCheck tile) (mmaGo tile) (mmaFirst tile))

/-- EPI. -/
def execEpi (tile : Tile) (s : State) : Outcome State Fault Refusal :=
  .next <| s.perform (mxCommand tile 2 (mmaCheck tile) (mmaGo tile) (mmaFirst tile))

/-! ### Aborts (R103) -/

/-- A collective that raises counter c aborts: every matrix descriptor gated on c that has k-steps left completes with 0x66. -/
def mxAbort (t c : Nat) : Plan := plans
  [fun s => match s.mxCur t with
    | some r =>
      if ¬ r.fin ∧ r.desc.b 365 ∧ r.desc.f 364 360 = c then
        let x := max (s.clock + 1) (s.vr .MX_DONE t)
        [wv .MX_DONE x t, wr .MX_STAT_PIECE_WAIT 0 t, wr .MX_STAT_SPEC_HOLD 0 t,
         mxSet t fun r => { r with done := x, fin := true, status := 0x66 }]
      else []
    | none => [],
   fun s => setQueue t 0 ((s.queue t 0).map fun d =>
      if (d.opc = 1 ∨ d.opc = 0x10) ∧ d.b 365 ∧ d.f 364 360 = c ∧ d.note = 0 then { d with note := 0x66 } else d) s]

/-! ### The self-test (R110) -/

/-- A write of MX_BIST.START. -/
def bistStart (t : Nat) : Plan := fun s =>
  if ¬ s.domOn t ∨ s.dom (40 + t) ≠ 2 ∨ ¬ (s.queue t 0).isEmpty ∨ ¬ (s.parts.mx.at t).isEmpty ∨ s.vr .BIST_RUN t = 1 then [] else
  [wr .MX_BIST_RUNNING 1 t, wr .MX_BIST_FAIL 0 t, wr .MX_BIST_FAIL_COL 0 t, wv .BIST_RUN 1 t, wv .BIST_AT (s.clock + 131072) t]

/-- A write of MX_BIST.START. -/
def execMxBistStart (tile : Tile) (s : State) : Outcome State Fault Refusal :=
  .next <| s.perform (bistStart tile)

/-- The physical columns that the fuse map retires. -/
def State.retired (s : State) (t : Nat) : List Nat :=
  ((List.range 4).filter fun i => s.rd .MX_SPARE_MAP_VALID t i == 1).map fun i => s.rd .MX_SPARE_MAP_PCOL t i

/-- The self-test ends: the lowest defective column that the map does not retire is reported, and both banks are 0. -/
def bistDone (t : Nat) : Plan := fun s =>
  if s.vr .BIST_RUN t = 0 ∨ s.clock < s.vr .BIST_AT t then [] else
  let bad := (List.range 516).filter fun c => s.vr .MX_DEFECT t c == 1 && !(s.retired t).contains c
  [wr .MX_BIST_RUNNING 0 t, wr .MX_BIST_DONE 1 t, wv .BIST_RUN 0 t, wv .BIST_AT (s.clock + 1) t,
   .clearMem fun a => decide (mxBase t ≤ a ∧ a < mxBase t + 0x200000),
   .clear fun l => match l with
     | .var .MX_BAD i _ => i == t
     | .var .MX_ROWP i _ => i == t
     | .var .MX_COLP i _ => i == t
     | _ => false]
  ++ (match bad with | [] => [] | c :: _ => [wr .MX_BIST_FAIL 1 t, wr .MX_BIST_FAIL_COL c t])

/-- The self-test ends. -/
def execMxBistDone (tile : Tile) (s : State) : Outcome State Fault Refusal :=
  .next <| s.perform (bistDone tile)

end Sys2Proof.Machine
end

