-- ==== Sys2Proof/Machine/Sliced.lean ====
section
/-! DEFINITION. Sliced floating-point products on the matrix engine (Sliced Precision Arithmetic: R112 to R137), and the completion of
every matrix descriptor (R98, R99). -/
namespace Sys2Proof.Machine
open Host

/-! ### Formats and images (R112, R128) -/

/-- The element formats by EFMT code (R128). -/
def efmtOf (c : Nat) : Fmt :=
  match c with | 0 => .fp64 | 1 => .fp32 | 2 => .fp16 | 3 => .bf16 | 4 => .e4m3 | _ => .e5m2

/-- Bytes per element of an EFMT code. -/
def efmtBytes (c : Nat) : Nat := match c with | 0 => 8 | 1 => 4 | 2 => 2 | 3 => 2 | _ => 1

/-- S_f (Table 5.1). -/
def fastSlices (ffmt : Nat) : Nat := match ffmt with | 0 => 7 | 1 => 3 | 2 => 2 | 3 => 2 | _ => 1

/-- The element format of an operand under FFMT: role 0 is A, 1 is B (Table 5.1). -/
def efmtFor (ffmt role : Nat) : Nat :=
  if ffmt < 4 then ffmt else if role = 0 then (if ffmt < 6 then 4 else 5) else if ffmt % 2 = 0 then 4 else 5

/-- An operand of an MMF: its role, image, lines, inner dimension, format, source and whether it is prepared. -/
structure SlOp where
  role : Nat
  img : Nat
  lines : Nat
  k : Nat
  ef : Nat
  src : Nat
  stride : Nat
  prep : Bool
deriving DecidableEq, Repr

/-- The operand of a role (Table 5.5). -/
def Desc.slOp (d : Desc) (role : Nat) : SlOp :=
  let ff := d.f 339 336
  if role = 0 then ⟨0, d.f 247 224, d.f 303 288, d.f 335 320, efmtFor ff 0, d.f 87 64, d.f 183 160, d.b 473⟩
  else ⟨1, d.f 471 448, d.f 319 304, d.f 335 320, efmtFor ff 1, d.f 119 96, d.f 215 192, d.b 474⟩

/-- The start of the planes: header and line table. -/
def SlOp.head (o : SlOp) : Nat := 64 + whole64 (4 * o.lines)

/-- Q, the bytes of a plane (R128). -/
def SlOp.q (o : SlOp) : Nat := if o.role = 0 then o.lines * whole64 o.k else 128 * o.lines * ceilDiv o.k 128

/-- The bytes of an image of S slices. -/
def SlOp.size (o : SlOp) (sl : Nat) : Nat := o.head + sl * o.q

/-- The bytes of line i of plane p in k-step kb: offset and length. -/
def SlOp.span (o : SlOp) (p i kb : Nat) : Nat × Nat :=
  let n := whole64 (min 128 (o.k - 128 * kb))
  (o.img + o.head + p * o.q + (if o.role = 0 then i * whole64 o.k + 128 * kb else kb * 128 * o.lines + 128 * i), n)

/-- The source bytes of line i. -/
def SlOp.line (o : SlOp) (i : Nat) : Nat × Nat := (o.src + i * o.stride, o.k * efmtBytes o.ef)

/-! ### Scales, spans and slices (R113 to R116) -/

/-- What a scan finds of a line: its scale exponent, span, an infinity or NaN, no finite nonzero element, poison, and its values. -/
structure SlLine where
  e : Int
  d : Nat
  nonf : Bool
  zero : Bool
  bad : Bool
  vals : List FV
deriving DecidableEq, Repr

/-- h(x) and l(x) of a finite nonzero value (R113). -/
def hl (m : Nat) (e : Int) : Int × Int := (e + Nat.log2 m, e + Nat.log2 (m ^^^ (m - 1)))

/-- The scale and span of a line (R114). -/
def lineScale (vals : List FV) : Int × Nat × Bool :=
  let xs := vals.filterMap fun v => match v with | .fin _ m e => if m = 0 then none else some (hl m e) | _ => none
  match xs with
  | [] => (0, 0, true)
  | x :: t =>
    let h := t.foldl (fun a y => max a y.1) x.1
    let l := t.foldl (fun a y => min a y.2) x.2
    (h, (h - l).toNat, false)

/-- A line as a scan reads it. -/
def State.scanLine (s : State) (t : Nat) (o : SlOp) (i : Nat) : SlLine × Rd :=
  let r := s.readTs t (o.line i).1 (whole64 (o.line i).2)
  let eb := efmtBytes o.ef
  let vals := (List.range o.k).map fun k => (efmtOf o.ef).decode (leNat ((r.data.drop (k * eb)).take eb))
  let sc := lineScale vals
  (⟨sc.1, sc.2.1, vals.any (fun v => v.isNan || v.isInf), sc.2.2, !r.bad.isEmpty, vals⟩, r)

/-- S: the fast count, or what the widest span of the operand needs (R116). -/
def sliceCount (strict : Bool) (sf : Nat) (ls : List SlLine) : Nat :=
  if strict then ls.foldl (fun m l => max m (ceilDiv (l.d + 2) 8)) 1 else sf

/-- The integer v of an element with S slices, rounded to even and saturated (R115). -/
def slInt (sl : Nat) (e : Int) : FV → Int
  | .fin n m x =>
    let k := (roundAt .ne n m (x + 8 * sl - 2 - e) 0).1
    if n then -(k : Int) else (min k (2 ^ (8 * sl - 1) - 1) : Nat)
  | _ => 0

/-- Slice p of an element of a line (R115). -/
def slByte (sl : Nat) (e : Int) (p : Nat) (v : FV) : Byte :=
  BitVec.ofNat 8 (ofSigned (8 * sl) (slInt sl e v) / 2 ^ (8 * (sl - 1 - p)))

/-- DMAX. -/
def maxSpan (ls : List SlLine) : Nat := ls.foldl (fun m l => max m l.d) 0

/-- The header of an image (R128). -/
def imageHeader (o : SlOp) (strict : Bool) (sl : Nat) (ls : List SlLine) : List Byte :=
  let b := fun (x : Bool) => if x then 1 else 0
  leBytes 64 (packFields [(0, 1), (16, o.ef), (20, o.role), (21, b strict), (22, b (ls.any (·.nonf))), (24, sl), (40, o.lines),
    (56, o.k), (72, min (maxSpan ls) 4095)])

/-- A line-table entry. -/
def lineEntry (l : SlLine) : List Byte :=
  let b := fun (x : Bool) => if x then 1 else 0
  leBytes 4 (packFields [(0, ofSigned 16 l.e), (16, min l.d 4095), (28, b l.nonf), (29, b l.zero)])

/-- An operand's image is written: header, line table and planes, with poison where the line carries it (R128, R136). -/
def writeImage (t : Nat) (o : SlOp) (strict : Bool) (sl : Nat) (ls : List SlLine) : Plan :=
  let table := (ls.flatMap lineEntry ++ List.replicate 64 0).take (whole64 (4 * o.lines))
  let bad := (ls.zipIdx.filter fun x => x.1.bad).map fun x => storeBase t + o.img + 64 + (4 * x.2) / 64 * 64
  plans
   [writeTs t o.img (imageHeader o strict sl ls) [],
    writeTs t (o.img + 64) table bad,
    planAll ((List.range sl).flatMap fun p => ls.zipIdx.flatMap fun x => (List.range (ceilDiv o.k 128)).map fun kb => (p, x.1, x.2, kb))
      fun x =>
        let sp := o.span x.1 x.2.2.1 x.2.2.2
        let n := if o.role = 0 then sp.2 else 128
        let bs := (List.range n).map fun k => match (x.2.1.vals)[128 * x.2.2.2 + k]? with
          | some v => slByte sl x.2.1.e x.1 v
          | none => 0
        writeTs t sp.1 bs (if x.2.1.bad then (granules sp.1 n).map fun g => storeBase t + g.1 / 64 * 64 else [])]

/-- The scan cycles of an operand (R131). -/
def SlOp.scan (o : SlOp) : Nat := ceilDiv (o.lines * whole64 (o.k * efmtBytes o.ef)) 256

/-- The preparation cycles of an operand of S slices (R131). -/
def SlOp.prepCost (o : SlOp) (sl : Nat) : Nat := o.scan + max o.scan (ceilDiv (sl * o.q) 2048) + 16

/-! ### Refusal (R106, R133, R134) -/

/-- PREP_ONLY. -/
def Desc.prepOnly (d : Desc) : Bool := d.b 475

/-- The operand's image is read or written. -/
def Desc.usesImage (d : Desc) (o : SlOp) : Bool := o.prep || !d.prepOnly

/-- The element bytes of C (Table 5.3). -/
def mmfOutBytes (f : Nat) : Nat := match f with | 0 => 8 | 1 => 4 | _ => 2

/-- The output formats (Table 5.3). -/
def mmfOutFmt (f : Nat) : Fmt := match f with | 0 => .fp64 | 1 => .fp32 | 2 => .bf16 | _ => .fp16

/-- The rows of C of an MMF. -/
def Desc.mmfC (d : Desc) : List (Nat × Nat) :=
  if d.prepOnly then [] else
  (List.range (d.f 303 288)).map fun i => (d.f 151 128 + i * d.f 279 256, d.f 319 304 * mmfOutBytes (d.f 346 344))

/-- The report. -/
def Desc.mmfReport (d : Desc) : List (Nat × Nat) := if d.prepOnly ∨ ¬ d.b 476 then [] else [(d.f 503 480, 64)]

/-- The source lines of an operand, none unless it is prepared. -/
def SlOp.sources (o : SlOp) : List (Nat × Nat) := if o.prep then (List.range o.lines).map o.line else []

/-- The regions of R133: sources, images at their fast-mode sizes, C and the report. -/
def Desc.mmfRegions (d : Desc) : List (List (Nat × Nat)) :=
  let a := d.slOp 0
  let b := d.slOp 1
  let img := fun (o : SlOp) => if d.usesImage o then [(o.img, o.size (fastSlices (d.f 339 336)))] else []
  [a.sources, b.sources, img a, img b, d.mmfC, d.mmfReport]

/-- Two of a list of regions overlap. -/
def anyMeet : List (List (Nat × Nat)) → Bool
  | [] => false
  | r :: rs => rs.any (spansMeet r) || anyMeet rs

/-- The scale vector. -/
def Desc.mmfScale (d : Desc) : List (Nat × Nat) :=
  if ¬ d.prepOnly ∧ d.f 350 349 = 2 then [(d.f 439 416, 4 * d.f 319 304)] else []

/-- The descriptor is refused before it reads anything (R106, R133). -/
def Desc.mmfInvalid (d : Desc) : Bool :=
  let odd := fun hi lo => d.f hi lo % 64 != 0
  let a := d.slOp 0
  let b := d.slOp 1
  let ff := d.f 339 336
  decide (8 ≤ ff) || d.b 340 || !d.b 342 || d.b 351 || d.f 357 352 != 0
  || d.f 303 288 == 0 || d.f 319 304 == 0 || d.f 335 320 == 0
  || (d.b 365 && (d.f 383 368 == 0 || (if d.b 366 then a.prep else b.prep)))
  || (a.prep && (odd 87 64 || odd 183 160)) || (b.prep && (odd 119 96 || odd 215 192))
  || (d.usesImage a && odd 247 224) || (d.usesImage b && odd 471 448)
  || (!d.prepOnly && (odd 151 128 || odd 279 256 || decide (4 ≤ d.f 346 344) || decide (2 ≤ d.f 348 347) || d.f 350 349 == 3
        || (d.f 350 349 == 2 && (odd 439 416 || d.f 447 440 != 0)) || (d.b 476 && odd 503 480)))
  || (a.sources ++ b.sources ++ d.mmfC ++ d.mmfReport ++ d.mmfScale).any (fun r => decide (2 ^ 24 < r.1 + r.2))
  || (!d.b 472 && [a, b].any fun o => d.usesImage o && decide (2 ^ 24 < o.img + o.size (fastSlices ff)))
  || anyMeet d.mmfRegions || spansMeet d.mmfC d.mmfScale

/-- The slice count in the header of an image that is read, or none when the header is refused (R133). -/
def State.imageS (s : State) (t : Nat) (d : Desc) (o : SlOp) : Option Nat :=
  let h := leNat (s.readTs t o.img 64).data
  let sl := bitsOf h 32 24
  if 2 ^ 24 < o.img + 64 then none
  else if bitsOf h 15 0 = 1 ∧ bitOf h 20 = o.role ∧ bitsOf h 19 16 = o.ef ∧ testB h 21 = d.b 472 ∧ bitsOf h 55 40 = o.lines
      ∧ bitsOf h 71 56 = o.k ∧ 1 ≤ sl ∧ sl ≤ 263 ∧ (d.b 472 ∨ sl = fastSlices (d.f 339 336))
      ∧ o.img + o.size sl ≤ 2 ^ 24 then some sl
  else none

/-- A strict operand of S slices passes a limit of R134. -/
def Desc.overLimit (d : Desc) (o : SlOp) (sl : Nat) : Bool :=
  let smax := d.f 511 504
  let others := ((d.mmfRegions.zipIdx.filter fun x => x.2 != 2 + o.role).map (·.1)).flatten
  d.b 472 && ((smax != 0 && decide (smax < sl)) || decide (2 ^ 24 < o.img + o.size sl) || spansMeet [(o.img, o.size sl)] others)

/-- The operands whose images are read at their headers. -/
def Desc.headers (d : Desc) : List SlOp := ([d.slOp 1, d.slOp 0]).filter fun o => !o.prep && !d.prepOnly

/-- The checks of an MMF before it starts: refusal, a refused header, and the limit at a header. -/
def mmfCheck (t : Nat) (d : Desc) (s : State) : Option Plan :=
  if d.mmfInvalid then some (mxEarly t d 0x84 s.clock true)
  else if d.headers.any fun o => (s.imageS t d o).isNone then some (mxEarly t d 0x84 (max s.clock (s.vr .MX_DONE t) + 2) true)
  else if d.headers.any fun o => d.overLimit o ((s.imageS t d o).getD 1) then
    some (mxEarly t d 0x23 (max s.clock (s.vr .MX_DONE t) + 2) true)
  else none

/-! ### Pair passes (R117 to R121) -/

/-- The pairs of P in order (R117). -/
def slPairs (strict : Bool) (ffmt sa sb : Nat) : List (Nat × Nat) :=
  let keep := fun (p : Nat × Nat) => strict || match ffmt with
    | 0 => decide (p.1 + p.2 ≤ 6)
    | 1 => decide (p.1 + p.2 ≤ 2)
    | 2 => true
    | 3 => true
    | _ => p.1 + p.2 == 0
  ((List.range (sa + sb)).flatMap fun k => (List.range (min (k + 1) sa)).filterMap fun s =>
    if k - s < sb then some (s, k - s) else none).filter keep

/-- W (R119). -/
def slWidth (sa sb : Nat) : Nat := 64 * ceilDiv (8 * (sa + sb) + 15) 64

/-- M_s (R120). -/
def slHeight (sa sb : Nat) : Nat := min 512 (65536 / slWidth sa sb)

/-- r (R120). -/
def slRate (sa sb : Nat) : Nat := ceilDiv (slWidth sa sb) 128

/-- The work of an MMF after its preparation, in the order of R131. -/
def Desc.mmfUnits (d : Desc) (sa sb : Nat) : List MxUnit :=
  if d.prepOnly then [] else
  let m := d.f 303 288
  let n := d.f 319 304
  let ms := slHeight sa sb
  let nt := ceilDiv n 512
  let kt := ceilDiv (d.f 335 320) 128
  let nch := ceilDiv kt 258
  let ps := slPairs (d.b 472) (d.f 339 336) sa sb
  (List.range (ceilDiv m ms * nt)).flatMap fun blk =>
    let i0 := ms * (blk / nt)
    let j0 := 512 * (blk % nt)
    let mb := min ms (m - i0)
    let nb := min 512 (n - j0)
    (ps.zipIdx.flatMap fun x => (List.range nch).flatMap fun ch =>
      let a := (d.f 341 341 + (blk * ps.length + x.2) * nch + ch) % 2
      ((List.range (min 258 (kt - 258 * ch))).map fun q => .kstep a i0 j0 mb nb (258 * ch + q) (q == 0) (some x.1))
      ++ [.drain a mb nb x.1.1 x.1.2 (x.2 == 0 && ch == 0)])
    ++ [.round i0 j0 mb nb]

/-- A segment of a plane: slice 0 is read as s8, the others as u8 (R115). -/
def State.planeSegs (s : State) (t : Nat) (o : SlOp) (p l0 n kb : Nat) : List Seg :=
  s.segs t (if p = 0 then 0 else 1) n (min 128 (o.k - 128 * kb)) fun i => o.span p (l0 + i) kb

/-- The lines whose segments carry poison. -/
def badLines (l0 : Nat) (l : List Seg) : List Nat := (l.zipIdx.filter fun x => x.1.bad).map fun x => l0 + x.2

/-- Element (i, j) of the recomposition store at width W. -/
def rsAt (t w i j : Nat) : Nat := rsBase t + (512 * i + j) * (w / 8)

/-- A drain: each accumulator is added into the store at the pair's weight (R118, R121). -/
def drainBody (t bank m n sa sb p q : Nat) (first : Bool) : Plan := fun s =>
  let w := slWidth sa sb
  let weight : Int := (2 ^ (8 * (sa - 1 - p) + 8 * (sb - 1 - q)) : Nat)
  (List.range m).flatMap fun i => (List.range n).flatMap fun j =>
    let old : Int := if first then 0 else toSigned w (s.num (rsAt t w i j) (w / 8))
    putNum (rsAt t w i j) (w / 8) (ofSigned w (old + s.acc t bank i j * weight))

/-- Rows of a bank that an uncorrectable error marked are poisoned in the block. -/
def drainMarks (t bank m : Nat) : Plan := fun s =>
  let bad := (List.range m).filter fun i => s.vr .MX_ROWP t (512 * bank + i) == 1
  if bad = [] then [] else [mxSet t fun r => { r with badR := (r.badR ++ bad).eraseDups }]

/-- Errors of the store words of a block (R136). -/
def storeScrub (t m n w : Nat) : Plan := planAll (List.range m) fun i s =>
  let ws := (List.range n).flatMap fun j => (List.range (w / 64)).map fun k => (512 * i + j) * (w / 64) + k
  let e := wordErrors s .RS_BAD t ws
  if e = (0, 0) then [] else
  [bump s .SL_RS_ERR_CORR e.1 t, bump s .SL_RS_ERR_UNCORR e.2 t] ++ (ws.map fun j => wv .RS_BAD 0 t j)
  ++ (if e.2 = 0 then [] else [mxSet t fun r => { r with badR := (r.badR ++ [i]).eraseDups }])

/-- One output of an MMF: σ × c̃ rounded once, with an exact zero +0, NaN for a line with an infinity or NaN, then the activation
(R118, R122, R123). -/
def mmfElem (f : Fmt) (act : Nat) (scale : FV) (nonf : Bool) (v : Int) (e : Int) : Nat :=
  let z := if nonf then f.nan
    else match (FV.fin (decide (v < 0)) v.natAbs e).mul scale with
      | some p => if p.isZero then 0 else (f.ofFV .ne false p).1
      | none => f.nan
  if act = 1 then relu f z else z

/-- The scale exponents and flags of n lines of an image from l0 on, as its line table gives them. -/
def State.lineTable (s : State) (t : Nat) (o : SlOp) (l0 n : Nat) : List (Int × Bool) :=
  (s.entries t (o.img + 64 + 4 * l0) n).1.map fun x => (toSigned 16 x.1, testB x.1 28)

/-- The rounding of a block into C (R122, R136). -/
def roundBody (t i0 j0 m n : Nat) : Plan := fun s =>
  match s.mxCur t with
  | none => []
  | some r =>
    let d := r.desc
    let w := slWidth r.sa r.sb
    let fmt := mmfOutFmt (d.f 346 344)
    let osz := mmfOutBytes (d.f 346 344)
    let rows := s.lineTable t (d.slOp 0) i0 m
    let cols := s.lineTable t (d.slOp 1) j0 n
    let scale := if d.f 350 349 = 2 then s.entries t (d.f 439 416 + 4 * j0) n else ([], ⟨[], [], [], []⟩)
    let sc := fun j => match d.f 350 349 with
      | 1 => Fmt.fp32.decode (d.f 447 416)
      | 2 => Fmt.fp32.decode (scale.1.getD j (0, false)).1
      | _ => .fin false 1 0
    let nonf := fun i j => (rows.getD i (0, false)).2 || (cols.getD j (0, false)).2
    let nans := ((List.range m).flatMap fun i => (List.range n).filter fun j => nonf i j).length
    plans
     [noteRead scale.2, storeScrub t m n w,
      fun s => planAll (List.range m) (fun i s =>
        let bad := match s.mxCur t with | some r => r.badA.contains (i0 + i) || r.badR.contains i | none => false
        writeRow t (d.f 151 128 + (i0 + i) * d.f 279 256 + j0 * osz) osz
          ((List.range n).map fun j =>
            (mmfElem fmt (d.f 348 347) (sc j) (nonf i j) (toSigned w (s.num (rsAt t w i j) (w / 8)))
              ((rows.getD i (0, false)).1 + (cols.getD j (0, false)).1 - 8 * r.sa - 8 * r.sb + 4),
             bad || r.badB.contains (j0 + j) || (scale.1.getD j (0, false)).2)) s) s,
      fun _ => [mxSet t fun r => { r with badR := [], nan := r.nan + nans }]] s

/-- A unit of an MMF. -/
def mmfUnit (t : Nat) (u : MxUnit) : Plan := fun s =>
  match s.mxCur t with
  | none => []
  | some r =>
    let d := r.desc
    let g := s.gates r
    match u with
    | .kstep a i0 j0 m n kb first (some (p, q)) =>
      let rows := s.planeSegs t (d.slOp 0) p i0 m kb
      let cols := s.planeSegs t (d.slOp 1) q j0 n kb
      plans [kstepBody t a m n first g.1 g.2 first rows cols,
        fun s => [bumpWrap s .SL_PASSES_COUNT 1 t, wr .SL_STAT_PHASE 3 t,
          mxSet t fun r => { r with steps := r.steps + 1, badA := (r.badA ++ badLines i0 rows).eraseDups,
                                    badB := (r.badB ++ badLines j0 cols).eraseDups }]] s
    | .drain a m n p q first =>
      plans [bankScrub t a m n, drainMarks t a m, portTiming t m 1 (max (r.streamEnd - m + 141) (s.vr .MX_EPI t)) false,
        bankFree t a m, drainBody t a m n r.sa r.sb p q first,
        fun s => [wr .MX_STAT_BANK_HELD (clrB (s.rd .MX_STAT_BANK_HELD t) a) t]] s
    | .round i0 j0 m n =>
      plans [portTiming t m (slRate r.sa r.sb) (s.vr .MX_EPI t) true, fun _ => [wr .SL_STAT_PHASE 4 t], roundBody t i0 j0 m n] s
    | _ => []

/-! ### Preparation and starting (R129, R131, R136) -/

/-- The lines of an operand that are scanned. -/
def State.scanAll (s : State) (t : Nat) (o : SlOp) : List (SlLine × Rd) := (List.range o.lines).map fun i => s.scanLine t o i

/-- The slice count and largest span of an operand: measured by its scan, or read from its header. -/
def State.operandS (s : State) (t : Nat) (d : Desc) (o : SlOp) : Nat × Nat :=
  if o.prep then
    let ls := (s.scanAll t o).map (·.1)
    (sliceCount (d.b 472) (fastSlices (d.f 339 336)) ls, maxSpan ls)
  else ((s.imageS t d o).getD 1, bitsOf (leNat (s.readTs t o.img 64).data) 83 72)

/-- The lines that an image read from tile store brings poisoned: those whose table entries lie in poisoned granules, and all of
them when the header does. -/
def State.tableBad (s : State) (t : Nat) (o : SlOp) : List Nat :=
  if o.prep then [] else
  let hdr := !(s.readTs t o.img 64).bad.isEmpty
  (List.range o.lines).filter fun i => hdr || ((s.entries t (o.img + 64) o.lines).1.getD i (0, false)).2

/-- An operand is prepared: two reads of the source, and its image (R129). -/
def prepareOp (t : Nat) (strict : Bool) (o : SlOp) (sl : Nat) : Plan := fun s =>
  if ¬ o.prep then [] else
  let ls := s.scanAll t o
  plans [planAll (ls ++ ls) fun x => noteRead x.2, writeImage t o strict sl (ls.map (·.1)),
    fun s =>
      [wr .SL_DMAX_DMAX (min (max (s.rd .SL_DMAX_DMAX t) (maxSpan (ls.map (·.1)))) 4095) t,
       bumpWrap s .SL_PREP_CYC_COUNT (o.prepCost sl - 16) t]
      ++ (if ls.any fun x => x.1.bad then [mxSet t fun r =>
            let bad := (ls.zipIdx.filter fun x => x.1.1.bad).map (·.2)
            { r with poison := true, badA := if o.role = 0 then r.badA ++ bad else r.badA,
                     badB := if o.role = 1 then r.badB ++ bad else r.badB }] else [])] s

/-- The regions an MMF reads (R108). -/
def State.mmfReads (s : State) (t : Nat) (d : Desc) : List (Nat × Nat) :=
  let img := fun (o : SlOp) => if d.usesImage o then [(o.img, o.size (s.operandS t d o).1)] else []
  (d.slOp 0).sources ++ (d.slOp 1).sources ++ img (d.slOp 0) ++ img (d.slOp 1) ++ d.mmfScale

/-- An MMF is speculative (R108, R136). -/
def State.mmfSpec (s : State) (t : Nat) (d : Desc) : Bool :=
  d.win && s.window t && (d.marked || (s.mmfReads t d).any fun r => s.touchesCaldera t r.1 r.2)

/-- What the roundings write. -/
def Desc.mmfWrites (d : Desc) : List (Nat × Nat) := d.mmfC ++ d.mmfReport

/-- The rest of an MMF's work. -/
def mmfGo (t : Nat) (r : MxRun) : Plan := mxGo t (mmfUnit t) r.desc.mmfWrites ((r.desc.mmfUnits r.sa r.sb).drop r.pos)

/-- An MMF starts (R129, R131, R134, R136): B is prepared before A; a strict operand over its limit ends the descriptor after its scan,
with nothing written. -/
def mmfFirst (t : Nat) (d : Desc) : Plan := fun s =>
  let a := d.slOp 0
  let b := d.slOp 1
  let spec := s.mmfSpec t d
  let sa := s.operandS t d a
  let sb := s.operandS t d b
  let leaves := [a, b].any fun o => o.prep && s.mxLeaves t [(o.img, o.size (if o.role = 0 then sa.1 else sb.1))]
  let t0 := s.clock
  let pb := if b.prep then b.prepCost sb.1 else 0
  let pa := if a.prep then a.prepCost sa.1 else 0
  let end_ := fun (c : Nat) => [mxSet t fun r => { r with done := max c (s.vr .MX_DONE t), fin := true, status := 0x23 },
    wv .MX_DONE (max c (s.vr .MX_DONE t)) t]
  let r : MxRun := { desc := d, start := t0, spec := spec, sa := sa.1, sb := sb.1, dmaxA := sa.2, dmaxB := sb.2,
                     badA := s.tableBad t a, badB := s.tableBad t b, prep := pa + pb, done := t0 + pa + pb }
  if spec ∧ leaves then [wr .MX_STAT_SPEC_HOLD 1 t]
  else if b.prep ∧ d.overLimit b sb.1 then plans [mxBegin t r, fun _ => end_ (t0 + b.scan)] s
  else if a.prep ∧ d.overLimit a sa.1 then plans [mxBegin t r, fun _ => end_ (t0 + pb + a.scan)] s
  else plans
    [mxBegin t r, fun _ => [wr .MX_STAT_SPEC_HOLD 0 t], prepareOp t (d.b 472) b sb.1, prepareOp t (d.b 472) a sa.1,
     fun _ => let c := t0 + pa + pb; [wv .MX_LOAD c t, wv .MX_STREAM c t, wv .MX_EPI c t], mmfGo t r] s

/-- MMF. -/
def execMmf (tile : Tile) (s : State) : Outcome State Fault Refusal :=
  .next <| s.perform (mxCommand tile 0x10 (fun d => mmfCheck tile d s) (mmfGo tile) (mmfFirst tile))

/-! ### Completion (R98, R99, R105, R130, R135) -/

/-- The status a descriptor reports. -/
def MxRun.final (r : MxRun) : Nat :=
  if r.status ≠ 0 then r.status
  else if r.poison then 0x40
  else if r.desc.opc = 0x10 then (if r.nan ≠ 0 then 0x24 else 0)
  else if r.wrap then 0x22 else 0

/-- The report record (R130). -/
def mmfRecord (r : MxRun) (gtc : Nat) : List Byte :=
  let w := slWidth r.sa r.sb
  let pairs := (slPairs (r.desc.b 472) (r.desc.f 339 336) r.sa r.sb).length
  leBytes 2 r.sa ++ leBytes 2 r.sb ++ leBytes 2 w ++ leBytes 2 (slHeight r.sa r.sb) ++ leBytes 4 pairs
  ++ leBytes 2 r.dmaxA ++ leBytes 2 r.dmaxB ++ leBytes 8 r.prep ++ leBytes 8 r.steps ++ leBytes 4 (min r.nan (2 ^ 32 - 1))
  ++ leBytes 1 r.final ++ leBytes 1 (if r.desc.b 472 then 1 else 0) ++ leBytes 2 0 ++ leBytes 8 gtc ++ leBytes 16 0

/-- What the completion of an MMF leaves in the SL_ registers and in its report. -/
def mmfClose (t : Nat) (r : MxRun) : Plan := fun s =>
  if r.desc.opc ≠ 0x10 ∨ r.final ∈ [0x84, 0x85, 0x14, 0x66] then [] else
  let d := r.desc
  let ran := r.final ∈ [0, 0x40, 0x24]
  plans
   [fun s => [wr .SL_STAT_PHASE 0 t, bump s (if d.b 472 then .SL_MODE_CNT_STRICT else .SL_MODE_CNT_FAST) 1 t,
      bump s .SL_EXC_CNT_NONFIN_OUT r.nan t]
     ++ (if r.final = 0x23 then [bump s .SL_EXC_CNT_LIMIT 1 t] else [])
     ++ (if ran ∧ ¬ d.prepOnly then
          [wr .SL_STAT_LAST_SA r.sa t, wr .SL_STAT_LAST_SB r.sb t, wr .SL_STAT_LAST_W64 (slWidth r.sa r.sb / 64) t,
           wr .SL_STAT_LAST_MS (slHeight r.sa r.sb) t,
           wr .SL_STAT_LAST_PAIRS (slPairs (d.b 472) (d.f 339 336) r.sa r.sb).length t] else []),
    if ran ∧ d.mmfReport ≠ [] then writeTs t (d.f 503 480) (mmfRecord r s.gtc) [] else fun _ => []] s

/-- The first started descriptor completes in its cycle: summary, counter, MX_STAT and MX_MAC_CNT (R98, R99). -/
def matrixDone (t : Nat) : Plan := fun s =>
  match s.parts.mx.at t with
  | [] => []
  | r :: rest =>
    if ¬ r.fin ∨ s.clock < r.done then [] else
    let d := r.desc
    let st := r.final
    let ran := st ∈ [0, 0x22, 0x24, 0x40]
    let macs := if ran ∧ (d.opc = 1 ∨ (d.opc = 0x10 ∧ ¬ d.prepOnly)) then d.f 303 288 * d.f 319 304 * d.f 335 320 else 0
    plans
     [mmfClose t r,
      fun s => [.parts fun p => { p with mx := p.mx.set t rest }, wr .MX_STAT_BUSY (if rest = [] then 0 else 1) t,
        wr .MX_STAT_LAST_STATUS st t, wr .MX_STAT_LAST_TAG (d.f 47 32) t,
        bumpWrap s .MX_MAC_CNT_COUNT (if d.opc = 1 then macs else 0) t],
      complete t 0 d st macs (min r.pg (2 ^ 32 - 1) + min r.stall (2 ^ 32 - 1) * 2 ^ 32) (r.done - r.start) r.spec] s

/-- A matrix descriptor completes. -/
def execMatrixCompletion (tile : Tile) (s : State) : Outcome State Fault Refusal :=
  .next <| s.perform (matrixDone tile)

end Sys2Proof.Machine
end

