-- ==== Sys2Proof/Machine/SolverMath.lean ====
section
/-! DEFINITION. The arithmetic of the sparse solver (Sparse Solver Engine: R173, R174, R180 to R183, R531): structure images, the
factorisation, triangular solves, residuals and inner iterations, on lists of encodings in the stored order. -/
namespace Sys2Proof.Machine

/-- A structure image (Tables 7.1 and 7.2): its header fields and sections. -/
structure SvImg where
  format : Nat
  kind : Nat
  n : Nat
  na : Nat
  nf : Nat
  lev : Nat
  upd : Nat
  perm : List Nat := []
  rowptr : List Nat := []
  colidx : List Nat := []
  amap : List Nat := []
  level : List Nat := []
  aval : List Nat := []
  fval : List Nat := []
deriving DecidableEq, Repr

/-- The sizes of the sections in bytes, in order. -/
def SvImg.sizes (m : SvImg) : List Nat := [4 * m.n, 4 * (m.n + 1), 4 * m.nf, 4 * m.na, 4 * (m.lev + 1), 8 * m.na, 4 * m.nf]

/-- The offset of section k from the image's base; each begins at the next multiple of 64 (R173). -/
def SvImg.sec (m : SvImg) (k : Nat) : Nat := (m.sizes.take k).foldl (fun a z => a + ceilDiv z 64 * 64) 64

/-- BYTES. -/
def SvImg.bytes (m : SvImg) : Nat := m.sec 7

/-- The header fields are in range (Table 7.1). -/
def SvImg.headerOk (m : SvImg) : Bool :=
  m.format == 1 && decide (1 ≤ m.n ∧ m.n ≤ 524288 ∧ m.n ≤ m.na ∧ m.na ≤ m.nf ∧ 1 ≤ m.lev ∧ m.lev ≤ m.n ∧ m.upd < 2 ^ 40)

/-- The positions of row i. -/
def SvImg.row (m : SvImg) (i : Nat) : List Nat :=
  let a := m.rowptr.getD i 0
  (List.range (m.rowptr.getD (i + 1) 0 - a)).map (a + ·)

/-- The column of a position. -/
def SvImg.col (m : SvImg) (p : Nat) : Nat := m.colidx.getD p 0

/-- The position of entry (i, j), if it is in the pattern. -/
def SvImg.pos (m : SvImg) (i j : Nat) : Option Nat := (m.row i).find? fun p => m.col p == j

/-- The positions of row i with a column below i. -/
def SvImg.lower (m : SvImg) (i : Nat) : List Nat := (m.row i).filter fun p => decide (m.col p < i)

/-- The positions of row i with a column above i. -/
def SvImg.upper (m : SvImg) (i : Nat) : List Nat := (m.row i).filter fun p => decide (i < m.col p)

/-- A list strictly rises. -/
def rising : List Nat → Bool
  | a :: b :: t => decide (a < b) && rising (b :: t)
  | _ => true

/-- A list does not fall. -/
def nonFalling : List Nat → Bool
  | a :: b :: t => decide (a ≤ b) && nonFalling (b :: t)
  | _ => true

/-- The updates of column k for row i, as the columns j whose entry (i, j) they reach (R531). -/
def SvImg.targets (m : SvImg) (i k : Nat) : List Nat :=
  if m.kind = 0 then (m.upper k).map m.col
  else (List.range (i + 1)).filter fun j => decide (k < j) && (m.pos j k).isSome

/-- The level of a row. -/
def SvImg.levelOf (m : SvImg) (i : Nat) : Nat := (m.level.filter fun r => decide (r ≤ i)).length

/-- The structure is sound (R174). -/
def SvImg.structureOk (m : SvImg) : Bool :=
  let rows := List.range m.n
  m.perm.all (fun p => decide (p < m.n)) && m.perm.eraseDups.length == m.perm.length
  && m.rowptr.head? == some 0 && nonFalling m.rowptr && m.rowptr.getLast? == some m.nf
  && rows.all (fun i => rising ((m.row i).map m.col) && (m.row i).all (fun p => decide (m.col p < m.n)) && (m.pos i i).isSome
      && (m.kind == 0 || (m.upper i).isEmpty))
  && rising m.amap && m.amap.all (fun p => decide (p < m.nf))
  && m.level.head? == some 0 && rising m.level && m.level.getLast? == some m.n
  && rows.all (fun i => (m.lower i).all fun p =>
      (m.targets i (m.col p)).all (fun j => (m.pos i j).isSome) && m.levelOf (m.col p) != m.levelOf i)
  && (rows.foldl (fun a i => (m.lower i).foldl (fun a p => a + (m.targets i (m.col p)).length) a) 0) == m.upd

/-! ### Values -/

/-- The AVAL value at a position, if it has a slot. -/
def SvImg.valAt (m : SvImg) (p : Nat) : Option Nat := (m.amap.findIdx? (· == p)).map fun k => m.aval.getD k 0

/-- An FP64 encoding rounded once to FP32. -/
def to32 (v : Nat) : Nat := (Fmt.fp32.convert .fp64 .ne false v).1

/-- The FP32 starting value of a position: a slot's value, or +0 (R531). -/
def SvImg.start (m : SvImg) (p : Nat) : Nat := match m.valAt p with | some v => to32 v | none => 0

/-- The entries of row i of A with their columns, ascending; KIND 1 reads the stored triangle both ways (R531). -/
def SvImg.aRow (m : SvImg) (i : Nat) : List (Nat × Nat) :=
  let own := (m.row i).filterMap fun p => (m.valAt p).map fun v => (m.col p, v)
  if m.kind = 0 then own
  else own ++ (List.range m.n).filterMap fun j =>
    if i < j then match m.pos j i with
      | some p => (m.valAt p).map fun v => (j, v)
      | none => none
    else none

/-- FP32 negation. -/
def neg32 (v : Nat) : Nat := v ^^^ 0x80000000

/-- y − a × b in one fused FP32 operation. -/
def subMul (y a b : Nat) : Nat := (Fmt.fp32.fma .ne (neg32 a) b y).1

/-- An FP32 division. -/
def div32 (a b : Nat) : Nat := (Fmt.fp32.div .ne a b).1

/-- An FP32 or FP64 encoding is infinite or NaN. -/
def badVal (f : Fmt) (v : Nat) : Bool := match f.decode v with | .fin _ _ _ => false | _ => true

/-- ‖A‖: the largest |a| over AVAL, as FP64 (R181). -/
def SvImg.norm (m : SvImg) : Nat := m.aval.foldl (fun a v => max a (v % 2 ^ 63)) 0

/-- The threshold θ = τ × ‖A‖ in FP32 (R181). -/
def SvImg.theta (m : SvImg) (tau : Nat) : Nat :=
  match (Fmt.fp32.decode tau).mul (Fmt.fp64.decode m.norm) with
  | some v => (Fmt.fp32.ofFV .ne false v).1
  | none => Fmt.fp32.nan

/-! ### The factorisation (R181, R531) -/

/-- A factor being formed: its values by position, under KIND 1 the values before division, the pivot replacements, and whether a
value became infinite or NaN. -/
structure Factoring where
  f : List Nat
  w : List Nat
  piv : Nat
  bad : Bool
deriving DecidableEq, Repr

/-- A position takes a formed value. -/
def Factoring.put (a : Factoring) (p v : Nat) : Factoring := { a with f := a.f.set p v, bad := a.bad || badVal .fp32 v }

/-- Column k of row i: the division and its updates (R531). -/
def SvImg.eliminate (m : SvImg) (i : Nat) (a : Factoring) (p : Nat) : Factoring :=
  let k := m.col p
  let wik := a.f.getD p 0
  let l := div32 wik (a.f.getD ((m.pos k k).getD 0) 0)
  let a := { a.put p l with w := a.w.set p wik }
  (m.targets i k).foldl (fun a j =>
    match m.pos i j with
    | none => a
    | some q =>
      let x := if m.kind = 0 then a.f.getD ((m.pos k j).getD 0) 0
        else if j = i then wik else a.w.getD ((m.pos j k).getD 0) 0
      a.put q (subMul (a.f.getD q 0) l x)) a

/-- The pivot test of row i (R181). -/
def SvImg.pivot (m : SvImg) (theta i : Nat) (a : Factoring) : Factoring :=
  match m.pos i i with
  | none => a
  | some p =>
    let v := a.f.getD p 0
    if (Fmt.fp32.decode (v % 2 ^ 31)).cmp (Fmt.fp32.decode theta) == .lt ∧ ¬ (Fmt.fp32.decode v).isNan then
      { a with f := a.f.set p (if v % 2 ^ 31 = 0 then theta else v / 2 ^ 31 * 2 ^ 31 + theta), piv := a.piv + 1 }
    else a

/-- The factor of the values (R531). -/
def SvImg.factor (m : SvImg) (tau : Nat) : Factoring :=
  let theta := m.theta tau
  let f0 := (List.range m.nf).map m.start
  (List.range m.n).foldl (fun a i => m.pivot theta i ((m.lower i).foldl (m.eliminate i) a))
    ⟨f0, List.replicate m.nf 0, 0, f0.any (badVal .fp32) || badVal .fp32 theta⟩

/-! ### Triangular solves and products (R531) -/

/-- The solve with L. -/
def SvImg.solveL (m : SvImg) (b : List Nat) : List Nat :=
  (List.range m.n).foldl (fun y i => y.set i ((m.lower i).foldl (fun v p => subMul v (m.fval.getD p 0) (y.getD (m.col p) 0)) (b.getD i 0))) b

/-- The solve with U (KIND 0), or with D and the transpose of L (KIND 1). -/
def SvImg.solveU (m : SvImg) (y : List Nat) : List Nat :=
  let diag := fun i => m.fval.getD ((m.pos i i).getD 0) 0
  let back := (List.range m.n).reverse
  if m.kind = 0 then
    back.foldl (fun x i => x.set i (div32
      ((m.upper i).foldl (fun v p => subMul v (m.fval.getD p 0) (x.getD (m.col p) 0)) (x.getD i 0)) (diag i))) y
  else
    let z := y.mapIdx fun i v => div32 v (diag i)
    back.foldl (fun x i => x.set i (((List.range m.n).filter fun j => decide (i < j)).foldl (fun v j =>
      match m.pos j i with | some p => subMul v (m.fval.getD p 0) (x.getD j 0) | none => v) (x.getD i 0))) z

/-- The solve with the factor. -/
def SvImg.solve (m : SvImg) (b : List Nat) : List Nat := m.solveU (m.solveL b)

/-- A × v in FP32. -/
def SvImg.mulA (m : SvImg) (v : List Nat) : List Nat :=
  (List.range m.n).map fun i => (m.aRow i).foldl (fun y e => (Fmt.fp32.fma .ne (to32 e.2) (v.getD e.1 0) y).1) 0

/-- Jacobi preconditioning. -/
def SvImg.jacobi (m : SvImg) (v : List Nat) : List Nat := v.mapIdx fun i x => div32 x (((m.pos i i).map m.start).getD 0)

/-- The preconditioner (Table 7.4). -/
def SvImg.precond (m : SvImg) (k : Nat) (v : List Nat) : List Nat :=
  match k with | 0 => v | 1 => m.jacobi v | _ => m.solve v

/-- An inner dot product: FP32 products summed by the tree of R157 (R182). -/
def dot32 (a b : List Nat) : Nat :=
  let ps := List.zipWith (fun x y => (Fmt.fp32.mul .ne x y).1) a b
  (reduce 6 0 .ne ps.length fun i => ps[i]?).1

/-- y + a × x element by element; whether the update is fused is open. -/
def axpy32 (a : Nat) (x y : List Nat) : List Nat := List.zipWith (fun x y => Config.axpy a x y % 2 ^ 32) x y

/-- A denominator that stops the inner iterations: zero, or not finite (R182). -/
def deadDen (v : Nat) : Bool := (Fmt.fp32.decode v).isZero || badVal .fp32 v

/-- CG in FP32 from zero: the correction, its residual, the direction, and r·z; the flag is set once it stops (R182). -/
structure Cg where
  x : List Nat
  r : List Nat
  p : List Nat
  rz : Nat
  stopped : Bool
deriving DecidableEq, Repr

/-- One CG iteration. -/
def SvImg.cgStep (m : SvImg) (pre : Nat) (c : Cg) : Cg :=
  if c.stopped then c else
  let q := m.mulA c.p
  let den := dot32 c.p q
  if deadDen den then { c with stopped := true } else
  let alpha := div32 c.rz den
  let x := axpy32 alpha c.p c.x
  let r := axpy32 (neg32 alpha) q c.r
  if deadDen c.rz then { c with x := x, r := r, stopped := true } else
  let z := m.precond pre r
  let rz := dot32 r z
  ⟨x, r, axpy32 (div32 rz c.rz) c.p z, rz, false⟩

/-- BiCGSTAB in FP32 from zero. -/
structure Bicg where
  x : List Nat
  r : List Nat
  p : List Nat
  v : List Nat
  rho : Nat
  alpha : Nat
  omega : Nat
  stopped : Bool
deriving DecidableEq, Repr

/-- One BiCGSTAB iteration with the shadow residual `rh`. -/
def SvImg.bicgStep (m : SvImg) (pre : Nat) (rh : List Nat) (c : Bicg) : Bicg :=
  if c.stopped then c else
  let rho := dot32 rh c.r
  if deadDen c.rho ∨ deadDen c.omega then { c with stopped := true } else
  let beta := (Fmt.fp32.mul .ne (div32 rho c.rho) (div32 c.alpha c.omega)).1
  let p := axpy32 beta (axpy32 (neg32 c.omega) c.v c.p) c.r
  let ph := m.precond pre p
  let v := m.mulA ph
  let den := dot32 rh v
  if deadDen den then { c with stopped := true } else
  let alpha := div32 rho den
  let sv := axpy32 (neg32 alpha) v c.r
  let sh := m.precond pre sv
  let t := m.mulA sh
  let tt := dot32 t t
  if deadDen tt then { c with stopped := true } else
  let omega := div32 (dot32 t sv) tt
  ⟨axpy32 omega sh (axpy32 alpha ph c.x), axpy32 (neg32 omega) t sv, p, v, rho, alpha, omega, false⟩

/-- A function applied n times. -/
def iterate {α : Type} (f : α → α) : Nat → α → α
  | 0, a => a
  | n + 1, a => iterate f n (f a)

/-- The FP32 correction of one outer iteration on the scaled residual b (R182). -/
def SvImg.inner (m : SvImg) (method pre count : Nat) (b : List Nat) : List Nat :=
  let zero := List.replicate m.n 0
  match method with
  | 0 => m.solve b
  | 1 =>
    let z := m.precond pre b
    (iterate (m.cgStep pre) count ⟨zero, b, z, dot32 b z, false⟩).x
  | _ => (iterate (m.bicgStep pre b) count ⟨zero, b, zero, zero, 0x3F800000, 0x3F800000, 0x3F800000, false⟩).x

/-! ### Residuals and norms (R180, R182) -/

/-- An empty accumulator. -/
def LongAcc.zero : LongAcc := ⟨0, false, false, false, false, 0⟩

/-- b_i − Σ a_ik x_k exactly, rounded once (R180). -/
def SvImg.residual (m : SvImg) (b x : List Nat) : List Nat :=
  (List.range m.n).map fun i =>
    ((m.aRow i).foldl (fun a e => a.add (((Fmt.fp64.decode e.2).mul (Fmt.fp64.decode (x.getD e.1 0))).map FV.negate) false)
      (LongAcc.zero.add (some (Fmt.fp64.decode (b.getD i 0))) false)).read.1

/-- ‖v‖₂: the exact sum of squares, its root rounded once (R159, R180). -/
def norm2 (v : List Nat) : Nat :=
  (v.foldl (fun a x => a.add ((Fmt.fp64.decode x).mul (Fmt.fp64.decode x)) false) LongAcc.zero).root.1

/-- The exponent e of a residual: h of its largest magnitude, 0 when every element is zero (R113, R182). -/
def scaleExp (r : List Nat) : Int :=
  match Fmt.fp64.decode (r.foldl (fun m v => max m (v % 2 ^ 63)) 0) with
  | .fin _ m e => if m = 0 then 0 else e + Nat.log2 m
  | _ => 0

/-- A finite value times 2^e. -/
def FV.scale (e : Int) : FV → FV
  | .fin n m x => .fin n m (x + e)
  | v => v

/-- The candidate of one outer iteration: x + d with d = 2^e times the FP32 correction (R182). -/
def SvImg.candidate (m : SvImg) (method pre count : Nat) (x r : List Nat) : List Nat × Bool :=
  let e := scaleExp r
  let b := r.map fun v => (Fmt.fp32.ofFV .ne false ((Fmt.fp64.decode v).scale (-e))).1
  let c := m.inner method pre count b
  let d := c.map fun v => (Fmt.fp64.ofFV .ne false ((Fmt.fp32.decode v).scale e)).1
  let xc := List.zipWith (fun a b => (Fmt.fp64.add .ne a b).1) x d
  (xc, c.any (badVal .fp32) || d.any (badVal .fp64) || xc.any (badVal .fp64))

/-- a ≤ t × b on finite FP64 values, exactly. -/
def withinTol (a t b : Nat) : Bool :=
  match Fmt.fp64.decode a, (Fmt.fp64.decode t).mul (Fmt.fp64.decode b) with
  | .fin n m e, some (.fin n' m' e') => (dyOf n m e).le (dyOf n' m' e')
  | .fin _ _ _, some (.inf neg) => !neg
  | _, _ => false

end Sys2Proof.Machine
end

