-- ==== Sys2Proof/Machine/Solver.lean ====
section
/-! DEFINITION. The sparse solver engine (Sparse Solver Engine: R172 to R200). The command of an operation starts the descriptor at
the head of the queue; a solve then moves from phase to phase. -/
namespace Sys2Proof.Machine
open Host

/-! ### Structure images (R173, R174) -/

/-- The numbers of `w` bytes in a read. -/
def Rd.words (r : Rd) (w n : Nat) : List Nat := (List.range n).map fun k => leNat ((r.data.drop (w * k)).take w)

/-- The fields of a header (Table 7.1). -/
def headerOf (h : Nat) : SvImg :=
  { format := bitsOf h 15 0, kind := bitOf h 16, n := bitsOf h 63 32, na := bitsOf h 95 64, nf := bitsOf h 127 96,
    lev := bitsOf h 159 128, upd := bitsOf h 255 192 }

/-- Section k of the image at `base`, under its header. -/
def State.svSec (s : State) (t base : Nat) (m : SvImg) (k : Nat) : Rd := s.readTs t (base + m.sec k) (m.sizes.getD k 0)

/-- The header of the image at `base`. -/
def State.svHead (s : State) (t base : Nat) : SvImg := headerOf (leNat (s.readTs t base 64).data)

/-- The whole image at `base`. -/
def State.svImg (s : State) (t base : Nat) : SvImg :=
  let m := s.svHead t base
  { m with perm := (s.svSec t base m 0).words 4 m.n, rowptr := (s.svSec t base m 1).words 4 (m.n + 1),
           colidx := (s.svSec t base m 2).words 4 m.nf, amap := (s.svSec t base m 3).words 4 m.na,
           level := (s.svSec t base m 4).words 4 (m.lev + 1), aval := (s.svSec t base m 5).words 8 m.na,
           fval := (s.svSec t base m 6).words 4 m.nf }

/-- Some granule of a section is poisoned. -/
def State.svSecBad (s : State) (t base : Nat) (m : SvImg) (k : Nat) : Bool := !(s.svSec t base m k).bad.isEmpty

/-- The slots that hold an infinity or NaN (R176). -/
def nonfinite (aval : List Nat) : Nat := (aval.filter (badVal .fp64)).length

/-! ### Costs (Table 7.5) -/

/-- The tile has six beats. -/
def State.sixBeats (s : State) (t : Nat) : Bool := s.rd .TC_CAPS_VBEATS t == 6

/-- NNZ_E. -/
def SvImg.ne (m : SvImg) : Nat := if m.kind = 0 then m.na else 2 * m.na - m.n

/-- SV_LOAD with VALONLY = 0. -/
def SvImg.tLoad (m : SvImg) : Nat :=
  64 + ceilDiv (4 * (2 * m.n + 1) + 4 * m.nf + 4 * m.na + 4 * (m.lev + 1) + 8 * m.na) 256 + ceilDiv m.upd 32

/-- T_res on a tile of 4 or 6 beats. -/
def SvImg.tRes (m : SvImg) (six : Bool) : Nat :=
  let k := if six then 6 else 8
  64 + ceilDiv m.ne k + ceilDiv m.n k

/-- T_r0. -/
def SvImg.tR0 (m : SvImg) (six : Bool) : Nat := m.tRes six + ceilDiv m.n (if six then 6 else 8)

/-- T_fact. -/
def SvImg.tFact (m : SvImg) : Nat := 16 + ceilDiv m.na 32 + 24 * m.lev + ceilDiv m.upd 32

/-- T_tri. -/
def SvImg.tTri (m : SvImg) : Nat := 24 * m.lev + 2 * ceilDiv m.nf 16

/-- T_vec. -/
def SvImg.tVec (m : SvImg) (six : Bool) : Nat := 16 + 2 * ceilDiv m.n (if six then 24 else 32)

/-- T_prec. -/
def SvImg.tPrec (m : SvImg) (k : Nat) : Nat := match k with | 0 => 0 | 1 => ceilDiv m.n 32 | _ => m.tTri

/-- T_in of CG and BiCGSTAB. -/
def SvImg.tIn (m : SvImg) (method pre : Nat) : Nat :=
  if method = 1 then ceilDiv m.ne 16 + 3 * ceilDiv m.n 32 + 40 + m.tPrec pre
  else 2 * ceilDiv m.ne 16 + 6 * ceilDiv m.n 32 + 80 + 2 * m.tPrec pre

/-- T_it. -/
def SvImg.tIt (m : SvImg) (six : Bool) (method pre count : Nat) : Nat :=
  (if method = 0 then m.tTri else count * m.tIn method pre) + m.tVec six + m.tRes six

/-- T_commit. -/
def SvImg.tCommit (m : SvImg) : Nat := ceilDiv m.n 16

/-! ### Starting (R177, R179, R196, R198) -/

/-- The descriptor's handle. -/
def Desc.svHandle (d : Desc) : Nat := if d.opc = 3 then d.f 193 192 else d.f 97 96

/-- A handle is valid. -/
def State.svValid (s : State) (t h : Nat) : Bool := s.rd .SV_HSTAT_VALID t h == 1

/-- The image's base. -/
def State.svBase (s : State) (t h : Nat) : Nat := s.rd .SV_HBASE_BASE t h

/-- The image of a valid handle as one region. -/
def State.svRegion (s : State) (t h : Nat) : List (Nat × Nat) :=
  if s.svValid t h then [(s.svBase t h, (s.svHead t (s.svBase t h)).bytes)] else []

/-- The solve factorises: its method uses the factor, and FACT is 1 or the factor's state NONE or POISONED (R180). -/
def State.svFactorises (s : State) (t : Nat) (d : Desc) : Bool :=
  let f := s.rd .SV_HSTAT_FACT t (d.f 193 192)
  (d.f 195 194 == 0 || d.f 197 196 == 2) && (d.b 198 || f == 0 || f == 3)

/-- X, B, W and the report of a solve of order n. -/
def Desc.svRegions (d : Desc) (n : Nat) : List (Nat × Nat) :=
  [(d.f 87 64, 8 * n), (d.f 119 96, 8 * n), (d.f 151 128, 40 * n)] ++ (if d.b 184 then [(d.f 183 160, 64)] else [])

/-- What a descriptor reads and writes (R196). -/
def State.svTouches (s : State) (t : Nat) (d : Desc) : List (Nat × Nat) × List (Nat × Nat) :=
  let img := s.svRegion t d.svHandle
  match d.opc with
  | 1 => if d.b 98 then (img, []) else
      let a := d.f 87 64
      ([(a, (s.svHead t a).bytes)], [(a, 64)])
  | 2 => ((d.f 87 64, 16 * d.f 147 128) :: img, img)
  | 3 =>
    let r := d.svRegions (s.rd .SV_HSTAT_N t d.svHandle)
    (img ++ r.take 2, (if s.svFactorises t d then img else []) ++ r.filter fun x => x.1 != d.f 119 96)
  | _ => ([], [])

/-- A descriptor is speculative as it starts. -/
def State.svSpec (s : State) (t : Nat) (d : Desc) : Bool :=
  d.win && s.window t && (d.marked || (s.svTouches t d).1.any fun r => s.touchesCaldera t r.1 r.2)

/-- It would write outside the caldera. -/
def State.svLeaves (s : State) (t : Nat) (d : Desc) : Bool := (s.svTouches t d).2.any fun r => !s.insideCaldera t r.1 r.2

/-- A descriptor starts with its completion already known. -/
def svBegin (t : Nat) (d : Desc) (done status val0 val1 : Nat) (spec : Bool) : Plan := plans
  [fun s => begin_ t 1 { desc := d, start := s.clock, done := done, status := status, val0 := val0, val1 := val1, spec := spec } s,
   fun _ => [wr .SV_STAT_BUSY 1 t, wr .SV_STAT_PHASE 1 t, wr .SV_STAT_SPEC_HOLD 0 t]]

/-- VAL0 of a descriptor that did nothing: +∞ for a solve, which has no iterate (R192). -/
def Desc.svNone (d : Desc) : Nat := if d.opc = 3 then 0x7FF0000000000000 else 0

/-- The command of an operation: in its turn the head of the queue starts, unless a squash has ended it, its function is off, or
`bad` refuses it (R177, R179, R194, R198, R219). -/
def svCommand (t opc : Nat) (bad : State → Desc → Bool) (body : Desc → Plan) : Plan := fun s =>
  match s.queue t 1 with
  | [] => []
  | d :: _ =>
    if d.opc ≠ opc ∨ ¬ s.domOn t ∨ (s.running t 1).isSome then []
    else if d.note ≠ 0 then
      svBegin t d (max s.clock (max (s.vr .SQ_AT t) (s.vr .SV_LAST t + 1))) d.note 0 0 false s
    else if ¬ s.ready t d ∨ s.clock ≤ s.vr .SV_LAST t then []
    else match funcServes (s.rd .SV_STAT_FSTATE t) (s.rd .SV_STAT_PEND_EN t) (s.vr .FUNC_DIS_AT t 1) d.issued with
      | none => []
      | some on =>
        if bad s d then svBegin t d (s.clock + 2) 0x84 d.svNone 0 false s
        else if ¬ on then svBegin t d (s.clock + 1) 0x85 d.svNone 0 false s
        else if opc ≠ 3 ∧ s.svSpec t d ∧ s.svLeaves t d then [wr .SV_STAT_SPEC_HOLD 1 t]
        else if opc ≠ 3 ∧ s.rd .SV_STAT_SPEC_HOLD t = 1 ∧ s.clock < s.vr .SPEC_RELEASE t then []
        else body d s

/-! ### SV_LOAD, SV_UPDATE and SV_FREE (R174 to R176, R195) -/

/-- A handle becomes invalid: its status reads 0. -/
def svDrop (t h : Nat) : List Act :=
  [wr .SV_HSTAT_VALID 0 t h, wr .SV_HSTAT_KIND 0 t h, wr .SV_HSTAT_FACT 0 t h, wr .SV_HSTAT_VPOIS 0 t h, wr .SV_HSTAT_N 0 t h,
   wr .SV_HSTAT_NONF 0 t h, wr .SV_HBASE_BASE 0 t h]

/-- NONF and VPOIS of a handle's values as they stand. -/
def svValues (t h : Nat) : Plan := fun s =>
  let base := s.svBase t h
  let m := s.svHead t base
  let r := s.svSec t base m 5
  [wr .SV_HSTAT_NONF (min (nonfinite (r.words 8 m.na)) 0xFFFFFF) t h]
  ++ (if r.bad.isEmpty then [] else [wr .SV_HSTAT_VPOIS 1 t h])

/-- A factor in state CURRENT becomes STALE. -/
def svStale (t h : Nat) : Plan := fun s => if s.rd .SV_HSTAT_FACT t h = 1 then [wr .SV_HSTAT_FACT 2 t h] else []

/-- SV_LOAD with VALONLY = 1: the values are read again. The answer is the plan, the status, VAL0 and VAL1. -/
def svReload (t : Nat) (d : Desc) (s : State) : Plan × Nat × Nat × Nat :=
  let h := d.svHandle
  let base := s.svBase t h
  let m := s.svHead t base
  let r := s.svSec t base m 5
  (plans [noteRead r, fun _ => [wr .SV_HSTAT_VPOIS 0 t h], svValues t h, svStale t h],
   if r.bad.isEmpty then 0 else 0x40, m.bytes, 40 * m.n)

/-- SV_LOAD with VALONLY = 0: the structure is checked and the handle refers to it, or is left invalid. -/
def svLoad (t : Nat) (d : Desc) (s : State) : Plan × Nat × Nat × Nat :=
  let h := d.svHandle
  let a := d.f 87 64
  let hd := s.readTs t a 64
  let m := headerOf (leNat hd.data)
  let fits := m.headerOk && decide (a + m.bytes ≤ 2 ^ 24)
  let img := if fits then s.svImg t a else m
  let secs := if fits then (List.range 6).map (s.svSec t a m) else []
  let pois := !hd.bad.isEmpty || (secs.take 5).any fun r => !r.bad.isEmpty
  let vp := (secs.drop 5).any fun r => !r.bad.isEmpty
  let sound := fits && img.structureOk
  let cap := fun n => leBytes 4 (min n (2 ^ 32 - 1))
  (plans
   [planAll (hd :: secs) noteRead,
    if sound ∧ ¬ pois then plans
      [writeTs t (a + 32) (cap m.tFact ++ cap m.tTri ++ cap (m.tRes false) ++ cap (m.tRes true) ++ cap m.bytes) [],
       fun _ => [wr .SV_HSTAT_VALID 1 t h, wr .SV_HSTAT_KIND m.kind t h, wr .SV_HSTAT_N m.n t h, wr .SV_HBASE_BASE a t h],
       svValues t h]
    else fun _ => []],
   if ¬ sound then 0x87 else if pois ∨ vp then 0x40 else 0, m.bytes, 40 * m.n)

/-- The refusal of an SV_LOAD (R179). -/
def svLoadBad (t : Nat) (s : State) (d : Desc) : Bool :=
  if d.b 98 then !s.svValid t d.svHandle else d.f 87 64 % 64 != 0 || decide (2 ^ 24 < d.f 87 64 + 64)

/-- An SV_LOAD starts; one that reads a structure ends what its handle referred to (R172). -/
def svLoadStart (t : Nat) (d : Desc) : Plan := fun s =>
  let m := s.svHead t (if d.b 98 then s.svBase t d.svHandle else d.f 87 64)
  plans
   [svBegin t d (s.clock + if d.b 98 then 32 + ceilDiv (8 * m.na) 256 else m.tLoad) 0 0 0 (s.svSpec t d),
    fun _ => if d.b 98 then [] else svDrop t d.svHandle] s

/-- SV_LOAD. -/
def execSvLoad (tile : Tile) (s : State) : Outcome State Fault Refusal :=
  .next <| s.perform (svCommand tile 1 (svLoadBad tile) (svLoadStart tile))

/-- The records of an SV_UPDATE: slot, value, and whether the record's granule is poisoned. -/
def updRecords (t a n : Nat) (r : Rd) : List (Nat × Nat × Bool) :=
  (List.range n).map fun k =>
    let x := leNat ((r.data.drop (16 * k)).take 16)
    (x % 2 ^ 32, x / 2 ^ 64, r.bad.contains (storeBase t + (a + 16 * k) / 64 * 64))

/-- SV_UPDATE (R175, R176). -/
def svUpdate (t : Nat) (d : Desc) (s : State) : Plan × Nat × Nat × Nat :=
  let h := d.svHandle
  let a := d.f 87 64
  let n := d.f 147 128
  let base := s.svBase t h
  let m := s.svHead t base
  let r := s.readTs t a (16 * n)
  let recs := updRecords t a n r
  let good := recs.filter fun x => decide (x.1 < m.na)
  let skipped := n - good.length
  (plans
   [noteRead r,
    planAll good fun x => let o := base + m.sec 5 + 8 * x.1
      writeTs t o (leBytes 8 x.2.1) (if x.2.2 then [storeBase t + o / 64 * 64] else []),
    svValues t h,
    if good.isEmpty then fun _ => [] else svStale t h],
   if good.any (·.2.2) then 0x40 else if skipped ≠ 0 then 0x86 else 0, skipped, 0)

/-- The refusal of an SV_UPDATE (R179). -/
def svUpdateBad (t : Nat) (s : State) (d : Desc) : Bool :=
  d.f 87 64 % 64 != 0 || decide (2 ^ 24 < d.f 87 64 + 16 * d.f 147 128) || d.f 147 128 == 0 || !s.svValid t d.svHandle

/-- SV_UPDATE. -/
def execSvUpdate (tile : Tile) (s : State) : Outcome State Fault Refusal :=
  .next <| s.perform (svCommand tile 2 (svUpdateBad tile) fun d s =>
    svBegin tile d (s.clock + 16 + ceilDiv (d.f 147 128) 8) 0 0 0 (s.svSpec tile d) s)

/-- SV_FREE. -/
def execSvFree (tile : Tile) (s : State) : Outcome State Fault Refusal :=
  .next <| s.perform (svCommand tile 4 (fun _ _ => false) fun d s => svBegin tile d (s.clock + 8) 0 0 0 (s.svSpec tile d) s)

/-! ### SV_SOLVE starts (R178 to R180, R185) -/

/-- The first tick after now. -/
def State.nextTick (s : State) : Nat :=
  if s.rd .GT_TICK_NEXT_VALUE = s.gtc then (s.gtc + s.rd .GT_FRAME_CUR_LEN) % 2 ^ 64 else s.rd .GT_TICK_NEXT_VALUE

/-- The deadline D of a solve that starts now. -/
def State.svDeadline (s : State) (d : Desc) : Option Nat :=
  match d.f 225 224 with
  | 1 => some (d.f 383 320)
  | 2 => some ((s.nextTick + 2 ^ 64 - d.f 287 256) % 2 ^ 64)
  | _ => none

/-- Two of a list of spans overlap. -/
def spansClash : List (Nat × Nat) → Bool
  | [] => false
  | r :: rs => spansMeet [r] rs || spansClash rs

/-- The refusal of an SV_SOLVE (R179). -/
def svSolveBad (t : Nat) (s : State) (d : Desc) : Bool :=
  let h := d.svHandle
  let r := d.svRegions (s.rd .SV_HSTAT_N t h)
  let tau := s.rd .SV_PIV_THRESH_TAU t
  let tol := d.f 447 384
  r.any (fun x => x.1 % 64 != 0 || decide (2 ^ 24 < x.1 + x.2)) || spansClash (r ++ s.svRegion t h) || !s.svValid t h
  || d.f 195 194 == 3 || d.f 197 196 == 3 || d.f 225 224 == 3
  || (d.f 195 194 == 1 && s.rd .SV_HSTAT_KIND t h == 0) || (d.f 195 194 != 0 && d.f 207 200 == 0)
  || (testB tol 63 && tol % 2 ^ 63 != 0) || decide (0x7FF0000000000000 < tol % 2 ^ 63)
  || (d.f 225 224 == 2 && !s.scheduled) || decide (tau < 0x00800000 ∨ 0x7F800000 ≤ tau)

/-- The deadline of a solve has been reached. -/
def State.svPast (s : State) (r : SvRun) : Bool := match r.deadline with | some d => !gtcBefore s.gtc d | none => false

/-- A vector in the stored order. -/
def SvImg.stored (m : SvImg) (v : List Nat) : List Nat := m.perm.map fun p => v.getD p 0

/-- The solve in progress changes. -/
def svSet (t : Nat) (f : SvRun → SvRun) : Act := .parts fun p => { p with sv := p.sv.put t ((p.sv.find t).map f) }

/-- The solve enters End in a cycle, with what its phase says its status is (R180, R186, R194). -/
def svEnd (t status c : Nat) : Plan := fun s =>
  match s.parts.sv.find t with
  | none => []
  | some r =>
    let st := if r.poison then 0x40 else if status = 0 ∧ r.pivots ≠ 0 then 0x20 else status
    [svSet t fun r => { r with status := st, last := r.phase, phase := 6, phaseEnd := c + 24 },
     wr .SV_STAT_PHASE 6 t, wr .SV_STAT_LEND_WAIT 0 t, wr .SV_STAT_SPEC_HOLD 0 t]

/-- Free bytes: what the spec leaves of a region that the engine uses for itself. -/
def freeBytes (t off n k : Nat) (bad : Bool) : Plan := fun s =>
  let ctr := s.vr .FREE_CTR
  writeTs t off ((List.range n).map fun i => BitVec.ofNat 8 (Config.fresh (1024 * i + k) ctr))
    (if bad then (granules off n).map fun p => storeBase t + p.1 / 64 * 64 else []) s ++ [takeFresh s]

/-- An SV_SOLVE starts: it reads B and x0, and finds poison, infinities and NaN. -/
def svSolve (t : Nat) (d : Desc) : Plan := fun s =>
  let h := d.svHandle
  let base := s.svBase t h
  let m := s.svImg t base
  let b := s.readTs t (d.f 119 96) (8 * m.n)
  let x := s.readTs t (d.f 87 64) (8 * m.n)
  let secs := (List.range (if s.svFactorises t d then 6 else 7)).map (s.svSec t base m)
  let bad := s.rd .SV_HSTAT_NONF t h != 0 || (b.words 8 m.n ++ x.words 8 m.n).any (badVal .fp64)
  let r : SvRun :=
    { desc := d, start := s.clock, phase := 1, phaseEnd := s.clock + 8, deadline := s.svDeadline d, spec := s.svSpec t d,
      poison := s.rd .SV_HSTAT_VPOIS t h == 1 || (b :: x :: secs).any (fun r => !r.bad.isEmpty), b := m.stored (b.words 8 m.n),
      x := m.stored (x.words 8 m.n), status := if bad then 0x24 else 0 }
  plans
   [planAll (b :: x :: secs) noteRead,
    svBegin t d (2 ^ 64) 0 0 0 false,
    fun _ => [.parts fun p => { p with sv := p.sv.put t (some r) }],
    planIf (fun s => s.svPast r) (svEnd t (if bad then 0x24 else 0x10) s.clock)] s

/-- SV_SOLVE. -/
def execSvSolve (tile : Tile) (s : State) : Outcome State Fault Refusal :=
  .next <| s.perform (svCommand tile 3 (svSolveBad tile) (svSolve tile))

/-! ### Phases (R180 to R183, R186, R187, R189, R196) -/

/-- The solve goes on to a phase. -/
def svNext (t phase stop : Nat) : Plan := fun _ =>
  [svSet t fun r => { r with phase := phase, phaseEnd := stop }, wr .SV_STAT_PHASE phase t, wr .SV_STAT_LEND_WAIT 0 t,
   wr .SV_STAT_SPEC_HOLD 0 t]

/-- Errors of the pivot and level buffers: counted, and an uncorrectable one poisons the solve (R195). -/
def svScrub (t : Nat) : Plan := fun s =>
  match s.vr .SV_BUF_BAD t with
  | 0 => []
  | 1 => [bump s .SV_ERR_CORR 1 t, wv .SV_BUF_BAD 0 t]
  | _ => [bump s .SV_ERR_UNCORR 1 t, wv .SV_BUF_BAD 0 t, svSet t fun r => { r with poison := true }]

/-- An outer iteration begins, or the solve ends because MAXIT is 0. -/
def svIterate (t : Nat) (c : Nat) : Plan := fun s =>
  match s.parts.sv.find t with
  | none => []
  | some r =>
    let d := r.desc
    let m := s.svHead t (s.svBase t d.svHandle)
    if d.f 223 208 = 0 then svEnd t 0 c s
    else plans [fun _ => [svSet t fun r => { r with iter := r.iter + 1 }],
      svNext t 4 (c + m.tIt (s.sixBeats t) (d.f 195 194) (d.f 197 196) (d.f 207 200))] s

/-- Decode ends, or the wait goes on: the solve needs its paired lend, and a speculative one that writes outside the caldera the cycle
after confirm. A discarded lend ends it with 0x85 in the next cycle. -/
def svWait (t : Nat) (r : SvRun) : Plan := fun s =>
  let d := r.desc
  let m := s.svHead t (s.svBase t d.svHandle)
  let lent := s.rd .VX_STAT_LENT t == 1 && s.vr .LENDS t == s.vr .SOLVES t + 1
  let held := r.spec && s.svLeaves t d
  let waited := s.rd .SV_STAT_LEND_WAIT t == 1 || s.rd .SV_STAT_SPEC_HOLD t == 1
  let c := if waited then s.clock else r.phaseEnd
  if r.status ≠ 0 then svEnd t r.status r.phaseEnd s
  else if (s.parts.lendsOff.at t).contains (s.vr .SOLVES t) then
    [svSet t fun r => { r with status := 0x85, last := r.phase, phase := 6, phaseEnd := s.clock + 1 },
     wr .SV_STAT_PHASE 6 t, wr .SV_STAT_LEND_WAIT 0 t, wr .SV_STAT_SPEC_HOLD 0 t]
  else if ¬ lent ∨ held ∨ (s.rd .SV_STAT_SPEC_HOLD t = 1 ∧ s.clock < s.vr .SPEC_RELEASE t) then
    [wr .SV_STAT_LEND_WAIT (if lent then 0 else 1) t] ++ (if held then [wr .SV_STAT_SPEC_HOLD 1 t] else [])
  else plans [svNext t 2 (c + m.tR0 (s.sixBeats t)), freeBytes t (d.f 151 128) (40 * m.n) 0x71 r.poison] s

/-- Iterate 0 ends: overflow and tolerance are tested, and the factorisation or the first iteration begins. -/
def svIterate0 (t : Nat) (r : SvRun) : Plan := fun s =>
  let d := r.desc
  let base := s.svBase t d.svHandle
  let m := s.svImg t base
  let res := m.residual r.b r.x
  let nb := norm2 r.b
  let n0 := norm2 res
  let ovr := res.any (badVal .fp64) || badVal .fp64 nb || badVal .fp64 n0
  if ovr then plans [fun _ => [svSet t fun r => { r with normB := nb, norm0 := n0 }], svEnd t 0x21 r.phaseEnd] s
  else plans
    [fun _ => [svSet t fun r => { r with normB := nb, norm0 := n0, norm := n0, r := res }],
     if withinTol n0 (d.f 447 384) nb then svEnd t 0 r.phaseEnd
     else if s.svFactorises t d then plans
       [fun _ => [wr .SV_HSTAT_FACT 0 t d.svHandle, svSet t fun r => { r with begun := true }],
        freeBytes t (base + m.sec 6) (4 * m.nf) 0x72 false, svNext t 3 (r.phaseEnd + m.tFact)]
     else svIterate t r.phaseEnd] s

/-- The factorisation ends: its factor stands, or it formed an infinity or NaN and is abandoned. -/
def svFactored (t : Nat) (r : SvRun) : Plan := fun s =>
  let d := r.desc
  let base := s.svBase t d.svHandle
  let m := s.svImg t base
  let f := m.factor (s.rd .SV_PIV_THRESH_TAU t)
  plans
   [fun s => [svSet t fun r => { r with pivots := f.piv, normA := m.norm, factored := !f.bad },
      bump s .SV_PIV_CNT_COUNT f.piv t],
    if f.bad then svEnd t 0x21 r.phaseEnd
    else plans
      [writeTs t (base + m.sec 6) (f.f.flatMap (leBytes 4))
         (if r.poison then (granules (base + m.sec 6) (4 * m.nf)).map fun p => storeBase t + p.1 / 64 * 64 else []),
       fun _ => [wr .SV_HSTAT_FACT (if r.poison then 3 else 1) t d.svHandle], svIterate t r.phaseEnd]] s

/-- An outer iteration ends: overflow, rejection, or its commit begins. -/
def svIterated (t : Nat) (r : SvRun) : Plan := fun s =>
  let d := r.desc
  let m := s.svImg t (s.svBase t d.svHandle)
  let c := m.candidate (d.f 195 194) (d.f 197 196) (d.f 207 200) r.x r.r
  let rc := m.residual r.b c.1
  let nc := norm2 rc
  if c.2 ∨ rc.any (badVal .fp64) ∨ badVal .fp64 nc then svEnd t 0x21 r.phaseEnd s
  else if r.norm < nc then plans [fun _ => [svSet t fun r => { r with rejected := 1 }], svEnd t 0x26 r.phaseEnd] s
  else plans [fun _ => [svSet t fun r => { r with xc := c.1, rc := rc, normC := nc }], svNext t 5 (r.phaseEnd + m.tCommit)] s

/-- A commit ends: the iterate stands in X in the caller's order, and the deadline, tolerance and limit are tested. -/
def svCommitted (t : Nat) (r : SvRun) : Plan := fun s =>
  let d := r.desc
  let m := s.svImg t (s.svBase t d.svHandle)
  let vals := (m.perm.zip r.xc).foldl (fun v p => v.set p.1 p.2) (List.replicate m.n 0)
  let x := d.f 87 64
  let tol := d.f 447 384
  let c := r.phaseEnd
  plans
   [writeTs t x (vals.flatMap (leBytes 8)) (if r.poison then (granules x (8 * m.n)).map fun p => storeBase t + p.1 / 64 * 64 else []),
    fun _ => [svSet t fun r => { r with x := r.xc, r := r.rc, norm := r.normC, accepted := r.accepted + 1 }],
    if r.cut ∨ s.svPast r then svEnd t 0x10 c
    else if withinTol r.normC tol r.normB then svEnd t 0 c
    else if r.iter = d.f 223 208 then svEnd t (if tol % 2 ^ 63 = 0 then 0 else 0x13) c
    else svIterate t c] s

/-- A phase of the solve ends, when its cycle has come and, for a phase that a deadline cuts, before D (R185). -/
def solvePhaseEnd (t : Nat) : Plan := fun s =>
  match s.parts.sv.find t with
  | none => []
  | some r =>
    if s.clock < r.phaseEnd ∨ r.phase = 6 ∨ (r.phase ≠ 5 ∧ r.status = 0 ∧ s.svPast r) then [] else
    plans [if r.phase = 1 then fun _ => [] else svScrub t, fun s =>
      match s.parts.sv.find t with
      | none => []
      | some r =>
        match r.phase with
        | 1 => svWait t r s
        | 2 => svIterate0 t r s
        | 3 => svFactored t r s
        | 4 => svIterated t r s
        | _ => svCommitted t r s] s

/-- A phase of a solve ends. -/
def execSolvePhaseEnd (tile : Tile) (s : State) : Outcome State Fault Refusal :=
  .next <| s.perform (solvePhaseEnd tile)

/-- D is reached in a solve in progress: it enters End with what it has (R186). -/
def solveDeadline (t : Nat) : Plan := fun s =>
  match s.parts.sv.find t with
  | none => []
  | some r =>
    match r.deadline with
    | none => []
    | some d =>
      if gtcBefore s.gtc d ∨ r.phase = 6 ∨ r.status ≠ 0 then [] else
      let c := max r.start (s.clock - (s.gtc + 2 ^ 64 - d) % 2 ^ 64)
      match r.phase with
      | 5 => [svSet t fun r => { r with cut := true }]
      | 3 => svEnd t 0x11 c s
      | _ => svEnd t 0x10 c s

/-- A solve deadline. -/
def execSolveDeadline (tile : Tile) (s : State) : Outcome State Fault Refusal :=
  .next <| s.perform (solveDeadline tile)

/-! ### Completion (R187, R188, R191 to R194, R197) -/

/-- VAL0 and VAL1 of a solve. -/
def SvRun.vals (r : SvRun) : Nat × Nat :=
  (if r.status = 0x40 ∨ r.status = 0x14 then 0 else r.norm,
   if r.status = 0x14 then 0 else
   min r.accepted 65535 + min r.pivots 65535 * 2 ^ 16 + r.last * 2 ^ 32 + (if r.factored then 2 ^ 35 else 0))

/-- The report (R193). -/
def SvRun.report (r : SvRun) (fact gtc : Nat) : List Byte :=
  leBytes 8 r.normB ++ leBytes 8 r.norm0 ++ leBytes 8 r.vals.1 ++ leBytes 8 r.normA ++ leBytes 4 r.accepted
  ++ leBytes 4 r.rejected ++ leBytes 4 r.pivots ++ leBytes 1 r.status ++ leBytes 1 fact ++ leBytes 2 0
  ++ leBytes 8 (r.deadline.getD 0) ++ leBytes 8 gtc

/-- The completed solve's X and summary are presented at point 4, now or on confirm (R197). -/
def svPresent (t : Nat) (d : Desc) (n status val0 val1 cycles : Nat) (spec poison : Bool) : Plan := fun s =>
  let sum := leBytes 8 (packFields [(0, status), (8, 1), (11, if spec then 1 else 0), (16, d.f 47 32), (32, s.gtc % 2 ^ 32)])
    ++ leBytes 8 val0 ++ leBytes 8 val1 ++ leBytes 8 cycles
  let x := d.f 87 64
  if spec then [.parts fun p => { p with svSnoop := p.svSnoop.set t (p.svSnoop.at t ++ [⟨x, 8 * n, poison, sum⟩]) }]
  else plans [snoop t 4 x ((s.readTs t x (8 * n)).data) (if poison then [x / 64 * 64] else []), snoop t 4 (x + 8 * n) sum []] s

/-- What the end of a solve does besides its summary. -/
def solveDone (t : Nat) (d : Desc) (status val0 val1 cycles : Nat) : Plan := fun s =>
  let n := s.rd .SV_HSTAT_N t d.svHandle
  plans
   [match s.parts.sv.find t with
    | some r => plans
        [if status = 0x14 then fun _ => [] else freeBytes t (d.f 151 128) (if r.phase = 6 ∧ 2 ≤ r.last then 40 * n else 0) 0x73 r.poison,
         if d.b 184 ∧ status ≠ 0x14 then fun s => writeTs t (d.f 183 160) (r.report (s.rd .SV_HSTAT_FACT t d.svHandle) s.gtc) [] s
         else fun _ => [],
         svPresent t d n status val0 val1 cycles r.spec (decide (r.poison ∧ r.accepted ≠ 0)),
         fun s => [.parts fun p => { p with sv := p.sv.put t none }]
           ++ (if status = 0x10 then [bump s .SV_DL_CNT_ITERATE 1 t] else if status = 0x11 then [bump s .SV_DL_CNT_FACTOR 1 t]
               else if status = 0x21 then [bump s .SV_ERR_OVF 1 t] else [])]
    | none => fun _ => [],
    planIf (fun s => s.rd .VX_STAT_LENT t == 1 && s.vr .LENDS t == s.vr .SOLVES t + 1) (lendEnd t),
    fun s => [wv .SOLVES (s.vr .SOLVES t + 1) t]] s

/-- What an SV_LOAD, SV_UPDATE or SV_FREE does as it completes. -/
def svEffect (t : Nat) (d : Desc) (s : State) : Plan × Nat × Nat × Nat :=
  match d.opc with
  | 1 => if d.b 98 then svReload t d s else svLoad t d s
  | 2 => svUpdate t d s
  | _ => (fun _ => svDrop t d.svHandle, 0, 0, 0)

/-- The descriptor in progress completes in its cycle. -/
def solverDone (t : Nat) : Plan := fun s =>
  match s.running t 1 with
  | none => []
  | some q =>
    let d := q.desc
    let e := (s.parts.sv.find t).filter fun r => r.phase == 6
    let done := match e with | some r => r.phaseEnd | none => q.done
    if s.clock < done then [] else
    let x : Plan × Nat × Nat × Nat :=
      match e with
      | some r => (fun _ => [], r.status, r.vals.1, r.vals.2)
      | none => if q.status = 0 ∧ d.opc ≠ 3 then svEffect t d s else (fun _ => [], q.status, q.val0, q.val1)
    let status := x.2.1
    let spec := match e with | some r => r.spec | none => q.spec
    plans
     [x.1,
      if d.opc = 3 then solveDone t d status x.2.2.1 x.2.2.2 (done - q.start) else fun _ => [],
      fun s => [.parts fun p => { p with running := p.running.put (eKey t 1) none }, wv .SV_LAST done t, wr .SV_STAT_BUSY 0 t,
        wr .SV_STAT_PHASE 0 t, wr .SV_STAT_LAST_STATUS status t, wr .SV_STAT_LAST_TAG (d.f 47 32) t,
        bumpWrap s .SV_BUSY_CYC_COUNT (done - q.start) t],
      complete t 1 d status x.2.2.1 x.2.2.2 (done - q.start) spec] s

/-- A solver descriptor completes. -/
def execSolverCompletion (tile : Tile) (s : State) : Outcome State Fault Refusal :=
  .next <| s.perform (solverDone tile)

/-- A write of SV_PIV_THRESH takes effect only while the engine is idle and its queue empty (R200). -/
def svThreshPlan (t v : Nat) : Plan := fun s =>
  if s.domOn t ∧ s.rd .SV_STAT_BUSY t = 0 ∧ (s.queue t 1).isEmpty then [wr .SV_PIV_THRESH_TAU (bitsOf v 31 0) t] else []

/-- A write of SV_PIV_THRESH. -/
def execSvPivThreshWrite (tile : Tile) (value : W64) (s : State) : Outcome State Fault Refusal :=
  .next <| s.perform (svThreshPlan tile value.toNat)

end Sys2Proof.Machine
end

