-- ==== Sys2Proof/Machine/Dma.lean ====
section
/-! DEFINITION. The DMA engine (Address Map, Tile Store and DMA: R248 to R258). The command of an operation starts the descriptor at
the head of the queue, or goes on with the one in progress: it takes the answers that have come, reads and writes as far as the buffer
and the tracker allow, and at the end issues the counted write and the flag. -/
namespace Sys2Proof.Machine
open Host

/-! ### Descriptor fields (Table 10.5) -/

/-- Granules per row. -/
def Desc.dmaGpr (d : Desc) : Nat := d.f 215 192 / 64

/-- All granules. -/
def Desc.dmaN (d : Desc) : Nat := d.f 231 216 * d.dmaGpr

/-- A global address moved within its node. -/
def moveAddr (a off : Nat) : Nat := a / 2 ^ 48 * 2 ^ 48 + (a % 2 ^ 48 + off) % 2 ^ 48

/-- The source address of granule k. -/
def Desc.dmaSrc (d : Desc) (k : Nat) : Nat := moveAddr (d.f 127 64) (k / d.dmaGpr * d.f 303 256 + 64 * (k % d.dmaGpr))

/-- The destination address of granule k. -/
def Desc.dmaDst (d : Desc) (k : Nat) : Nat := moveAddr (d.f 191 128) (k / d.dmaGpr * d.f 351 304 + 64 * (k % d.dmaGpr))

/-- The granules from k on that lie in one row and one 4 KiB block of address `a` (R340). -/
def Desc.dmaSeg (d : Desc) (k a : Nat) : Nat := min (d.dmaN - k) (min (d.dmaGpr - k % d.dmaGpr) ((4096 - a % 4096) / 64))

/-- CRC_EN or SHA_EN. -/
def Desc.hashes (d : Desc) : Bool := d.b 352 || d.b 353

/-- The descriptor closes its chain. -/
def Desc.closes (d : Desc) : Bool := d.hashes && d.b 355

/-- Bytes lo to lo + n − 1 lie in stack memory or in the tile stores. -/
def memoryAt (lo n : Nat) : Bool := match targetOf lo n with | .stack => true | .tile _ _ => true | _ => decide (0x010000000000 ≤ lo ∧ lo + n ≤ 0x010040000000)

/-- The rows of a strided region by their local addresses. -/
def dmaRows (a stride len rows : Nat) : List (Nat × Nat) := (List.range rows).map fun r => (a % 2 ^ 48 + r * stride, len)

/-- The source rows. -/
def Desc.srcRows (d : Desc) : List (Nat × Nat) := if d.opc = 3 then [] else dmaRows (d.f 127 64) (d.f 303 256) (d.f 215 192) (d.f 231 216)

/-- The destination rows. -/
def Desc.dstRows (d : Desc) : List (Nat × Nat) := if d.opc = 2 then [] else dmaRows (d.f 191 128) (d.f 351 304) (d.f 215 192) (d.f 231 216)

/-- The refusal of R249. -/
def State.dmaBad (s : State) (t : Nat) (d : Desc) : Bool :=
  let odd := fun hi lo => d.f hi lo % 64 != 0
  let chainOk : Bool := match s.parts.chain.find t with
    | some c => c.crcEn == d.b 352 && c.shaEn == d.b 353
    | none => false
  d.f 215 192 == 0 || d.f 231 216 == 0 || odd 215 192
  || (d.opc != 3 && (odd 127 64 || odd 303 256)) || (d.opc != 2 && (odd 191 128 || odd 351 304))
  || (d.srcRows ++ d.dstRows).any (fun r => !memoryAt r.1 r.2)
  || (d.b 356 && (d.f 447 384 % 8 != 0 || !memoryAt (d.f 447 384 % 2 ^ 48) 8))
  || (d.opc == 1 && d.f 127 112 == d.f 191 176 && spansMeet d.srcRows d.dstRows)
  || (d.opc == 3 && d.hashes)
  || (d.opc != 3 && d.hashes && !d.b 354 && !chainOk)
  || (d.closes && (odd 383 360 || decide (2 ^ 24 < d.f 383 360 + 64)))

/-- The offset in tile t's own store of `n` bytes at a global address, if they lie there. -/
def State.ownOff (s : State) (t a n : Nat) : Option Nat :=
  if a / 2 ^ 48 = s.node (homeF t) then
    match targetOf (a % 2 ^ 48) n with
    | .tile l off => if l = s.logicalOf t then some off else none
    | _ => none
  else none

/-- The offsets of the own store that a descriptor reads. -/
def State.dmaReads (s : State) (t : Nat) (d : Desc) : List (Nat × Nat) :=
  d.srcRows.filterMap fun r => (s.ownOff t (d.f 127 112 * 2 ^ 48 + r.1) r.2).map fun o => (o, r.2)

/-- A descriptor issued in the open window reads the caldera (R213). -/
def State.readsCaldera (s : State) (t : Nat) (d : Desc) (reads : List (Nat × Nat)) : Bool :=
  d.win && s.window t && (d.marked || reads.any fun r => s.touchesCaldera t r.1 r.2)

/-! ### Hash chains (R251, R253) -/

/-- A chain opens. -/
def HashChain.open_ (d : Desc) : HashChain := ⟨d.b 352, d.b 353, 0xFFFFFFFF, keccakZero, [], 0, false⟩

/-- Bytes enter a chain. -/
def HashChain.take (c : HashChain) (bs : List Byte) (bad : Bool) : HashChain :=
  let r := if c.shaEn then sha3Absorb ((c.pend.length + bs.length) / 136 + 1) c.lanes (c.pend ++ bs) else (c.lanes, c.pend)
  { c with crc := if c.crcEn then crc32cRun c.crc bs else c.crc, lanes := r.1, pend := r.2, n := c.n + bs.length, bad := c.bad || bad }

/-- The CRC so far in final form. -/
def HashChain.crcFinal (c : HashChain) : Nat := if c.crcEn then c.crc ^^^ 0xFFFFFFFF else 0

/-- The digest record. -/
def HashChain.record (c : HashChain) : List Byte :=
  (if c.shaEn then sha3Final c.lanes c.pend else List.replicate 32 0) ++ leBytes 4 c.crcFinal ++ leBytes 4 0 ++ leBytes 8 c.n
  ++ leBytes 16 0

/-! ### Moving (R248, R250, R252, R253) -/

/-- The descriptor in progress changes. -/
def dmaSet (t : Nat) (f : DmaRun → DmaRun) : Act := .parts fun p => { p with dm := p.dm.put t ((p.dm.find t).map f) }

/-- What a failed request counts as (R253, Table 10.7); one that went unanswered is 0x64. -/
def dmaFail (st : Nat) : Option Nat :=
  match st with | 0x60 => some 0x60 | 0x62 => some 0x64 | 0x64 => some 0x64 | 0x88 => some 0x88 | 0x8A => some 0x8A | _ => none

/-- A status is met. -/
def DmaRun.meet (r : DmaRun) (c : Nat) : DmaRun := if r.conds.contains c then r else { r with conds := c :: r.conds }

/-- Granules enter the buffer. -/
def DmaRun.fill (r : DmaRun) (k : Nat) (g : List (List Byte × Bool × Bool)) : DmaRun :=
  { r with buf := r.buf ++ g.mapIdx fun i x => ⟨k + i, x.1, x.2.1, x.2.2⟩,
           conds := if g.any (fun x => x.2.1 && !x.2.2) ∧ ¬ r.conds.contains 0x40 then 0x40 :: r.conds else r.conds }

/-- `n` granules as the engine writes them. -/
def countWritten (t n bad : Nat) : Plan := fun s =>
  [bumpWrap s .DM_BYTES_COUNT (64 * n) t, bump s .DM_ERR_POISONED bad t, dmaSet t fun r => { r with pg := r.pg + bad }]

/-- Granules whose read or write failed are counted. -/
def countFailed (t n c : Nat) : Plan := fun s =>
  [bump s .DM_ERR_FAILED n t, dmaSet t fun r => { r.meet c with fl := r.fl + n }]

/-- The answer to one of the engine's requests. -/
def dmaAnswer (t : Nat) (a : TrkDone) : Plan := fun s =>
  match s.parts.dm.find t with
  | none => []
  | some r =>
    match a.owner with
    | .dmaRead k =>
      match r.reads.find? fun x => x.1 == k with
      | none => []
      | some x =>
        let gone := fun (r : DmaRun) => { r with reads := r.reads.filter fun y => y.1 != k }
        match dmaFail a.status with
        | some c => plans [countFailed t x.2 c, fun _ => [dmaSet t fun r => (gone r).fill k (List.replicate x.2 (List.replicate 64 0, true, true))]] s
        | none => [dmaSet t fun r => (gone r).fill k ((List.range x.2).map fun i =>
            ((a.data.drop (64 * i)).take 64, testB a.poison (i % 60), false))]
    | .dmaWrite k =>
      match r.writes.find? fun x => x.1 == k with
      | none => []
      | some x =>
        plans [fun _ => [dmaSet t fun r => { r with writes := r.writes.filter fun y => y.1 != k }],
          match dmaFail a.status with
          | some c => countFailed t x.2.2.2 c
          | none => plans [countWritten t x.2.1 x.2.2.1, fun _ => if a.status = 0x40 then [dmaSet t fun r => r.meet 0x40] else []]] s
    | _ => [dmaSet t fun r =>
        let r := { r with tail := r.tail - 1 }
        match dmaFail a.status with
        | some c => r.meet c
        | none => if a.status = 0 then r else r.meet a.status]

/-- The answers that are for the engine. -/
def TrkDone.forDma (a : TrkDone) : Bool :=
  match a.owner with | .dmaRead _ => true | .dmaWrite _ => true | .dmaFlag => true | .dmaCount => true | _ => false

/-- The engine takes its answers. -/
def dmaAbsorb (t : Nat) : Plan := fun s => plans
  [planAll ((s.parts.trkDone.at t).filter TrkDone.forDma) (dmaAnswer t),
   fun s => if (s.parts.trkDone.at t).any TrkDone.forDma then
     [.parts fun p => { p with trkDone := p.trkDone.set t ((p.trkDone.at t).filter fun a => !a.forDma) }] else []] s

/-- The next segment is read: from the own store at once, from elsewhere through the tracker. -/
def dmaRead (t : Nat) (r : DmaRun) : Plan := fun s =>
  let d := r.desc
  let k := r.rd
  let room := 1024 - (r.rd - r.wk)
  if d.opc = 3 then
    let g := min room (d.dmaN - k)
    if g = 0 then [] else [dmaSet t fun r => { r with rd := k + g }.fill k (List.replicate g (List.replicate 64 0, false, false))]
  else
    let a := d.dmaSrc k
    let g := min room (d.dmaSeg k a)
    if g = 0 ∨ s.clock < r.start + 8 then []
    else match s.ownOff t a (64 * g) with
      | some off =>
        let x := s.readTs t off (64 * g)
        plans [noteRead x, snoop t 1 off x.data (x.bad.map (· - storeBase t)),
          fun _ => [dmaSet t fun r => { r with rd := k + g }.fill k ((List.range g).map fun i =>
            ((x.data.drop (64 * i)).take 64, x.bad.contains (storeBase t + off + 64 * i), false))]] s
      | none =>
        if s.trackerFull t then [] else
        plans [issueReq t (.dmaRead k) 0x01 0 a (64 * g) 0 [] 0 0 false,
          fun _ => [dmaSet t fun r => { r with rd := k + g, reads := r.reads ++ [(k, g)] }]] s

/-- The next granule is hashed, in order; the last one of a descriptor that closes its chain writes the digest record. -/
def dmaHash (t : Nat) (r : DmaRun) : Plan := fun s =>
  let d := r.desc
  match r.buf.find? fun g => g.k == r.hk with
  | none => []
  | some g =>
    let on := fun (r : DmaRun) => { r with hk := r.hk + 1 }
    if ¬ d.hashes then [dmaSet t on] else
    match s.parts.chain.find t with
    | none => [dmaSet t on]
    | some c =>
      let c := c.take g.data g.bad
      let stop := decide (r.hk + 1 = d.dmaN) && d.closes
      plans
       [fun _ => [dmaSet t fun r => { on r with crc := c.crcFinal },
          .parts fun p => { p with chain := p.chain.put t (if stop then none else some c) }, wr .DM_STAT_CHAIN_OPEN (if stop then 0 else 1) t],
        if stop then writeTs t (d.f 383 360) c.record (if c.bad then [storeBase t + d.f 383 360] else []) else fun _ => []] s

/-- The next segment is written, when all of it is ready. -/
def dmaWrite (t : Nat) (r : DmaRun) : Plan := fun s =>
  let d := r.desc
  let k := r.wk
  let drop := fun (n : Nat) (r : DmaRun) => { r with wk := r.wk + n, buf := r.buf.filter fun x => decide (k + n ≤ x.k) }
  if d.opc = 2 then (if k < r.hk then [dmaSet t (drop (r.hk - k))] else []) else
  let a := d.dmaDst k
  let g := d.dmaSeg k a
  if g = 0 ∨ r.hk < k + g then [] else
  let items := (List.range g).filterMap fun i => r.buf.find? fun x => x.k == k + i
  let data := items.flatMap (·.data)
  let bad := (List.range g).filter fun i => (items[i]?).any (·.bad)
  match s.ownOff t a (64 * g) with
  | some off => plans
      [writeTs t off data (bad.map fun i => storeBase t + off + 64 * i), snoop t 0 off data (bad.map fun i => off + 64 * i),
       countWritten t g bad.length, fun _ => [dmaSet t (drop g)]] s
  | none =>
    if s.trackerFull t then [] else
    plans [issueReq t (.dmaWrite k) 0x02 0 a (64 * g) 0 data (bad.foldl (fun m i => setB m (i % 60)) 0) 0 false,
      fun _ => [dmaSet t fun r => { drop g r with
        writes := r.writes ++ [(k, g, bad.length, (items.filter fun x => !x.failed).length)] }]] s

/-- Something the engine can do now, if anything. -/
def dmaStep (t : Nat) : Plan := fun s =>
  match s.parts.dm.find t with
  | none => []
  | some r =>
    let a := if r.rd < r.desc.dmaN ∧ r.rd - r.wk < 1024 then dmaRead t r s else []
    if ¬ a.isEmpty then a else
    let b := if r.hk < r.rd then dmaHash t r s else []
    if ¬ b.isEmpty then b else if r.wk < r.hk then dmaWrite t r s else []

/-- The engine goes on until it must wait. -/
def dmaLoop (t : Nat) : Nat → Plan
  | 0 => fun _ => []
  | n + 1 => fun s => let a := dmaStep t s; if a.isEmpty then [] else a ++ dmaLoop t n (s.run a)

/-- The counted write of R252, once every data write is acknowledged: a store of no bytes at DST that counts. -/
def dmaCount (t : Nat) (d : Desc) : Plan := fun s =>
  let a := d.f 191 128
  match targetOf (a % 2 ^ 48) 1 with
  | .tile _ _ =>
    if (s.ownOff t a 1).isSome then countInc t (d.f 236 232) s
    else plans [issueReq t .dmaCount 0x02 0 a 0 0 [] 0 (d.f 236 232) true, fun _ => [dmaSet t fun r => { r with tail := r.tail + 1 }]] s
  | _ => []

/-- The flag of R252: a flagged store; one with bit 63 set is refused at its issue (R344). -/
def dmaFlag (t : Nat) (d : Desc) : Plan :=
  if d.b 511 then fun _ => [dmaSet t fun r => r.meet 0x84]
  else plans [issueReq t .dmaFlag 0x03 0 (d.f 447 384) 8 0 (leBytes 8 (d.f 511 448)) 0 0 false,
    fun _ => [dmaSet t fun r => { r with tail := r.tail + 1 }]]

/-- After the last acknowledged write: the counted write and the flag go out, unless something failed. -/
def dmaTail (t : Nat) : Plan := fun s =>
  match s.parts.dm.find t with
  | none => []
  | some r =>
    if r.stage ≠ 0 ∨ r.wk < r.desc.dmaN ∨ ¬ r.writes.isEmpty ∨ 1023 ≤ (s.tracker t).length then [] else
    plans
     [fun _ => [dmaSet t fun r => { r with stage := 1 }],
      if r.fl ≠ 0 then fun _ => []
      else plans [if r.desc.b 357 ∧ r.desc.opc ≠ 2 then dmaCount t r.desc else fun _ => [],
        if r.desc.b 356 then dmaFlag t r.desc else fun _ => []]] s

/-- The limit of Table 10.6 in bytes per cycle. -/
def State.dmaLimit (s : State) (t : Nat) (d : Desc) : Nat :=
  if d.opc ≠ 3 ∧ d.b 353 then 68 else
  let src := d.opc != 3 && (s.ownOff t (d.f 127 64) 64).isSome
  let dst := d.opc != 2 && (s.ownOff t (d.f 191 128) 64).isSome
  let far : Bool := d.opc != 2 && !dst && (match targetOf (d.f 191 128 % 2 ^ 48) 64 with | .tile _ _ => true | _ => false)
  if src && dst then 320 else if far then 256 else if src || dst then 640 else 1024

/-- The status of Table 10.7. -/
def DmaRun.final (r : DmaRun) : Nat := ([0x84, 0x64, 0x60, 0x88, 0x8A, 0x41, 0x40].find? fun c => r.conds.contains c).getD 0

/-- The end is reached: the completion cycle is known, the cycle after the last acknowledgement (R250). -/
def dmaEnd (t : Nat) : Plan := fun s =>
  match s.parts.dm.find t, s.running t 3 with
  | some r, some q =>
    if r.stage ≠ 1 ∨ r.tail ≠ 0 ∨ q.done ≠ 2 ^ 64 then [] else
    let c := max (s.clock + 1) (r.start + 9 + ceilDiv (64 * r.desc.dmaN) (s.dmaLimit t r.desc))
    [.parts fun p => { p with running := p.running.put (eKey t 3) (some { q with
      done := c, status := r.final, val0 := if r.desc.b 352 ∧ r.desc.opc ≠ 3 then r.crc else 0,
      val1 := min r.pg (2 ^ 32 - 1) + min r.fl (2 ^ 32 - 1) * 2 ^ 32 }), dm := p.dm.put t none }]
  | _, _ => []

/-- The descriptor in progress goes on. -/
def dmaGo (t : Nat) : Plan := fun s =>
  match s.parts.dm.find t with
  | none => []
  | some r => plans [dmaAbsorb t, dmaLoop t (3 * r.desc.dmaN + 3), dmaTail t, dmaAbsorb t, dmaEnd t] s

/-! ### Starting and completing (R213, R219, R249, R250, R254, R255) -/

/-- A descriptor starts. -/
def dmaBegin (t : Nat) (d : Desc) (done status : Nat) : Plan := plans
  [fun s => begin_ t 3 { desc := d, start := s.clock, done := done, status := status, val0 := 0, val1 := 0, spec := false } s,
   fun _ => [wr .DM_STAT_BUSY 1 t, wr .DM_STAT_SPEC_HOLD 0 t]]

/-- A descriptor starts its work: with H_FIRST a new chain opens. -/
def dmaFirst (t : Nat) (d : Desc) : Plan := plans
  [dmaBegin t d (2 ^ 64) 0,
   fun s => [.parts fun p => { p with dm := p.dm.put t (some { desc := d, start := s.clock }) }]
     ++ (if d.hashes ∧ d.opc ≠ 3 ∧ d.b 354 then
          [.parts fun p => { p with chain := p.chain.put t (some (HashChain.open_ d)) }, wr .DM_STAT_CHAIN_OPEN 1 t] else []),
   dmaGo t]

/-- The command of a DMA operation. -/
def dmaCommand (t opc : Nat) : Plan := fun s =>
  if ¬ s.domOn t then [] else
  match s.running t 3 with
  | some r => if r.desc.opc = opc then dmaGo t s else []
  | none =>
    match s.queue t 3 with
    | [] => []
    | d :: _ =>
      if d.opc ≠ opc then []
      else if d.note ≠ 0 then dmaBegin t d (max s.clock (max (s.vr .SQ_AT t) (s.vr .ENG_LAST t 3 + 1))) d.note s
      else if ¬ s.ready t d ∨ s.clock ≤ s.vr .ENG_LAST t 3 then []
      else match funcServes (s.rd .DM_STAT_FSTATE t) (s.rd .DM_STAT_PEND_EN t) (s.vr .FUNC_DIS_AT t 3) d.issued with
        | none => []
        | some on =>
          if s.dmaBad t d then plans [dmaBegin t d (s.clock + 2) 0x84, fun s => [bump s .DM_ERR_REFUSED 1 t]] s
          else if ¬ on then dmaBegin t d (s.clock + 1) 0x85 s
          else if s.readsCaldera t d (s.dmaReads t d) then [wr .DM_STAT_SPEC_HOLD 1 t]
          else if s.rd .DM_STAT_SPEC_HOLD t = 1 ∧ s.clock < s.vr .SPEC_RELEASE t then []
          else dmaFirst t d s

/-- COPY. -/
def execCopy (tile : Tile) (s : State) : Outcome State Fault Refusal := .next <| s.perform (dmaCommand tile 1)

/-- HASH. -/
def execHash (tile : Tile) (s : State) : Outcome State Fault Refusal := .next <| s.perform (dmaCommand tile 2)

/-- ZERO. -/
def execZero (tile : Tile) (s : State) : Outcome State Fault Refusal := .next <| s.perform (dmaCommand tile 3)

/-- A DMA descriptor completes in its cycle. -/
def dmaDone (t : Nat) : Plan := plans
  [dmaGo t, fun s =>
    match s.running t 3 with
    | none => []
    | some r =>
      if s.clock < r.done then [] else
      let d := r.desc
      plans [fun _ => [.parts fun p => { p with running := p.running.put (eKey t 3) none }, wv .ENG_LAST r.done t 3, wr .DM_STAT_BUSY 0 t,
          wr .DM_STAT_LAST_STATUS r.status t, wr .DM_STAT_LAST_TAG (d.f 47 32) t],
        complete t 3 d r.status r.val0 r.val1 (r.done - r.start) false] s]

/-- A DMA descriptor completes. -/
def execDmaCompletion (tile : Tile) (s : State) : Outcome State Fault Refusal := .next <| s.perform (dmaDone tile)

/-- A write of DM_REC_ADDR, or of DM_REC_CTL (`ctl`), takes effect only while no window is open (R258). -/
def recWrite (t : Nat) (ctl : Bool) (v : Nat) : Plan := fun s =>
  if ¬ s.domOn t ∨ s.window t then []
  else if ctl then
    [wr .DM_REC_CTL_EN (bitOf v 0) t, wr .DM_REC_CTL_MASK (bitsOf v 7 1) t, wr .DM_REC_CTL_LIMIT (bitsOf v 31 16) t,
     wr .DM_REC_CTL_COUNT (bitsOf v 47 32) t] ++ (if testB v 8 then [wr .DM_REC_CTL_FULL 0 t] else [])
  else [wr .DM_REC_ADDR_ADDR (bitsOf v 23 0) t]

/-- A write of DM_REC_ADDR or DM_REC_CTL. -/
def execDmRecWrite (tile : Tile) (ctl : Bool) (value : W64) (s : State) : Outcome State Fault Refusal :=
  .next <| s.perform (recWrite tile ctl value.toNat)

end Sys2Proof.Machine
end

