-- ==== Sys2Proof/Machine/Collective.lean ====
section
/-! DEFINITION. Collective operations (R360 to R381): contexts and groups, the plan of a collective as a list of paced operations, CE_DATA
and CE_TOKEN, reductions, pieces, lateness, aborts and the triggered agent. An agent is a physical tile, or 40 + slot for a
triggered slot of F-die 0. -/
namespace Sys2Proof.Machine
open Host

/-! ### Contexts and groups (R360, R361) -/

/-- A communicator context as a tile reads it at a start (Table 15.1). -/
structure CeCtx where
  valid : Bool
  levels : Nat
  n : Nat
  g : List Nat
  hop : List Nat
  rate : List Nat
  maddr : Nat
  mine : Bool
  member : Nat
deriving DecidableEq, Repr

/-- The address of context c in the NI of F-die f. -/
def ctxAddr (f c : Nat) : Nat := 0x018000100000 + f * 0x40000 + 0x30000 + 0x100 * c

/-- The context that the NI of F-die f holds for communicator c, as logical tile l reads it. -/
def State.ceCtx (s : State) (f c l : Nat) : CeCtx :=
  let a := ctxAddr f c
  let w := fun k => s.num (a + 8 * k) 8
  { valid := testB (w 0) 0, levels := bitsOf (w 0) 8 7, n := bitsOf (w 0) 32 16,
    g := [bitsOf (w 1) 16 0, bitsOf (w 1) 33 17, bitsOf (w 1) 50 34],
    hop := [bitsOf (w 2) 19 0, bitsOf (w 3) 19 0, bitsOf (w 4) 19 0],
    rate := [bitsOf (w 2) 35 20, bitsOf (w 3) 35 20, bitsOf (w 4) 35 20],
    maddr := bitsOf (w 5) 47 0, mine := testB (w 6) l, member := s.num (a + 128 + 2 * l) 2 }

/-- A level that takes part, or the one group of FLAT: its number, group size, the member's group index, the distance of group
neighbours in the member order, its pacing and its algorithm. -/
structure CeLv where
  lv : Nat
  g : Nat
  d : Nat
  stride : Nat
  h : Nat
  rate : Nat
  tree : Bool
deriving DecidableEq, Repr

/-- FLAT, LVL_MASK and ALG of a descriptor. -/
def Desc.flat (d : Desc) : Bool := d.b 302

/-- The level whose hop is the slowest: the largest HOP_DLY, the lower level on a tie. -/
def CeCtx.slowest (c : CeCtx) : Nat :=
  (List.range (c.levels)).foldl (fun b k => if c.hop.getD b 0 < c.hop.getD k 0 then k else b) 0

/-- The levels that take part, lowest first (R361). -/
def CeCtx.named (c : CeCtx) (d : Desc) : List CeLv :=
  if d.flat then
    [⟨0, c.n, c.member % c.n, 1, c.hop.getD c.slowest 0, max 1 (c.rate.getD c.slowest 0), d.b 307⟩]
  else ((List.range 3).filter fun k => d.b (304 + k)).map fun k =>
    let stride := (c.g.take k).foldl (· * ·) 1
    ⟨k, c.g.getD k 0, c.member / stride % c.g.getD k 0, stride, c.hop.getD k 0, max 1 (c.rate.getD k 0), d.b (307 + k)⟩

/-- The member of the level's group with group index x. -/
def CeLv.peer (l : CeLv) (m x : Nat) : Nat := m - l.d * l.stride + x * l.stride

/-- The steps of a TREE: log2 g. -/
def CeLv.steps (l : CeLv) : Nat := Nat.log2 l.g

/-- The entry of a member in the member table: its node ID in [15:0], its logical tile in [21:16]. -/
def State.memberEntry (s : State) (maddr m : Nat) : Nat := leNat (s.readStack (maddr + 4 * m) 4).data % 2 ^ 22

/-! ### The plan (R367, R368, R371, Table 15.6) -/

/-- The kinds of component. -/
inductive CeKind where
  | reduceScatter | allReduce | allGather | broadcast | barrier | permute
deriving DecidableEq, Repr

/-- A component: its kind and level, the offset of its bytes in the work region, and Bl, the bytes entering it. -/
structure CeComp where
  kind : CeKind
  l : CeLv
  off : Nat
  bl : Nat
deriving DecidableEq, Repr

/-- The components of an ALLREDUCE (R368). -/
def allReduceComps (off bl : Nat) : List CeLv → List CeComp
  | [] => []
  | [l] => [⟨.allReduce, l, off, bl⟩]
  | l :: ls =>
    ⟨.reduceScatter, l, off, bl⟩ :: allReduceComps (off + l.d * (bl / l.g)) (bl / l.g) ls ++ [⟨.allGather, l, off, bl⟩]

/-- The components of a collective. For PERMUTE, `sent` counts the bytes of its entries. -/
def ceComps (d : Desc) (lv : List CeLv) (sent : Nat) : List CeComp :=
  let bytes := d.f 287 256
  match d.opc with
  | 1 => allReduceComps 0 bytes lv
  | 2 => (lv.take 1).map fun l => ⟨.reduceScatter, l, 0, bytes⟩
  | 3 => (lv.take 1).map fun l => ⟨.allGather, l, 0, l.g * bytes⟩
  | 4 => (lv.take 1).map fun l => ⟨.broadcast, l, 0, bytes⟩
  | 5 => lv.map fun l => ⟨.barrier, l, 0, 0⟩
  | _ => (lv.take 1).map fun l => ⟨.permute, l, 0, max sent (d.f 431 400)⟩

/-- The cycles that x bytes take at a level's rate. -/
def CeLv.cycles (l : CeLv) (x : Nat) : Nat := ceilDiv (16 * x) l.rate

/-- ceil(log2 g). -/
def log2Up (g : Nat) : Nat := if g ≤ 1 then 0 else Nat.log2 (g - 1) + 1

/-- The block of a component. -/
def CeComp.blk (c : CeComp) : Nat := match c.kind with | .broadcast => c.bl | _ => c.bl / c.l.g

/-- t, k, p_r and p_g of Table 15.6. -/
def CeComp.t (c : CeComp) (P : Nat) : Nat := c.l.cycles (min P c.blk)

/-- The pieces of a block. -/
def CeComp.k (c : CeComp) (P : Nat) : Nat := ceilDiv c.blk P

/-- p_r. -/
def CeComp.pr (c : CeComp) (P : Nat) : Nat := max (c.k P * c.t P) (c.t P + c.l.h + 24)

/-- p_g. -/
def CeComp.pg (c : CeComp) (P : Nat) : Nat := max (c.k P * c.t P) (c.t P + c.l.h)

/-- The cycle, from the component's base, in which step i of a TREE component begins. -/
def CeComp.treeAt (c : CeComp) (i : Nat) : Nat :=
  match c.kind with
  | .reduceScatter => (List.range i).foldl (fun a k => a + c.l.h + c.l.cycles (ceilDiv c.bl (2 ^ (k + 1))) + 24) 0
  | .allGather => (List.range i).foldl (fun a k => a + c.l.h + c.l.cycles (2 ^ k * c.blk)) 0
  | .allReduce => i * (c.l.h + c.l.cycles c.bl + 24)
  | _ => i * (c.l.h + c.l.cycles c.bl)

/-- T_c (Table 15.6). -/
def CeComp.time (c : CeComp) (P : Nat) : Nat :=
  let bar := log2Up c.l.g * (c.l.h + 16)
  match c.kind with
  | .barrier => bar
  | .permute => bar + c.l.h + c.l.cycles c.bl
  | k =>
    if c.l.tree then c.treeAt c.l.steps
    else match k with
      | .reduceScatter => (c.l.g - 2) * c.pr P + c.k P * c.t P + c.l.h + 24
      | .allGather => (c.l.g - 2) * c.pg P + c.k P * c.t P + c.l.h
      | .allReduce => (c.l.g - 1) * c.pr P + (c.l.g - 2) * c.pg P + c.k P * c.t P + c.l.h
      | _ => (c.l.g - 1) * (c.t P + c.l.h) + (c.k P - 1) * c.t P

/-- The pieces of block b: piece number, first byte and length. -/
def CeComp.piecesOf (c : CeComp) (P b : Nat) : List (Nat × Nat × Nat) :=
  (List.range (c.k P)).map fun j => (j, c.off + b * c.blk + j * P, min P (c.blk - j * P))

/-- The CHAIN steps of a reduce-scatter, from cycle `at0` on: in step s the member sends block d − s to its successor and takes
block d − 1 − s from its predecessor as the left operand (R367). -/
def CeComp.chainRs (c : CeComp) (m P at0 : Nat) : List CeOp :=
  let l := c.l
  (List.range (l.g - 1)).flatMap fun z =>
    let a := at0 + z * c.pr P
    ((c.piecesOf P ((l.d + l.g - (z + 1)) % l.g)).map fun p =>
      { act := .send, level := l.lv, peer := l.peer m ((l.d + 1) % l.g), lo := p.2.1, n := p.2.2, at_ := a + p.1 * c.t P })
    ++ (c.piecesOf P ((l.d + 2 * l.g - 1 - (z + 1)) % l.g)).map fun p =>
      { act := .left, level := l.lv, peer := l.peer m ((l.d + l.g - 1) % l.g), lo := p.2.1, n := p.2.2,
        at_ := a + (p.1 + 1) * c.t P + l.h }

/-- The CHAIN steps of an all-gather: in step s the member sends block d − s + 1 and takes block d − s. -/
def CeComp.chainAg (c : CeComp) (m P at0 : Nat) : List CeOp :=
  let l := c.l
  (List.range (l.g - 1)).flatMap fun z =>
    let a := at0 + z * c.pg P
    ((c.piecesOf P ((l.d + l.g - z) % l.g)).map fun p =>
      { act := .send, level := l.lv, peer := l.peer m ((l.d + 1) % l.g), lo := p.2.1, n := p.2.2, at_ := a + p.1 * c.t P })
    ++ (c.piecesOf P ((l.d + l.g - (z + 1)) % l.g)).map fun p =>
      { act := .take, level := l.lv, peer := l.peer m ((l.d + l.g - 1) % l.g), lo := p.2.1, n := p.2.2,
        at_ := a + (p.1 + 1) * c.t P + l.h }

/-- The operand side of data from group index x (R367): the lower index is the left operand. -/
def sideOf (d x : Nat) : CeAct := if x < d then .left else .right

/-- The TREE steps of a reduction. In step i of a reduce-scatter the partners keep the blocks that agree with them up to bit i; in
an all-reduce they exchange the whole message. -/
def CeComp.treeReduce (c : CeComp) (m at0 : Nat) : List CeOp :=
  let l := c.l
  (List.range l.steps).flatMap fun i =>
    let x := l.d ^^^ 2 ^ i
    let a := at0 + c.treeAt i
    let op := fun (act : CeAct) lo n b => ({ act := act, level := l.lv, peer := l.peer m x, lo := lo, n := n, at_ := b } : CeOp)
    if c.kind = .allReduce then
      [op .send c.off c.bl a, op (sideOf l.d x) c.off c.bl (a + l.h + l.cycles c.bl)]
    else
      let keep := fun y => (List.range l.g).filter fun b => b % 2 ^ (i + 1) == y % 2 ^ (i + 1)
      ((keep x).map fun b => op .send (c.off + b * c.blk) c.blk a)
      ++ (keep l.d).map fun b => op (sideOf l.d x) (c.off + b * c.blk) c.blk (a + l.h + l.cycles (ceilDiv c.bl (2 ^ (i + 1))))

/-- The TREE steps of an all-gather: in step i the partners exchange the blocks that agree with them from bit i on. -/
def CeComp.treeAg (c : CeComp) (m at0 : Nat) : List CeOp :=
  let l := c.l
  (List.range l.steps).flatMap fun i =>
    let x := l.d ^^^ 2 ^ i
    let a := at0 + c.treeAt i
    let have_ := fun y => (List.range l.g).filter fun b => b / 2 ^ i == y / 2 ^ i
    ((have_ l.d).map fun b => ({
      act := .send, level := l.lv, peer := l.peer m x, lo := c.off + b * c.blk, n := c.blk, at_ := a } : CeOp))
    ++ (have_ x).map fun b => ({
      act := .take, level := l.lv, peer := l.peer m x, lo := c.off + b * c.blk, n := c.blk,
      at_ := a + l.h + l.cycles (2 ^ i * c.blk) } : CeOp)

/-- A broadcast from ROOT: along successors, or binomial (Table 15.6). -/
def CeComp.bcast (c : CeComp) (m P root at0 : Nat) : List CeOp :=
  let l := c.l
  if l.tree then
    let v := l.d ^^^ root
    (List.range l.steps).flatMap fun i =>
      let a := at0 + c.treeAt i
      let op := fun (act : CeAct) y b => ({ act := act, level := l.lv, peer := l.peer m (y ^^^ root), lo := 0, n := c.bl, at_ := b } : CeOp)
      if v < 2 ^ i then [op .send (v + 2 ^ i) a]
      else if v < 2 ^ (i + 1) then [op .take (v - 2 ^ i) (a + l.h + l.cycles c.bl)] else []
  else
    let v := (l.d + l.g - root) % l.g
    let hop := c.t P + l.h
    (if v = 0 then [] else (c.piecesOf P 0).map fun p => ({
      act := .take, level := l.lv, peer := l.peer m ((l.d + l.g - 1) % l.g), lo := p.2.1, n := p.2.2,
      at_ := at0 + v * hop + p.1 * c.t P } : CeOp))
    ++ if v + 1 = l.g then [] else (c.piecesOf P 0).map fun p => ({
      act := .send, level := l.lv, peer := l.peer m ((l.d + 1) % l.g), lo := p.2.1, n := p.2.2,
      at_ := at0 + v * hop + p.1 * c.t P } : CeOp)

/-- A barrier by dissemination: in round r a token goes to d + 2^r and one is awaited from d − 2^r. -/
def CeComp.barrierOps (c : CeComp) (m at0 : Nat) : List CeOp :=
  let l := c.l
  (List.range (log2Up l.g)).flatMap fun r =>
    let a := at0 + r * (l.h + 16)
    [{ act := .tokenOut, level := l.lv, peer := l.peer m ((l.d + 2 ^ r) % l.g), lo := r, n := 1, at_ := a },
     { act := .tokenIn, level := l.lv, peer := l.peer m ((l.d + l.g - 2 ^ r) % l.g), lo := r, n := 1, at_ := a + l.h }]

/-- The entries of a PERMUTE in order, paced at the level's rate: group index, offset at the destination, source, bytes (R372). -/
def CeComp.entryOps (c : CeComp) (m at0 : Nat) : Nat → List (Nat × Nat × Nat × Nat) → List CeOp
  | _, [] => []
  | before, e :: es =>
    { act := .sendFrom e.2.2.1, level := c.l.lv, peer := c.l.peer m e.1, lo := e.2.1, n := e.2.2.2, at_ := at0 + c.l.cycles before }
      :: c.entryOps m at0 (before + e.2.2.2) es

/-- The operations of a component from its base cycle on. -/
def CeComp.ops (c : CeComp) (m P root : Nat) (tbl : List (Nat × Nat × Nat × Nat)) (at0 : Nat) : List CeOp :=
  match c.kind with
  | .reduceScatter => if c.l.tree then c.treeReduce m at0 else c.chainRs m P at0
  | .allReduce =>
    if c.l.tree then c.treeReduce m at0 else c.chainRs m P at0 ++ c.chainAg m P (at0 + (c.l.g - 1) * c.pr P)
  | .allGather => if c.l.tree then c.treeAg m at0 else c.chainAg m P at0
  | .broadcast => c.bcast m P root at0
  | .barrier => c.barrierOps m at0
  | .permute => c.barrierOps m at0 ++ c.entryOps m (at0 + log2Up c.l.g * (c.l.h + 16)) 0 tbl

/-- The operations of all components, and E of the last: B_c = max(E of the one before, 8 + h) (R371). -/
def planOps (m P root : Nat) (tbl : List (Nat × Nat × Nat × Nat)) : Nat → List CeComp → List CeOp × Nat
  | e, [] => ([], e)
  | e, c :: cs =>
    let b := max e (8 + c.l.h)
    let r := planOps m P root tbl (b + c.time P) cs
    (c.ops m P root tbl b ++ r.1, r.2)

/-- The members that will send data to this member, each once: they get READY (R370). -/
def ceSenders (m : Nat) (ops : List CeOp) : List Nat :=
  ((ops.filter fun o => o.act = .take || o.act = .left || o.act = .right).map fun o => o.peer).eraseDups.filter (· != m)

/-- The members that get an ABORT: predecessor, successor and TREE partners at every level (R375). -/
def ceNeighbours (m : Nat) (lv : List CeLv) : List Nat :=
  ((lv.flatMap fun l => l.peer m ((l.d + l.g - 1) % l.g) :: l.peer m ((l.d + 1) % l.g)
    :: (if l.tree then (List.range l.steps).map fun i => l.peer m (l.d ^^^ 2 ^ i) else [])).eraseDups).filter (· != m)

/-- The plan digest (R370). -/
def Desc.digest (d : Desc) : Nat :=
  let v := d.f 399 256
  let v := putBits (putBits (putBits (putBits v (303 - 256) 1 0) (311 - 256) 1 0) (317 - 256) 5 0) (384 - 256) 16 0
  crc32c (leBytes 1 d.opc ++ leBytes 18 v)

/-! ### Operations on elements (R367, Table 15.4) -/

/-- The element size of a DTYPE in bytes. -/
def ceSize (dt : Nat) : Nat := match dt with | 0 => 4 | 1 => 8 | 2 => 2 | 3 => 2 | 4 => 4 | 5 => 8 | _ => 1

/-- The floating-point format of a DTYPE. -/
def ceFmt (dt : Nat) : Option Fmt := match dt with | 2 => some .fp16 | 3 => some .bf16 | 4 => some .fp32 | 5 => some .fp64 | _ => none

/-- x ⊕ y. -/
def ceElem (dt rop x y : Nat) : Nat :=
  match ceFmt dt with
  | some f => (match rop with | 0 => (f.add .ne x y).1 | 1 => (f.min x y).1 | _ => (f.max x y).1)
  | none =>
    let w := 8 * ceSize dt
    let less := toSigned w x < toSigned w y
    match rop with
    | 0 => (x + y) % 2 ^ w
    | 1 => if less then x else y
    | _ => if less then y else x

/-- ⊕ over the elements of two byte strings. -/
def ceBytes (dt rop : Nat) (a b : List Byte) : List Byte :=
  let z := ceSize dt
  (List.range (a.length / z)).flatMap fun k =>
    leBytes z (ceElem dt rop (leNat ((a.drop (z * k)).take z)) (leNat ((b.drop (z * k)).take z)))

/-- An element of a floating-point type is an infinity or a NaN. -/
def ceNonfinite (dt : Nat) (bs : List Byte) : Bool :=
  match ceFmt dt with
  | none => false
  | some f => (List.range (bs.length / ceSize dt)).any fun k =>
      match f.decode (leNat ((bs.drop (ceSize dt * k)).take (ceSize dt))) with | .fin _ _ _ => false | _ => true

/-! ### Runs -/

/-- The collective in progress on an agent. -/
def State.ceRun (s : State) (a : Nat) : Option CeRun := s.parts.ce.find a

/-- Where the tokens of an agent lie: its tile's, or the triggered agent's. -/
def ceHome (a : Nat) : Nat := min a 40

/-- The F-die whose NI an agent uses. -/
def ceFdie (a : Nat) : Nat := if a < 40 then homeF a else 0

/-- The run of an agent changes. -/
def ceSet (a : Nat) (f : CeRun → CeRun) : Act := .parts fun p => { p with ce := p.ce.put a ((p.ce.find a).map f) }

/-- An operation of the run changes. -/
def CeRun.setOp (r : CeRun) (i : Nat) (f : CeOp → CeOp) : CeRun := { r with ops := r.ops.mapIdx fun k o => if k = i then f o else o }

/-- Logical byte `lo` of the work region as it lies in the region of a member with group index d: with rotation block b lies in slot
(d − b) mod g (R370). -/
def rotAt (rblk g d lo : Nat) : Nat := if rblk = 0 then lo else (d + g - lo / rblk % g) % g * rblk + lo % rblk

/-- A run takes data. -/
def CeOp.receives (o : CeOp) : Bool := o.act = .take || o.act = .left || o.act = .right

/-- A token operation. -/
def CeOp.token (o : CeOp) : Bool := o.act = .tokenOut || o.act = .tokenIn

/-- An operation sends table data. -/
def CeOp.entry (o : CeOp) : Bool := match o.act with | .sendFrom _ => true | _ => false

/-- A later operation waits for an earlier one: tokens for everything, data for data of common bytes. -/
def CeOp.conflicts (a b : CeOp) : Bool :=
  a.token || b.token || (!a.entry && !b.entry && decide (a.lo < b.lo + b.n ∧ b.lo < a.lo + a.n))

/-- The cycles after an arrival before what depends on it may go: the reduction's 24, a token's 16 (Table 15.6). -/
def CeOp.lag (o : CeOp) : Nat := match o.act with | .left => 24 | .right => 24 | .tokenIn => 16 | _ => 0

/-- The operations before operation i that it waits for. -/
def CeRun.before (r : CeRun) (i : Nat) (o : CeOp) : List CeOp := (r.ops.take i).filter fun b => o.conflicts b

/-- The cycle from which everything operation i waits for is there. -/
def CeRun.readyAt (r : CeRun) (i : Nat) (o : CeOp) : Nat :=
  ((r.before i o).filter fun b => b.receives || b.act = .tokenIn).foldl (fun m b => max m (b.reg + b.lag)) 0

/-- The bytes of the work region, with the numbers of their poisoned granules. The registers of a triggered slot carry no mark. -/
def State.ceRead (s : State) (a : Nat) (r : CeRun) (lo n : Nat) : List Byte × List Nat × Plan :=
  if a < 40 then
    let x := s.readTs a (r.work + rotAt r.rblk r.g r.d lo) n
    (x.data, x.bad.map fun b => (b - storeBase a - (r.work + rotAt r.rblk r.g r.d lo)) / 64, noteRead x)
  else
    ((((List.range 8).flatMap fun i => leBytes 8 (s.rd .CE_TRIG_DATA_DATA 0 (8 * (a - 40) + i))).drop lo).take n, [], fun _ => [])

/-- Bytes enter the work region; `bad` numbers the poisoned granules. -/
def ceWrite (a : Nat) (r : CeRun) (lo : Nat) (bs : List Byte) (bad : List Nat) : Plan :=
  if a < 40 then
    let o := r.work + rotAt r.rblk r.g r.d lo
    writeTs a o bs (bad.map fun k => storeBase a + o + 64 * k)
  else plans
    [fun _ => (List.range (bs.length / 8)).map fun k =>
      wr .CE_TRIG_DATA_DATA (leNat ((bs.drop (8 * k)).take 8)) 0 (8 * (a - 40) + lo / 8 + k),
     fun _ => if bad.isEmpty then [] else [ceSet a fun r => { r with pois := true }]]

/-- Bytes at a local address of stack memory or the tile's own store, with the numbers of their poisoned granules. -/
def State.ceSource (s : State) (t a n : Nat) : List Byte × List Nat × Plan :=
  if a < stackTop then
    let x := s.readStack a n
    (x.data, x.bad.map fun b => (b - a) / 64, plans [traffic a n false, noteRead x])
  else
    let o := a % 0x1000000
    let x := s.readTs t o n
    (x.data, x.bad.map fun b => (b - storeBase t - o) / 64, noteRead x)

/-! ### Tokens (R370, Table 15.5) -/

/-- The 32 bytes of a token. -/
def tokenBytes (kind comm seq member b6 base digest : Nat) : List Byte :=
  leBytes 1 kind ++ leBytes 1 comm ++ leBytes 2 seq ++ leBytes 2 member ++ leBytes 1 b6 ++ leBytes 1 0 ++ leBytes 6 base ++ leBytes 2 0
  ++ leBytes 4 digest ++ leBytes 12 0

/-- A packet of the triggered agent's slot. -/
def State.slotPacket (s : State) (slot op cls entry : Nat) (addr : Nat) (data : List Byte) (poison : Nat) : Packet :=
  { op := op, cls := cls, ttl := 31, resent := false, srcNode := s.node 0, dstNode := entry % 65536, srcTile := 63, tag := slot,
    addr := addr, len := data.length, atype := 0, stamp := 0, d := 0, cnt := 0, cntEn := false, taint := false, status := 0,
    poison := poison, data := data }

/-- The local address that stands for a member tile. -/
def tileAddr (entry : Nat) : Nat := 0x010000000000 + entry / 65536 % 64 * 0x1000000

/-- Tokens that wait for a tracker entry go out as far as there is room. -/
def ceFlush (a : Nat) : Nat → Plan
  | 0 => fun _ => []
  | n + 1 => fun s =>
    match s.parts.ceOut.at a with
    | [] => []
    | (e, bs) :: rest =>
      if a < 40 ∧ s.trackerFull a then [] else
      plans [fun _ => [.parts fun p => { p with ceOut := p.ceOut.set a rest }, ceSet a fun r => { r with acks := r.acks + 1 }],
        if a < 40 then issueReq a .collective 0x30 2 (e % 65536 * 2 ^ 48 + tileAddr e) 32 0 bs 0 0 false
        else niSend 0 (s.slotPacket (a - 40) 0x30 2 e (tileAddr e) bs 0),
        ceFlush a n] s

/-- A token for a member. -/
def ceToken (a maddr m : Nat) (bs : List Byte) : Plan := fun s =>
  let e := s.memberEntry maddr m
  plans [fun _ => [.parts fun p => { p with ceOut := p.ceOut.set a (p.ceOut.at a ++ [(e, bs)]) }], ceFlush a ((s.parts.ceOut.at a).length + 1)] s

/-! ### Ends (R375, R377, R378) -/

/-- What a run reports besides its status. -/
def CeRun.val0 (r : CeRun) (reason det : Nat) : Nat := r.seq % 65536 + r.gi % 65536 * 2 ^ 16 + reason * 2 ^ 32 + det % 65536 * 2 ^ 40

/-- The run is over in cycle `c`: its tokens go, a tile's descriptor completes, a triggered slot shows its status and raises a
fabric-control interrupt (R380). -/
def ceOver (a : Nat) (r : CeRun) (status val0 val1 c : Nat) : Plan := plans
  [fun _ => [.parts fun p => { p with
     ce := p.ce.put a none,
     ceTok := p.ceTok.set (ceHome a) ((p.ceTok.at (ceHome a)).filter fun t =>
       !(t.comm == r.desc.f 295 288 && (t.seq == r.seq || seqBefore t.seq r.seq))) }],
   if a < 40 then plans
     [fun s => [.parts fun p => { p with running := p.running.put (eKey a 2) none }, wv .ENG_LAST c a 2, wr .CE_STAT_BUSY 0 a,
        wr .CE_STAT_CUR_COMM 0 a, wr .CE_STAT_CUR_SEQ 0 a, wr .CE_STAT_LAST_STATUS status a,
        wr .CE_STAT_LAST_TAG (r.desc.f 47 32) a, bump s .CE_CNT_DONE 1 a],
      complete a 2 r.desc status val0 val1 (c - r.start) false]
   else plans
     [fun _ => [wr .CE_TRIG_CTL_STATUS status 0 (a - 40), wr .CE_TRIG_CTL_STATE 3 0 (a - 40)], raise .fabric .triggered (a - 40)]]

/-- The levels of a run's descriptor, from its context now. -/
def State.ceLevels (s : State) (a : Nat) (d : Desc) : List CeLv :=
  (s.ceCtx (ceFdie a) (d.f 295 288) (if a < 40 then s.logicalOf a else 63)).named d

/-- The running collective aborts (R374, R375). -/
def ceAbort (a reason det : Nat) : Plan := fun s =>
  match s.ceRun a with
  | none => []
  | some r =>
    let comm := r.desc.f 295 288
    plans
     [planAll r.nbrs fun m => ceToken a r.maddr m (tokenBytes 2 comm r.seq r.member reason (det % 65536) 0),
      fun s => [wv .CE_SEQ r.seq (ceHome a) comm, wv .CE_ABSEQ (r.seq + 1) (ceHome a) comm,
        wv .CE_STALE (s.clock + s.tStale (ceFdie a)) (ceHome a) comm],
      if a < 40 then plans
        [fun s => [wr .CE_ABORT_REASON reason a, wr .CE_ABORT_COMM comm a, wr .CE_ABORT_SEQ r.seq a, wr .CE_ABORT_MEMBER det a,
           bump s .CE_CNT_ABORTS 1 a],
         if r.desc.b 311 then mxAbort a (r.desc.f 321 317) else fun _ => []]
      else fun _ => [],
      ceOver a r 0x66 (r.val0 reason det) (min r.late (2 ^ 32 - 1)) s.clock] s

/-! ### Going on (R370 to R374) -/

/-- A status that ends a collective (R374). -/
def ceFails (st : Nat) : Bool := st ∈ [0x60, 0x62, 0x64, 0x88, 0x8A]

/-- The engine takes the answers to its packets. -/
def ceAbsorb (a : Nat) : Plan := fun s =>
  let got : List Nat :=
    match s.ceRun a with
    | none => []
    | some r =>
      if a < 40 then ((s.parts.trkDone.at a).filter fun x => x.owner == .collective && decide (r.trk0 ≤ x.seq)).map (·.status)
      else ((s.parts.responses.at 63).filter fun p => (p.op == 0x84 || p.op == 0xB0) && p.tag == a - 40).map (·.status)
  plans
   [fun _ => [if a < 40 then .parts fun p => { p with trkDone := p.trkDone.set a ((p.trkDone.at a).filter fun x => x.owner != .collective) }
      else .parts fun p => { p with responses := p.responses.set 63 ((p.responses.at 63).filter fun q =>
        !((q.op == 0x84 || q.op == 0xB0) && q.tag == a - 40)) }],
    fun s => if got.isEmpty then [] else [ceSet a fun r => { r with acks := r.acks - got.length, ackAt := s.clock }],
    fun s => if got.any ceFails then ceAbort a 2 ((s.ceRun a).elim 0 (·.member)) s else []] s

/-- The READY of a member for a run, if it has registered. -/
def State.readyOf (s : State) (a : Nat) (r : CeRun) (m : Nat) : Option CeTok :=
  (s.parts.ceTok.at (ceHome a)).find? fun t => t.kind == 1 && t.comm == r.desc.f 295 288 && t.seq == r.seq && t.member == m

/-- The barrier token that an operation awaits. -/
def State.roundOf (s : State) (a : Nat) (r : CeRun) (o : CeOp) : Option CeTok :=
  (s.parts.ceTok.at (ceHome a)).find? fun t =>
    t.kind == 3 && t.comm == r.desc.f 295 288 && t.seq == r.seq && t.member == o.peer && t.b6 == o.lo % 256

/-- A READY with another digest than the run's own aborts it (R370). -/
def ceMismatch (a : Nat) : Plan := fun s =>
  match s.ceRun a with
  | none => []
  | some r =>
    if (s.parts.ceTok.at (ceHome a)).any fun t =>
        t.kind == 1 && t.comm == r.desc.f 295 288 && t.seq == r.seq && t.digest != r.desc.digest then ceAbort a 3 r.member s
    else []

/-- Arrived parts enter the work region. -/
def ceApply (a : Nat) (r : CeRun) (o : CeOp) : Plan :=
  planAll o.got fun g => fun s =>
    let own := s.ceRead a r g.1 g.2.1.length
    let dt := r.desc.f 299 296
    let rop := r.desc.f 301 300
    match o.act with
    | .left => plans [own.2.2, ceWrite a r g.1 (ceBytes dt rop g.2.1 own.1) (g.2.2 ++ own.2.1).eraseDups] s
    | .right => plans [own.2.2, ceWrite a r g.1 (ceBytes dt rop own.1 g.2.1) (g.2.2 ++ own.2.1).eraseDups] s
    | _ => ceWrite a r g.1 g.2.1 g.2.2 s

/-- Operation i is taken when all of it is there and nothing before it stands in its way. -/
def ceSettle1 (a i : Nat) : Plan := fun s =>
  match s.ceRun a with
  | none => []
  | some r => match r.ops[i]? with
    | none => []
    | some o =>
      if o.fin ∨ (r.before i o).any (fun b => !b.fin) then []
      else if o.act = .tokenIn then
        match s.roundOf a r o with
        | some t => [ceSet a fun r => r.setOp i fun o => { o with fin := true, reg := t.at_ }]
        | none => []
      else if o.receives ∧ o.cnt = o.n then
        plans [ceApply a r o, fun _ => [ceSet a fun r => r.setOp i fun o => { o with fin := true, got := [] }]] s
      else []

/-- Everything that can be taken is taken. -/
def ceSettle (a : Nat) : Plan := fun s =>
  match s.ceRun a with
  | none => []
  | some r => planAll (List.range r.ops.length) (ceSettle1 a) s

/-- Eight cycles after the start READY goes to every member that will send data (R370). -/
def ceReady (a : Nat) : Plan := fun s =>
  match s.ceRun a with
  | none => []
  | some r =>
    if r.readySent ∨ s.clock < r.start + 8 then [] else
    let base := if a < 40 then 0x010000000000 + s.logicalOf a * 0x1000000 + r.work else 0x01003F000000 + 64 * (a - 40)
    plans
     [fun _ => [ceSet a fun r => { r with readySent := true }],
      planAll r.readyTo fun m =>
        ceToken a r.maddr m (tokenBytes 1 (r.desc.f 295 288) r.seq r.member (if r.rblk = 0 then 0 else 1) base r.desc.digest)] s

/-- Lateness: every later paced cycle moves back, and the level's stall field grows (R371). -/
def ceLate (a level n : Nat) : Plan := fun s =>
  if n = 0 then [] else
  [ceSet a fun r => { r with late := r.late + n }]
  ++ (if a < 40 then [match level with
        | 0 => bump s .CE_STALL_L0 n a | 1 => bump s .CE_STALL_L1 n a | _ => bump s .CE_STALL_L2 n a] else [])

/-- The packets of operation i that are still to go: each at most 4,096 B and inside one 4 KiB block of the destination. -/
def cePackets (a i base : Nat) (rot : CeRun → CeOp → Nat) : Nat → Plan
  | 0 => fun _ => []
  | n + 1 => fun s =>
    match s.ceRun a with
    | none => []
    | some r => match r.ops[i]? with
      | none => []
      | some o =>
        if o.n ≤ o.cnt then [ceSet a fun r => r.setOp i fun o => { o with fin := true }]
        else if a < 40 ∧ s.trackerFull a then []
        else
          let e := s.memberEntry r.maddr o.peer
          let dst := base + rot r o + o.cnt
          let len := min (o.n - o.cnt) (4096 - dst % 4096)
          let data : List Byte × List Nat × Plan :=
            match o.act with
            | .sendFrom src => s.ceSource a (src + o.cnt) len
            | _ => s.ceRead a r (o.lo + o.cnt) len
          let poison := data.2.1.foldl (fun m k => setB m (k % 60)) 0
          plans
           [data.2.2,
            if a < 40 then issueReq a .collective 0x04 0 (e % 65536 * 2 ^ 48 + dst) len 0 data.1 poison 0 false
            else niSend 0 (s.slotPacket (a - 40) 0x04 0 e dst data.1 poison),
            fun _ => [ceSet a fun r => { (r.setOp i fun o => { o with cnt := o.cnt + len }) with acks := r.acks + 1 }],
            cePackets a i base rot n] s

/-- Operation i is sent when its paced cycle has come and everything it depends on has registered; lateness is added first
(R370, R371). -/
def ceSend1 (a i : Nat) : Plan := fun s =>
  match s.ceRun a with
  | none => []
  | some r => match r.ops[i]? with
    | none => []
    | some o =>
      if (r.before i o).any fun b => !b.fin then [] else
      let due := r.start + o.at_ + r.late
      if o.act = .tokenOut then
        let dep := r.readyAt i o
        if s.clock < max due dep then [] else
        plans [ceLate a o.level (dep - due),
          ceToken a r.maddr o.peer (tokenBytes 3 (r.desc.f 295 288) r.seq r.member o.lo 0 0),
          fun _ => [ceSet a fun r => r.setOp i fun o => { o with fin := true }]] s
      else if o.entry then
        let dep := r.readyAt i o
        if s.clock < max due dep then [] else
        plans [ceLate a o.level (dep - due), cePackets a i (tileAddr (s.memberEntry r.maddr o.peer)) (fun _ o => o.lo) (o.n / 64 + 1)] s
      else match s.readyOf a r o.peer with
        | none => []
        | some t =>
          let dep := max t.at_ (r.readyAt i o)
          if s.clock < max due dep then [] else
          let rot := fun (r : CeRun) (o : CeOp) =>
            if t.b6 % 2 = 1 then rotAt r.pblk r.g ((s.ceLevels a r.desc).foldl (fun _ l => o.peer / l.stride % l.g) 0) o.lo else o.lo
          plans [ceLate a o.level (dep - due), cePackets a i t.base rot (o.n / 64 + 1)] s

/-- The sends go out in order as far as they can. -/
def ceSends (a : Nat) : Nat → Plan
  | 0 => fun _ => []
  | n + 1 => fun s =>
    match s.ceRun a with
    | none => []
    | some r =>
      match r.ops.findIdx? fun o => !o.fin && !o.receives && o.act != .tokenIn with
      | none => []
      | some i =>
        let p := plans [ceSend1 a i, ceSettle a]
        let s' := s.perform p
        let moved := match s'.ceRun a with
          | some r' => (match r'.ops[i]? with | some o => o.fin | none => false)
          | none => false
        if moved then plans [p, ceSends a n] s else p s

/-- Where the output of a run lies: the number of blocks, the block, and the logical offset of the output's first byte in the work
region. -/
def CeRun.output (r : CeRun) : Nat × Nat × Nat :=
  let bytes := r.desc.f 287 256
  match r.desc.opc with
  | 1 => if r.pblk = 0 then (1, bytes, 0) else (r.g, r.pblk, 0)
  | 2 => (1, bytes / r.g, r.d * (bytes / r.g))
  | 3 => (r.g, bytes, 0)
  | 4 => (1, bytes, 0)
  | _ => (0, 0, 0)

/-- Piece q of the output: its logical offset, its length, its offset in DST and whether it is part of the block copied from SRC. -/
def CeRun.piece (r : CeRun) (q : Nat) : Option (Nat × Nat × Nat × Option Nat) :=
  let o := r.output
  let P := 2 ^ r.desc.f 316 312
  let k := ceilDiv o.2.1 P
  if o.1 * k ≤ q then none else
  let slot := q / k
  let j := q % k
  let b := if r.rblk = 0 then slot else (r.d + r.g - slot) % r.g
  let len := min P (o.2.1 - j * P)
  let own := (r.desc.opc == 3 && b == r.d) || (r.desc.opc == 4 && r.gi == r.desc.f 351 336)
  some (o.2.2 + b * o.2.1 + j * P, len, slot * o.2.1 + j * P, if own then some (j * P + len) else none)

/-- The cycle in which a range of the output is final, once every operation that writes it is done. -/
def CeRun.finalAt (r : CeRun) (lo n : Nat) (own : Option Nat) : Option Nat :=
  let ws := r.ops.filter fun o => o.receives && decide (o.lo < lo + n ∧ lo < o.lo + o.n)
  if ws.any fun o => !o.fin then none
  else some (ws.foldl (fun m o => max m (o.reg + o.lag)) (match own with | some e => r.start + ceilDiv e 512 | none => r.start))

/-- The output block of a REDUCE_SCATTER goes from SCR to DST (Table 15.2). -/
def ceOutput (a : Nat) (r : CeRun) (lo n dst : Nat) : Plan := fun s =>
  let x := s.ceRead a r lo n
  if a < 40 ∧ r.desc.opc = 2 then
    plans [x.2.2, writeTs a (r.desc.f 175 128 % 0x1000000 + dst) x.1 (x.2.1.map fun k =>
      storeBase a + r.desc.f 175 128 % 0x1000000 + dst + 64 * k)] s
  else []

/-- Pieces that are final are counted in order, in the cycle after (R370); each is presented to the check-value units. -/
def cePieces (a : Nat) : Nat → Plan
  | 0 => fun _ => []
  | n + 1 => fun s =>
    match s.ceRun a with
    | none => []
    | some r =>
      match r.piece r.pieces with
      | none => []
      | some p =>
        match r.finalAt p.1 p.2.1 p.2.2.2 with
        | none => []
        | some c =>
          if s.clock ≤ c then [] else
          plans
           [ceOutput a r p.1 p.2.1 p.2.2.1,
            if a < 40 then fun s =>
              let x := s.readTs a (r.desc.f 175 128 % 0x1000000 + p.2.2.1) p.2.1
              snoop a 3 (r.desc.f 175 128 % 0x1000000 + p.2.2.1) x.data (x.bad.map (· - storeBase a)) s
            else fun _ => [],
            if a < 40 ∧ r.desc.b 311 then countInc a (r.desc.f 321 317) else fun _ => [],
            fun _ => [ceSet a fun r => { r with pieces := r.pieces + 1 }],
            cePieces a n] s

/-- The pieces of the whole output. -/
def CeRun.pieceCount (r : CeRun) : Nat := r.output.1 * ceilDiv r.output.2.1 (2 ^ r.desc.f 316 312)

/-- The collective in progress on an agent goes on. -/
def ceGo (a : Nat) : Plan := fun s =>
  match s.ceRun a with
  | none => ceFlush a (s.parts.ceOut.at a).length s
  | some r => plans
     [ceFlush a (s.parts.ceOut.at a).length, ceAbsorb a, ceMismatch a, ceSettle a, ceReady a, ceSends a (r.ops.length + 1),
      cePieces a (r.pieceCount + 1)] s

/-- At its paced cycle a piece or token is sent, or lateness accrues. -/
def execCollectivePieceSend (agent : Fin 44) (s : State) : Outcome State Fault Refusal := .next <| s.perform (ceGo agent)

/-- How long an agent waits past a paced cycle (R374, R380). -/
def State.ceLimit (s : State) (a : Nat) : Nat :=
  if a < 40 then s.rd .CE_TIMEOUT_FRAMES a * (if s.scheduled then s.rd .GT_FRAME_CUR_LEN else 2 ^ 20) else s.tAck

/-- The paced cycles, from the start, of what a run awaits and has not got. -/
def State.ceAwaits (s : State) (a : Nat) (r : CeRun) : List Nat :=
  (r.ops.filterMap fun o =>
    if o.fin then none
    else match o.act with
      | .tokenIn => if (s.roundOf a r o).isSome then none else some o.at_
      | .send => if (s.readyOf a r o.peer).isSome then none else some o.at_
      | _ => if o.receives ∧ o.cnt < o.n then some o.at_ else none)
  ++ (if r.desc.opc = 6 ∧ r.landed < r.desc.f 431 400 then [r.eLast] else [])

/-- Something awaited passes its limit: the member aborts (R374). -/
def ceTimeout (a : Nat) : Plan := plans
  [ceGo a, fun s =>
    match s.ceRun a with
    | none => []
    | some r =>
      if r.fin.isSome then []
      else if (s.ceAwaits a r).any fun x => decide (r.start + x + r.late + s.ceLimit a ≤ s.clock) then ceAbort a 1 r.member s else []]

/-- An awaited READY, piece or token times out. -/
def execCollectiveTimeout (agent : Fin 44) (s : State) : Outcome State Fault Refusal := .next <| s.perform (ceTimeout agent)

/-- A write of CE_CTL.ABORT. -/
def execCollectiveSoftwareAbort (tile : Tile) (s : State) : Outcome State Fault Refusal :=
  .next <| s.perform fun s =>
    match s.ceRun tile with
    | some r => if s.domOn tile then ceAbort tile 4 r.member s else []
    | none => []

/-! ### Data and tokens arrive (R370, R372, R374, R376) -/

/-- The agents that data for a logical tile can be for. -/
def State.ceAgents (s : State) (l : Nat) : List Nat := if l = 63 then [40, 41, 42, 43] else (s.physOf l).toList

/-- The operation that awaits data of `n` bytes at offset `off` of a work region, from a member entry. -/
def State.ceAwaiting (s : State) (r : CeRun) (off n entry : Nat) : Option (Nat × Nat) :=
  match r.ops.findIdx? fun o =>
    let x := r.work + rotAt r.rblk r.g r.d o.lo
    o.receives && decide (o.cnt < o.n ∧ x ≤ off ∧ off + n ≤ x + o.n) && s.memberEntry r.maddr o.peer == entry with
  | some i => r.ops[i]?.map fun o => (i, o.lo + (off - (r.work + rotAt r.rblk r.g r.d o.lo)))
  | none => none

/-- CE_DATA for a run is kept until its turn comes; a permutation's data lands and is counted; any other lands as a store. -/
def ceData (l off : Nat) (p : Packet) : Plan := fun s =>
  let entry := p.srcNode + 65536 * p.srcTile
  let bad := (List.range (ceilDiv p.data.length 64)).filter fun k => testB p.poison (k % 60)
  let hit := (s.ceAgents l).findSome? fun a => match s.ceRun a with
    | some r => (s.ceAwaiting r off p.data.length entry).map fun x => (a, x.1, x.2)
    | none => none
  match hit with
  | some (a, i, lo) => plans
     [fun s => [ceSet a fun r => r.setOp i fun o =>
        { o with cnt := o.cnt + p.data.length, got := o.got ++ [(lo, p.data, bad)], reg := s.clock }],
      ceSettle a] s
  | none =>
    if l = 63 then [] else
    match s.physOf l with
    | none => []
    | some t => plans
       [writeTs t off p.data (bad.map fun k => storeBase t + off / 64 * 64 + 64 * k),
        fun s => match s.ceRun t with
          | some r =>
            if r.desc.opc = 6 ∧ r.work ≤ off ∧ off < r.work + r.desc.f 431 400 then
              [ceSet t fun r => { r with landed := r.landed + p.data.length, ackAt := s.clock }] else []
          | none => []] s

/-- A CE_DATA is served. -/
def execCeData (point : Fin 5) (s : State) : Outcome State Fault Refusal :=
  .next <| s.perform (serve point [0x04] fun p =>
    match targetOf p.addr (max 1 p.data.length) with
    | .tile l off => plans [ceData l off p, answer point p (if p.poison = 0 then 0 else 0x40) [] 0]
    | .stack => serveStore point p
    | _ => answer point p 0x64 [] 0)

/-- The agent that an abort for a communicator and SEQ stops, if its collective runs. -/
def State.ceMatch (s : State) (k comm seq : Nat) : Option Nat :=
  (if k < 40 then [k] else [40, 41, 42, 43]).find? fun a => match s.ceRun a with
    | some r => r.fin.isNone && r.desc.f 295 288 == comm && r.seq == seq
    | none => false

/-- An ABORT arrives: for the running collective, for one that has completed, or for one still to start (R374 to R376). The
triggered agent follows R374 and R375 only (R380). -/
def ceAbortToken (k comm seq det : Nat) : Plan := fun s =>
  match s.ceMatch k comm seq with
  | some a => ceAbort a 5 det s
  | none =>
    if 40 ≤ k then []
    else if seqBefore seq (s.vr .CE_SEQ k comm) then
      [wv .CE_LATE (1 + seq + 2 ^ 17 * det) k comm, bump s .CE_CNT_LATE 1 k]
    else if s.vr .CE_ABSEQ k comm = seq + 1 ∧ s.clock < s.vr .CE_STALE k comm then []
    else [wv .CE_REM (1 + seq + 2 ^ 17 * det) k comm]

/-- A token registers at a tile's engine or at the triggered agent. -/
def ceTokenIn (k : Nat) (bs : List Byte) : Plan := fun s =>
  let f := fun lo n => leNat ((bs.drop lo).take n)
  let t : CeTok := ⟨f 0 1, f 1 1, f 2 2, f 4 2, f 6 1, f 8 6, f 16 4, s.clock⟩
  if t.kind = 2 then ceAbortToken k t.comm t.seq (f 8 2) s
  else plans
    [fun _ => [.parts fun p => { p with ceTok := p.ceTok.set k (p.ceTok.at k ++ [t]) }],
     planAll (if k < 40 then [k] else [40, 41, 42, 43]) fun a => plans [ceMismatch a, ceSettle a]] s

/-- A CE_TOKEN is served. -/
def execCeToken (point : Fin 5) (s : State) : Outcome State Fault Refusal :=
  .next <| s.perform (serve point [0x30] fun p => fun s =>
    match targetOf p.addr 1 with
    | .tile l _ =>
      if l = 63 then
        (if s.domOn 164 then plans [ceTokenIn 40 p.data, answer point p 0 [] 0] s else answer point p 0x60 [] 0 s)
      else match s.physOf l with
        | none => answer point p 0x64 [] 0 s
        | some t =>
          if s.tileReset (if point.val = 4 then homeF t else point.val) l t then answer point p 0x60 [] 0 s
          else plans [ceTokenIn t p.data, answer point p 0 [] 0] s
    | _ => answer point p 0x64 [] 0 s)

/-! ### Starting (R363 to R366, R375 to R377, R379) -/

/-- The send table of a PERMUTE: group index, offset at the destination, local source address, bytes (R372). -/
def State.ceTable (s : State) (t : Nat) (d : Desc) : List (Nat × Nat × Nat × Nat) :=
  let bs := (s.readTs t (d.f 239 192 % 0x1000000) (16 * d.f 399 384)).data
  (List.range (d.f 399 384)).map fun k =>
    let e := leNat ((bs.drop (16 * k)).take 16)
    (bitsOf e 15 0, bitsOf e 63 16, bitsOf e 111 64, 64 * bitsOf e 127 112)

/-- The bytes a collective takes from SRC. -/
def Desc.ceIn (d : Desc) (gi : Nat) : Nat :=
  match d.opc with | 1 => d.f 287 256 | 2 => d.f 287 256 | 3 => d.f 287 256 | 4 => if gi = d.f 351 336 then d.f 287 256 else 0 | _ => 0

/-- The bytes a collective writes at DST. -/
def Desc.ceOut (d : Desc) (g : Nat) : Nat :=
  match d.opc with | 1 => d.f 287 256 | 2 => d.f 287 256 / g | 3 => g * d.f 287 256 | 4 => d.f 287 256 | 6 => d.f 431 400 | _ => 0

/-- A local address range of the tile's own store. -/
def State.ownLocal (s : State) (t a n : Nat) : Option Nat := s.ownOff t (s.node (homeF t) * 2 ^ 48 + a) (max 1 n)

/-- The refusals of R366 that concern the plan alone. -/
def ceBadPlan (c : CeCtx) (d : Desc) (lv : List CeLv) : Bool :=
  let op := d.opc
  let bytes := d.f 287 256
  let l := lv.headD ⟨0, 0, 0, 0, 0, 1, false⟩
  !c.valid || !c.mine
  || decide (c.n < 2) || ((c.g.take c.levels).any fun g => decide (g < 2)) || (c.g.take c.levels).foldl (· * ·) 1 != c.n || c.levels == 0
  || (!d.flat && (d.f 306 304 == 0 || decide (2 ^ c.levels ≤ d.f 306 304)))
  || (op != 1 && op != 5 && decide (1 < lv.length))
  || (lv.any fun l => l.tree && l.g != 2 ^ l.steps)
  || (d.b 303 && (decide (1 < lv.length) || (op != 1 && op != 3)))
  || (d.b 311 && (op == 5 || op == 6))
  || (decide (1 ≤ op ∧ op ≤ 4) && (bytes == 0 || bytes % 64 != 0))
  || (op == 2 && bytes % (64 * l.g) != 0)
  || (op == 1 && (allReduceComps 0 bytes lv).any fun x =>
        (x.kind = .reduceScatter || (x.kind = .allReduce && !x.l.tree)) && x.bl % (64 * x.l.g) != 0)
  || decide (7 ≤ d.f 299 296) || d.f 301 300 == 3 || (d.f 299 296 == 6 && (op == 1 || op == 2)) || (op == 6 && d.f 299 296 != 6)
  || decide (d.f 316 312 < 6 ∨ 24 < d.f 316 312) || decide (l.g ≤ d.f 351 336)

/-- The refusals of R366 that concern addresses and regions. -/
def State.ceBadAddr (s : State) (t : Nat) (d : Desc) (l : CeLv) : Bool :=
  let op := d.opc
  let nin := d.ceIn l.d
  let nout := d.ceOut l.g
  let src := d.f 111 64
  let dst := s.ownLocal t (d.f 175 128) nout
  let nscr := if op = 2 then d.f 287 256 else if op = 6 then 16 * d.f 399 384 else 0
  let scr := s.ownLocal t (d.f 239 192) nscr
  let srcOwn := s.ownLocal t src nin
  let w := (dst.toList.map fun o => (o, nout)) ++ (if op = 2 then scr.toList.map fun o => (o, nscr) else [])
  let r := (if nin = 0 then [] else srcOwn.toList.map fun o => (o, nin)) ++ (if op = 6 then scr.toList.map fun o => (o, nscr) else [])
  if op = 5 then false else
  (op != 6 && nin != 0 && (src % 64 != 0 || (decide (stackTop < src + nin) && srcOwn.isNone)))
  || d.f 175 128 % 64 != 0 || dst.isNone
  || ((op == 2 || op == 6) && (d.f 239 192 % 64 != 0 || scr.isNone))
  || spansMeet w r || (op == 2 && spansMeet (w.take 1) (w.drop 1))
  || (op == 6 && scr.isSome && (s.ceTable t d).any fun e =>
        decide (l.g ≤ e.1) || (decide (stackTop < e.2.2.1 + e.2.2.2) && (s.ownLocal t e.2.2.1 e.2.2.2).isNone)
        || e.2.2.1 % 64 != 0 || e.2.1 % 64 != 0 || decide (2 ^ 24 < e.2.1 + e.2.2.2))

/-- The offsets of the own store that a collective reads. -/
def State.ceReads (s : State) (t : Nat) (d : Desc) : List (Nat × Nat) :=
  let one := fun a n => if n = 0 then [] else (s.ownLocal t a n).toList.map fun o => (o, n)
  match d.opc with
  | 5 => []
  | 6 => one (d.f 239 192) (16 * d.f 399 384) ++ (s.ceTable t d).flatMap fun e => one e.2.2.1 e.2.2.2
  | _ => one (d.f 111 64) (d.f 287 256)

/-- A run as it starts. -/
def State.ceNew (s : State) (a : Nat) (d : Desc) (start seq : Nat) (tbl : List (Nat × Nat × Nat × Nat)) : CeRun :=
  let c := s.ceCtx (ceFdie a) (d.f 295 288) (if a < 40 then s.logicalOf a else 63)
  let lv := c.named d
  let l := lv.headD ⟨0, 1, 0, 1, 0, 1, false⟩
  let comps := ceComps d lv (tbl.foldl (fun x e => x + e.2.2.2) 0)
  let last := comps.getLast?
  let pl := planOps c.member (2 ^ d.f 316 312) (d.f 351 336) tbl 64 comps
  let blocked : Bool := match last with
    | some x => x.kind = .allGather || (x.kind = .allReduce && !x.l.tree)
    | none => false
  let pblk := if blocked then d.ceOut l.g / l.g else 0
  { desc := d, start := start, trk0 := if a < 40 then s.vr .TRK_SEQ a else 0, member := c.member,
    gi := if d.flat then c.member else l.d, seq := seq, maddr := c.maddr,
    work := if a < 40 then (if d.opc = 2 then d.f 239 192 else d.f 175 128) % 0x1000000 else 64 * (a - 40),
    rblk := if d.b 303 then pblk else 0, pblk := pblk, g := l.g, d := l.d, readyTo := ceSenders c.member pl.1, nbrs := ceNeighbours c.member lv,
    ops := pl.1, eLast := pl.2, lastLevel := match last with | some x => x.l.lv | none => 0 }

/-- The contribution enters the work region. -/
def ceCopy (t : Nat) (r : CeRun) : Plan := fun s =>
  let d := r.desc
  let n := d.ceIn r.d
  if n = 0 then [] else
  let x := s.ceSource t (d.f 111 64) n
  let lo := if d.opc = 3 then r.d * n else 0
  let z := if r.rblk = 0 then n else r.rblk
  plans [x.2.2, planAll (List.range (ceilDiv n z)) fun k =>
    ceWrite t r (lo + z * k) ((x.1.drop (z * k)).take z) ((x.2.1.filter fun b => decide (z * k ≤ 64 * b ∧ 64 * b < z * (k + 1))).map (· - z * k / 64))] s

/-- A collective begins to run: it takes SEQ (R363). -/
def ceStart (t : Nat) (d : Desc) : Plan := fun s =>
  let comm := d.f 295 288
  let late := s.vr .CE_LATE t comm
  let rem := s.vr .CE_REM t comm
  let seq := if late ≠ 0 then (late - 1) % 65536 else s.vr .CE_SEQ t comm
  let r := s.ceNew t d s.clock seq (if d.opc = 6 then s.ceTable t d else [])
  plans
   [begin_ t 2 { desc := d, start := s.clock, done := 2 ^ 64, status := 0, val0 := 0, val1 := 0, spec := false },
    fun _ => [wr .CE_STAT_BUSY 1 t, wr .CE_STAT_SPEC_HOLD 0 t, wr .CE_STAT_STALE_HOLD 0 t, wr .CE_STAT_CUR_COMM comm t,
      wr .CE_STAT_CUR_SEQ seq t, wv .CE_SEQ (seq + 1) t comm, .parts fun p => { p with ce := p.ce.put t (some r) }],
    if late ≠ 0 then plans [fun _ => [wv .CE_LATE 0 t comm], ceAbort t 6 (late / 2 ^ 17)]
    else if rem ≠ 0 ∧ (rem - 1) % 65536 = seq then plans [fun _ => [wv .CE_REM 0 t comm], ceAbort t 5 (rem / 2 ^ 17)]
    else plans [ceCopy t r, ceGo t]] s

/-- A collective that does not run takes its place until cycle `done`. -/
def ceIdle (t : Nat) (d : Desc) (done status : Nat) : Plan := plans
  [fun s => begin_ t 2 { desc := d, start := s.clock, done := done, status := status, val0 := 0, val1 := 0, spec := false } s,
   fun _ => [wr .CE_STAT_BUSY 1 t, wr .CE_STAT_SPEC_HOLD 0 t]]

/-- The command of a collective operation. -/
def ceCommand (t opc : Nat) : Plan := fun s =>
  if ¬ s.domOn t ∨ (s.running t 2).isSome then [] else
  match s.queue t 2 with
  | [] => []
  | d :: _ =>
    if d.opc ≠ opc then []
    else if d.note ≠ 0 then ceIdle t d (max s.clock (max (s.vr .SQ_AT t) (s.vr .ENG_LAST t 2 + 1))) d.note s
    else if ¬ s.ready t d ∨ s.clock ≤ s.vr .ENG_LAST t 2 then []
    else match funcServes (s.rd .CE_STAT_FSTATE t) (s.rd .CE_STAT_PEND_EN t) (s.vr .FUNC_DIS_AT t 4) d.issued with
      | none => []
      | some on =>
        let c := s.ceCtx (homeF t) (d.f 295 288) (s.logicalOf t)
        let lv := c.named d
        if ceBadPlan c d lv || s.ceBadAddr t d (lv.headD ⟨0, 1, 0, 1, 0, 1, false⟩) then ceIdle t d (s.clock + 2) 0x84 s
        else if d.f 367 352 ≠ s.rd .CE_EPOCH_EPOCH t then ceIdle t d s.clock 0x8D s
        else if ¬ on then ceIdle t d (s.clock + 1) 0x85 s
        else if s.readsCaldera t d (s.ceReads t d) then [wr .CE_STAT_SPEC_HOLD 1 t]
        else if s.rd .CE_STAT_SPEC_HOLD t = 1 ∧ s.clock < s.vr .SPEC_RELEASE t then []
        else if s.clock < s.vr .CE_STALE t (d.f 295 288) then [wr .CE_STAT_STALE_HOLD 1 t]
        else ceStart t d s

/-- ALLREDUCE. -/
def execAllreduce (tile : Tile) (s : State) : Outcome State Fault Refusal := .next <| s.perform (ceCommand tile 1)

/-- REDUCE_SCATTER. -/
def execReduceScatter (tile : Tile) (s : State) : Outcome State Fault Refusal := .next <| s.perform (ceCommand tile 2)

/-- ALLGATHER. -/
def execAllgather (tile : Tile) (s : State) : Outcome State Fault Refusal := .next <| s.perform (ceCommand tile 3)

/-- BROADCAST. -/
def execBroadcast (tile : Tile) (s : State) : Outcome State Fault Refusal := .next <| s.perform (ceCommand tile 4)

/-- BARRIER. -/
def execBarrier (tile : Tile) (s : State) : Outcome State Fault Refusal := .next <| s.perform (ceCommand tile 5)

/-- PERMUTE. -/
def execPermute (tile : Tile) (s : State) : Outcome State Fault Refusal := .next <| s.perform (ceCommand tile 6)

/-- T_STALE after an abort has passed for the communicator of the collective that waits (R375). -/
def execStaleHoldEnd (tile : Tile) (s : State) : Outcome State Fault Refusal :=
  .next <| s.perform fun s =>
    match s.queue tile 2 with
    | [] => []
    | d :: _ => if s.clock < s.vr .CE_STALE tile (d.f 295 288) then [] else [wr .CE_STAT_STALE_HOLD 0 tile]

/-! ### Completing (R364, R371, R377) -/

/-- The cycle in which the last thing a run awaits was there. -/
def CeRun.lastAt (r : CeRun) : Nat :=
  (r.ops.filter fun o => o.receives || o.act = .tokenIn).foldl (fun m o => max m (o.reg + o.lag)) 0

/-- The status of a run that was not cut short, and the granules of its output that are poisoned. -/
def State.ceStatus (s : State) (a : Nat) (r : CeRun) : Nat × Nat :=
  let out := r.output
  let n := if r.desc.opc = 6 then r.desc.f 431 400 else out.1 * out.2.1
  let dst := r.desc.f 175 128 % 0x1000000
  let x := if a < 40 then (let y := s.readTs a dst n; (y.data, y.bad.length)) else ((s.ceRead a r 0 (min n 64)).1, if r.pois then 1 else 0)
  (if x.2 ≠ 0 then 0x40 else if r.desc.opc ≤ 2 ∧ ceNonfinite (r.desc.f 299 296) x.1 then 0x24 else 0, x.2)

/-- A collective completes at its start plus E_last + 32, plus the lateness. -/
def ceFinish (a : Nat) (r : CeRun) : Plan := fun s =>
  if r.ops.any (fun o => !o.fin) ∨ (r.desc.opc = 6 ∧ (r.acks ≠ 0 ∨ r.landed < r.desc.f 431 400)) then [] else
  let due := r.start + r.eLast + r.late
  let more := r.lastAt - due
  let c := max (due + more + 32) (if r.desc.opc = 6 then r.ackAt else 0)
  if s.clock < c then [] else
  let st := s.ceStatus a r
  plans
   [ceLate a r.lastLevel more,
    fun _ => if a < 40 ∧ r.desc.opc = 5 ∧ r.desc.b 310 ∧ st.1 = 0 then [wr .CE_EPOCH_EPOCH (r.desc.f 383 368) a] else [],
    ceOver a r st.1 (r.val0 0 0) (min (r.late + more) (2 ^ 32 - 1) + min st.2 (2 ^ 32 - 1) * 2 ^ 32) c] s

/-- A collective completes in its cycle. -/
def ceDone (a : Nat) : Plan := plans
  [ceGo a, fun s =>
    match s.ceRun a with
    | some r =>
      (match r.fin with
      | some (c, st) => if s.clock < c then [] else ceOver a r st 0 0 c s
      | none => ceFinish a r s)
    | none =>
      match (if a < 40 then s.running a 2 else none) with
      | none => []
      | some q =>
        if s.clock < q.done then [] else
        plans
         [fun s => [.parts fun p => { p with running := p.running.put (eKey a 2) none }, wv .ENG_LAST q.done a 2, wr .CE_STAT_BUSY 0 a,
            wr .CE_STAT_LAST_STATUS q.status a, wr .CE_STAT_LAST_TAG (q.desc.f 47 32) a, bump s .CE_CNT_DONE 1 a],
          complete a 2 q.desc q.status q.val0 q.val1 (q.done - q.start) false] s]

/-- A collective completes. -/
def execCollectiveCompletion (agent : Fin 44) (s : State) : Outcome State Fault Refusal := .next <| s.perform (ceDone agent)

/-! ### The triggered agent (R380) -/

/-- A slot's registers as a descriptor of 64 B in and out of CE_TRIG_DATA. -/
def State.slotDesc (s : State) (j : Nat) : Desc :=
  let f := fun (x : Fld) => s.rd x 0 j
  let bytes := if f .CE_TRIG_CTL_OPC = 5 then 0 else 64
  ⟨packFields [(0, f .CE_TRIG_CTL_OPC), (256, bytes), (288, f .CE_TRIG_CTL_COMM), (296, f .CE_TRIG_CTL_DTYPE), (300, f .CE_TRIG_CTL_ROP),
     (302, f .CE_TRIG_CTL_FLAT), (304, f .CE_TRIG_CTL_LVL_MASK), (307, f .CE_TRIG_CTL_ALG), (312, 6), (336, f .CE_TRIG_CTL_ROOT)],
   0, 0, false, false, 0⟩

/-- A slot starts in cycle `at_`. A slot that runs is not started again. -/
def slotStart (j at_ : Nat) : Plan := fun s =>
  if ¬ s.domOn 164 ∨ s.rd .CE_TRIG_CTL_STATE 0 j = 2 then [] else
  let d := s.slotDesc j
  let comm := d.f 295 288
  let c := s.ceCtx 0 comm 63
  let lv := c.named d
  let start := max at_ (s.vr .CE_STALE 40 comm)
  let bad := ¬ (d.opc = 1 ∨ d.opc = 4 ∨ d.opc = 5) ∨ ceBadPlan c d lv = true
  let r := s.ceNew (40 + j) d start (s.vr .CE_SEQ 40 comm) []
  [wr .CE_TRIG_CTL_STATE 2 0 j]
  ++ (if bad then [.parts fun p => { p with ce := p.ce.put (40 + j) (some { r with ops := [], readyTo := [], fin := some (start + 2, 0x84) }) }]
      else [.parts fun p => { p with ce := p.ce.put (40 + j) (some r) }, wv .CE_SEQ (r.seq + 1) 40 comm])

/-- A write of GO starts a slot in the next cycle. -/
def execTriggeredGo (slot : Fin 4) (s : State) : Outcome State Fault Refusal := .next <| s.perform fun s => slotStart slot (s.clock + 1) s

/-- The GTC equals a nonzero CE_TRIG_AT. -/
def execTriggeredAt (slot : Fin 4) (s : State) : Outcome State Fault Refusal :=
  .next <| s.perform fun s =>
    if s.rd .CE_TRIG_AT_AT 0 slot = 0 ∨ s.gtc ≠ s.rd .CE_TRIG_AT_AT 0 slot then [] else slotStart slot s.clock s

end Sys2Proof.Machine
end

