-- ==== Sys2Proof/Machine/CheckValue.lean ====
section
/-! DEFINITION. The check-value units (R501 to R508). Unit u of tile t is engine 4 + u. -/
namespace Sys2Proof.Machine
open Host

/-- The descriptor armed in a unit. -/
def State.cvOf (s : State) (t u : Nat) : Option CvArm := s.parts.cv.find (2 * t + u)

/-- The armed descriptor changes. -/
def cvSet (t u : Nat) (f : CvArm → CvArm) : Act := .parts fun p => { p with cv := p.cv.put (2 * t + u) ((p.cv.find (2 * t + u)).map f) }

/-- The refusal of R505 at a start. -/
def State.cvBad (s : State) (d : Desc) : Bool :=
  let rlen := d.f 151 128
  let aoff := d.f 175 152
  decide (5 ≤ d.f 66 64) || d.f 68 67 == 3 || d.f 70 69 == 3
  || rlen % 64 != 0 || aoff % 4 != 0 || d.f 199 176 % 64 != 0
  || decide ((if d.f 68 67 = 0 then rlen - 4 else rlen) < aoff + 4)
  || (d.f 66 64 != 4 && decide (2 ^ 24 < d.f 95 72 + d.f 120 96))
  || (d.f 68 67 == 1 && decide (2 ^ 24 < d.f 199 176 + 4 * d.f 295 264))
  || (d.f 359 296 != 0 && !gtcBefore s.gtc (d.f 359 296))

/-- The table that a descriptor reads. -/
def Desc.cvReads (d : Desc) : List (Nat × Nat) := if d.f 68 67 = 1 then [(d.f 199 176, 4 * d.f 295 264)] else []

/-- A descriptor arms its unit. -/
def cvStart (t u : Nat) (d : Desc) : Plan := plans
  [popQueue t (4 + u),
   fun s => [.parts fun p => { p with cv := p.cv.put (2 * t + u) (some {
      desc := d, start := s.clock, recs := [], buf := [], bufBad := false, chain := 0xFFFFFFFF,
      alive0 := if d.f 70 69 = 2 then (s.rd .CV_ALIVE_LAST t u + 1) % 2 ^ 32 else d.f 263 232,
      decided := 0, crcMis := 0, aliveMis := 0, anyMis := 0, first := none, poisoned := 0 }) },
     wr .CV_STAT_ARMED 1 t u, wr .CV_STAT_SPEC_HOLD 0 t u, wr .CV_STAT_RECORD 0 t u]]

/-- What a descriptor that is over shows. -/
def cvShow (t u : Nat) (d : Desc) (status : Nat) : Plan := fun s =>
  [wv .ENG_LAST s.clock t (4 + u), wr .CV_STAT_LAST_STATUS status t u, wr .CV_STAT_LAST_TAG (d.f 47 32) t u]

/-- The command CV_ARM: the head of the unit's queue arms it, is refused, waits, or, refused before, completes (R501, R505, R507,
R508). -/
def cvCommand (t u : Nat) : Plan := fun s =>
  let e := 4 + u
  if ¬ s.domOn t then [] else
  match s.running t e with
  | some r => if s.clock < r.done then [] else plans [cvShow t u r.desc r.status, retire t e r] s
  | none =>
    if (s.cvOf t u).isSome then [] else
    match s.queue t e with
    | [] => []
    | d :: _ =>
      let idle := fun done status => begin_ t e { desc := d, start := s.clock, done := done, status := status, val0 := 0, val1 := 0, spec := false }
      if d.note ≠ 0 then plans [idle (max s.clock (max (s.vr .SQ_AT t) (s.vr .ENG_LAST t e + 1))) d.note, fun _ => [wr .CV_STAT_SPEC_HOLD 0 t u]] s
      else if ¬ s.ready t d ∨ s.clock ≤ s.vr .ENG_LAST t e then []
      else match funcServes (s.rd .CV_STAT_FSTATE t u) (s.rd .CV_STAT_PEND_EN t u) (s.vr .FUNC_DIS_AT t (5 + u)) d.issued with
        | none => []
        | some on =>
          if s.cvBad d then idle (s.clock + 2) 0x84 s
          else if ¬ on then idle (s.clock + 1) 0x85 s
          else if s.readsCaldera t d d.cvReads then [wr .CV_STAT_SPEC_HOLD 1 t u]
          else if s.rd .CV_STAT_SPEC_HOLD t u = 1 ∧ s.clock < s.vr .SPEC_RELEASE t then []
          else cvStart t u d s

/-- CV_ARM. -/
def execCvArm (tile : Tile) (unit : Fin 2) (s : State) : Outcome State Fault Refusal := .next <| s.perform (cvCommand tile unit)

/-- The summary words (Table 21.5): `ends` holds bit 0 for DEADLINE and bit 1 for DISARM. -/
def CvArm.val0 (a : CvArm) : Nat := a.decided % 2 ^ 32 + min a.crcMis 65535 * 2 ^ 32 + min a.aliveMis 65535 * 2 ^ 48

/-- VAL1. -/
def CvArm.val1 (a : CvArm) (ends : Nat) : Nat :=
  (a.first.getD 0xFFFFFFFF) % 2 ^ 32 + a.poisoned % 65536 * 2 ^ 32 + ends * 2 ^ 48 + (if a.buf.isEmpty then 0 else 2 ^ 50)

/-- The DATA of a CV_MISMATCH record (Table 21.6). -/
def cvData (k : Nat) (crc alive : Bool) (d : Desc) (c e x y : Nat) : List Byte :=
  leBytes 4 k ++ leBytes 1 ((if crc then 1 else 0) + (if alive then 2 else 0) + 4 * d.f 66 64) ++ leBytes 3 0
  ++ leBytes 4 c ++ leBytes 4 e ++ leBytes 4 x ++ leBytes 4 y ++ leBytes 2 (d.f 47 32) ++ leBytes 14 0

/-- The first mismatch of a descriptor: the interrupt and one record (R504). Later ones are only counted. -/
def cvMismatch (t u k : Nat) (crc alive : Bool) (c e x y : Nat) : Plan := fun s =>
  match s.cvOf t u with
  | none => []
  | some a => plans
     [fun s => [cvSet t u fun a => { a with
        crcMis := a.crcMis + (if crc then 1 else 0), aliveMis := a.aliveMis + (if alive then 1 else 0), anyMis := a.anyMis + 1,
        first := a.first.orElse fun _ => some k }, bump s .CV_CNT_MISMATCH 1 t u],
      if a.anyMis = 0 then plans
        [if a.desc.b 71 then ipend t 3 else fun _ => [],
         logRind (0x0100 + 2 * t + u) 0 0x0008 false (cvData k crc alive a.desc c e x y)]
      else fun _ => []] s

/-- The descriptor completes: under EXP_MODE 2 the span CRC is compared, and a descriptor with a mismatch logs its totals
(R503 to R506). -/
def cvFinish (t u ends : Nat) : Plan := plans
  [fun s => match s.cvOf t u with
    | none => []
    | some a =>
      let c := a.chain ^^^ 0xFFFFFFFF
      if a.desc.f 68 67 = 2 ∧ c ≠ a.desc.f 231 200 then
        cvMismatch t u ((a.desc.f 295 264 + 2 ^ 32 - 1) % 2 ^ 32) true false c (a.desc.f 231 200) Config.cvUnchecked Config.cvUnchecked s
      else [],
   fun s => match s.cvOf t u with
    | none => []
    | some a =>
      let st := if a.poisoned ≠ 0 then 0x40 else 0
      plans
       [fun _ => [.parts fun p => { p with cv := p.cv.put (2 * t + u) none }, wr .CV_STAT_ARMED 0 t u],
        cvShow t u a.desc st,
        if a.anyMis ≠ 0 then logRind (0x0100 + 2 * t + u) 0 0x0009 false (leBytes 8 a.val0 ++ leBytes 8 (a.val1 ends)) else fun _ => [],
        complete t (4 + u) a.desc st a.val0 (a.val1 ends) (s.clock - a.start) false] s]

/-- The DEADLINE of the armed descriptor has come. -/
def State.cvLate (s : State) (d : Desc) : Bool := d.f 359 296 != 0 && !gtcBefore s.gtc (d.f 359 296)

/-- Record k is decided (R503). -/
def cvDecide (t u : Nat) : Plan := fun s =>
  match s.cvOf t u with
  | none => []
  | some a =>
    match a.recs with
    | [] => []
    | (bs, bad, due) :: rest =>
      if s.clock < due ∨ s.cvLate a.desc then [] else
      let d := a.desc
      let k := a.decided
      let n := bs.length
      let mode := d.f 68 67
      let tab := s.readTs t (d.f 199 176 + 4 * k) 4
      let bad := bad || (mode == 1 && !tab.bad.isEmpty)
      let crc := if mode = 0 then crc32c (bs.take (n - 4)) else crc32c bs
      let exp := if mode = 0 then leNat (bs.drop (n - 4)) else leNat tab.data
      let val := leNat ((bs.drop (d.f 175 152)).take 4)
      let want := (a.alive0 + k) % 2 ^ 32
      let checksCrc := decide (mode < 2)
      let checksAlive := d.f 70 69 != 0
      let crcBad := !bad && checksCrc && crc != exp
      let aliveBad := !bad && checksAlive && val != want
      let un := Config.cvUnchecked
      plans
       [if mode = 1 then noteRead tab else fun _ => [],
        fun s => [cvSet t u fun a => { a with
            recs := rest, decided := k + 1, chain := crc32cRun a.chain bs, poisoned := min (a.poisoned + (if bad then 1 else 0)) 65535 },
          bump s .CV_CNT_RECORDS 1 t u, wr .CV_STAT_RECORD (k + 1) t u]
          ++ (if bad then [bump s .CV_CNT_POISON 1 t u] else if checksAlive then [wr .CV_ALIVE_LAST val t u] else []),
        if crcBad || aliveBad then
          cvMismatch t u k crcBad aliveBad (if checksCrc then crc else un) (if checksCrc then exp else un)
            (if checksAlive then val else un) (if checksAlive then want else un)
        else fun _ => [],
        if k + 1 = d.f 295 264 then cvFinish t u 0 else fun _ => []] s

/-- A record is decided. -/
def execCvRecordDecision (tile : Tile) (unit : Fin 2) (s : State) : Outcome State Fault Refusal :=
  .next <| s.perform (cvDecide tile unit)

/-- The GTC reaches DEADLINE. -/
def execCvDeadline (tile : Tile) (unit : Fin 2) (s : State) : Outcome State Fault Refusal :=
  .next <| s.perform fun s => match s.cvOf tile unit with
    | some a => if s.cvLate a.desc then cvFinish tile unit 1 s else []
    | none => []

/-- A write of 1 to CV_CTL.DISARM of a unit. -/
def execCvDisarm (tile : Tile) (unit : Fin 2) (s : State) : Outcome State Fault Refusal :=
  .next <| s.perform fun s => if s.domOn tile then cvFinish tile unit 2 s else []

end Sys2Proof.Machine
end

