-- ==== Sys2Proof/Machine/Forecast.lean ====
section
/-! DEFINITION. Forecast speculation (R201 to R222): windows, the compare, confirm and squash, and the caldera's register. -/
namespace Sys2Proof.Machine
open Host

/-- FS_OPEN issues; its window opens in the next cycle, or none opens (R206). -/
def execFsOpen (tile : Tile) (form : IssueForm) (s : State) : Outcome State Fault Refusal :=
  .next <| s.perform (issuePlan tile 6 form)

/-! ### The compare (R207, R209 to R211) -/

/-- The fields of a tolerance compare: offset from PRED_ADDR, length and BOUND (R205). -/
def fieldTable : Nat → List (List Byte) → List (Nat × Nat × Nat)
  | _, [] => []
  | o, e :: es => (o, leNat (e.take 4), leNat ((e.drop 8).take 8)) :: fieldTable (o + leNat (e.take 4)) es

/-- The field table of a descriptor as the store holds it. -/
def State.fsFields (s : State) (t : Nat) (d : Desc) : List (Nat × Nat × Nat) :=
  let n := d.f 202 200 + 1
  let bs := (s.readTs t (d.f 151 128) (16 * n)).data
  fieldTable 0 ((List.range n).map fun k => (bs.drop (16 * k)).take 16)

/-- An f64 is negative or NaN. -/
def negOrNan (x : Nat) : Bool := match Fmt.fp64.decode x with | .nan _ => true | v => v.neg && !v.isZero

/-- The refusal of R207. -/
def State.fsBad (s : State) (t : Nat) (d : Desc) : Bool :=
  let len := d.f 183 160
  let pred := d.f 87 64
  let real := d.f 119 96
  let tol := d.b 197
  let tn := 16 * (d.f 202 200 + 1)
  let lim := d.f 383 320
  let fs := s.fsFields t d
  pred % 64 != 0 || real % 64 != 0 || d.f 257 256 != 0 || len % 64 != 0 || len == 0 || (tol && d.f 151 128 % 64 != 0)
  || !s.insideCaldera t pred len
  || s.touchesCaldera t real len || decide (2 ^ 24 < real + len)
  || s.rd .FS_CALDERA_SIZE t == 0
  || (tol && (s.touchesCaldera t (d.f 151 128) tn || decide (2 ^ 24 < d.f 151 128 + tn)
      || (fs.any fun x => x.2.1 == 0 || x.2.1 % 64 != 0 || negOrNan x.2.2) || (fs.foldl (fun a x => a + x.2.1) 0 != len)))
  || (lim != 0 && !gtcBefore s.gtc lim)

/-- A granule of tile t's store as it stood at the start of clock cycle `c` (R209). -/
def State.granuleAt (s : State) (t g c : Nat) : List Byte × Bool :=
  match (s.parts.cmpSnap.at t).find? fun x => x.granule == g && decide (c ≤ x.clock) with
  | some x => (x.data, x.bad)
  | none => let r := s.readTsPart t (64 * g) 64; (r.data, !r.bad.isEmpty)

/-- The tolerance format of a code. -/
def tolFmt (c : Nat) : Fmt := match c with | 0 => .fp64 | 1 => .fp32 | 2 => .fp16 | _ => .bf16

/-- An element is within bound: its encodings are equal, or both values are finite and their exact difference is at most BOUND. -/
def withinBound (f : Fmt) (bound x y : Nat) : Bool :=
  x == y ||
  match f.decode x, f.decode y with
  | .fin a m e, .fin b n g =>
    let d := (dyOf a m e).add (dyOf b n g).neg
    let d := if d.n < 0 then d.neg else d
    (match Fmt.fp64.decode bound with
    | .fin _ k h => d.le (dyOf false k h)
    | .inf _ => true
    | .nan _ => false)
  | _, _ => false

/-- What the compare of one granule finds: whether it is poisoned, whether it mismatches, how many mismatches it adds to VAL0, and
whether any encodings differ. -/
structure Cmp where
  poison : Bool
  mis : Bool
  n : Nat
  differs : Bool
deriving DecidableEq, Repr

/-- The compare of granule i. -/
def State.cmpGranule (s : State) (t : Nat) (d : Desc) (fields : List (Nat × Nat × Nat)) (i : Nat) : Cmp :=
  let c := s.vr .CMP_AT t + i
  let p := s.granuleAt t (d.f 87 64 / 64 + i) c
  let r := s.granuleAt t (d.f 119 96 / 64 + i) c
  let poison := p.2 || r.2
  if d.b 197 then
    let f := tolFmt (d.f 199 198)
    let z := f.bits / 8
    let bound := match fields.find? fun x => decide (x.1 ≤ 64 * i ∧ 64 * i < x.1 + x.2.1) with | some x => x.2.2 | none => 0
    let out := (List.range (64 / z)).filter fun k =>
      poison || !withinBound f bound (leNat ((p.1.drop (z * k)).take z)) (leNat ((r.1.drop (z * k)).take z))
    ⟨poison, !out.isEmpty, out.length, p.1 != r.1⟩
  else
    let bad := p.1 != r.1 || p.2 != r.2
    ⟨poison, bad, if bad then 1 else 0, p.1 != r.1⟩

/-! ### Resolution (R208, R212, R217 to R219) -/

/-- The caldera granules written in the window so far. -/
def State.caldWritten (s : State) (t : Nat) : Nat :=
  (s.file.filter fun e => match e.1 with | .var .CALD_W i _ => i == t | _ => false).length

/-- Completions that are due register before a resolution acts. -/
def dueFirst (t : Nat) : Plan := fun s => plans
  [planAll (s.parts.mx.at t) fun _ => matrixDone t, solverDone t, planAll (s.parts.vxDone.at t) fun _ => vxSummaryDone t] s

/-- Every speculation mark of the tile goes (R217). -/
def clearMarks (t : Nat) : Act := .clear fun l => match l with
  | .var .MARK_GP i _ => i == t
  | .var .MARK_SV i _ => i == t
  | .var .MARK_VX i _ => i == t
  | .var .EXC_MARK i _ => i == t
  | .reg .MX_STAT_BANK_SPEC i _ => i == t
  | .reg .TC_SUM0_SPEC i _ => i == t
  | .var .CALD_W i _ => i == t
  | _ => false

/-- What started and queued work of the tile is no longer: speculative. -/
def unspec (t : Nat) : Act := .parts fun p => { p with
  queues := (List.range 7).foldl (fun q e => q.set (eKey t e) ((q.at (eKey t e)).map fun d => { d with win := false, marked := false })) p.queues
  running := (List.range 8).foldl (fun r e => r.put (eKey t e) ((r.find (eKey t e)).map fun x => { x with spec := false })) p.running
  mx := p.mx.set t ((p.mx.at t).map fun r => { r with spec := false })
  sv := p.sv.put t ((p.sv.find t).map fun r => { r with spec := false })
  vq := p.vq.set t ((p.vq.at t).map fun q => { q with win := false, marked := false })
  vxDone := p.vxDone.set t ((p.vxDone.at t).map fun d => { d with spec := false })
  loads := p.loads.set t ((p.loads.at t).map fun l => { l with mark := false }) }

/-- The window closes: WRITTEN keeps its count, and SPEC becomes pending. -/
def closeWindow (t : Nat) : Plan := plans
  [fun s => [wr .FS_FENCE_WRITTEN (s.caldWritten t) t, wr .FS_STAT_WIN 0 t], ipend t 6]

/-- A confirm (R217): marks and flags clear, recorder entries are written, and solves present their results. -/
def confirm (t : Nat) : Plan := plans
  [dueFirst t, closeWindow t, fun _ => [clearMarks t, unspec t], rnDiscard t,
   fun s => planAll (s.parts.recBuf.at t) (fun e => writeTs t e.1 (leBytes 64 e.2) []) s,
   fun s => planAll (s.parts.svSnoop.at t) (fun x s => plans
     [snoop t 4 x.x ((s.readTs t x.x x.len).data) (if x.poison then [x.x / 64 * 64] else []), snoop t 4 (x.x + x.len) x.sum []] s) s,
   fun s => [.parts fun p => { p with recBuf := p.recBuf.set t [], svSnoop := p.svSnoop.set t [], cmpSnap := p.cmpSnap.set t [] },
     wv .SPEC_RELEASE (s.clock + 1) t, bump s .FS_RES_CONFIRM 1 t]]

/-- A squash acts on the control core (R218). -/
def squashCore (t resume : Nat) : Plan := fun s =>
  let gone := (List.range 32).flatMap fun r =>
    (if s.vr .MARK_GP t r = 1 then [wv .GP 0 t r, wv .MARK_GP 0 t r] else [])
    ++ (if s.vr .MARK_SV t r = 1 then [wv .SV 0 t r, wv .MARK_SV 0 t r] else [])
  let stalled := s.vr .SPEC_STALL t == 1
  let drop := Act.parts fun p => { p with loads := p.loads.set t ((p.loads.at t).filter fun l => !(l.mark || s.marked t (rgOf l.dest))) }
  [drop] ++ gone ++ [wv .EXC_MARK 0 t, wv .SPEC_STALL 0 t]
  ++ (if stalled then [wv .STALLED 0 t] else [])
  ++ (if s.rd .TC_CTL_RUN t = 0 then [wr .TC_EPC_PC (resume / 4) t]
      else if s.rd .TC_STAT_INEXC t = 1 then
        [wr .TC_EPC_PC (resume / 4) t, wv .CORE_AT (s.clock + 1) t] ++ (if stalled then [wv .PC ((s.pc t + 4) % 65536) t] else [])
      else [wv .PC resume t, wv .CORE_AT (s.clock + 6) t, wv .STALLED 0 t, .parts fun p => { p with waits := p.waits.put t none }])

/-- Started matrix descriptors after a squash in cycle z: a speculative one that has not completed completes with 0x14, one per cycle
(R219). -/
def squashRuns (z : Nat) : Nat → List MxRun → List MxRun
  | _, [] => []
  | prev, r :: rs =>
    if r.spec ∧ ¬ (r.fin ∧ r.done ≤ z) then
      let c := max (z + 2) (prev + 1)
      { r with fin := true, done := c, status := 0x14, spec := false } :: squashRuns z c rs
    else r :: squashRuns z r.done rs

/-- A squash acts on the matrix engine (R108, R136, R219). -/
def squashMatrix (t : Nat) : Plan := fun s =>
  let old := s.parts.mx.at t
  let new := squashRuns s.clock 0 old
  let hit := old.filter fun r => r.spec && !(r.fin && decide (r.done ≤ s.clock))
  let last := new.foldl (fun m r => if r.status = 0x14 then max m r.done else m) 0
  let bank := fun a => testB (s.rd .MX_STAT_BANK_SPEC t) a
  let inBank := fun (x : Nat) => (List.range 2).any fun a => bank a && decide (mxBase t + a * 0x100000 ≤ x ∧ x < mxBase t + (a + 1) * 0x100000)
  plans
   [fun s => setQueue t 0 ((s.queue t 0).map fun d =>
      if d.note = 0 ∧ (if d.opc = 0x10 then s.mmfSpec t d else s.mxSpec t d) then { d with note := 0x14 } else d) s,
    fun _ => [.parts fun p => { p with mx := p.mx.set t new }],
    if hit.isEmpty then fun _ => [] else plans
      [fun s => [wr .MX_STAT_PIECE_WAIT 0 t, wr .MX_STAT_SPEC_HOLD 0 t, wv .MX_DONE (max (s.vr .MX_DONE t) last) t], mxFloor t (last + 1)],
    fun s => .clearMem inBank :: (.clear fun l => match l with
        | .var .MX_ROWP i j => i == t && bank (j / 512)
        | .var .MX_COLP i j => i == t && bank (j / 512)
        | .var .MX_BAD i j => i == t && bank (j / 131072)
        | _ => false)
      :: (if hit.any fun r => r.desc.opc = 0x10 then
          [.clearMem fun x => decide (rsBase t ≤ x ∧ x < rsBase t + 0x400000), .clear fun l => match l with | .var .RS_BAD i _ => i == t | _ => false]
          else [])
      ++ [wr .MX_STAT_BANK_HELD (if bank 0 && bank 1 then 0 else if bank 0 then clrB (s.rd .MX_STAT_BANK_HELD t) 0
            else if bank 1 then clrB (s.rd .MX_STAT_BANK_HELD t) 1 else s.rd .MX_STAT_BANK_HELD t) t,
          wr .MX_STAT_BANK_SPEC 0 t]] s

/-- A squash acts on the solver engine (R196, R219): a running speculative descriptor ends with 0x14, and a factor it had begun to form
is NONE. -/
def squashSolver (t : Nat) : Plan := fun s =>
  let z := s.clock
  let mark := fun s => setQueue t 1 ((s.queue t 1).map fun d =>
    if d.note = 0 ∧ d.win ∧ (d.marked ∨ (s.svTouches t d).1.any fun r => s.touchesCaldera t r.1 r.2) then { d with note := 0x14 } else d) s
  match s.running t 1 with
  | none => mark s
  | some q =>
    let r := s.parts.sv.find t
    let spec : Bool := q.spec || (match r with | some r => r.spec | none => false)
    if ¬ spec then mark s else
    plans
     [mark, fun s =>
      [.parts fun p => { p with
        running := p.running.put (eKey t 1) (some { q with
          done := max (z + 2) (s.vr .SV_LAST t + 1), status := 0x14, val0 := q.desc.svNone, val1 := 0, spec := false }), sv := p.sv.put t none },
       wr .SV_STAT_LEND_WAIT 0 t, wr .SV_STAT_SPEC_HOLD 0 t]
      ++ (match r with | some r => if r.begun then [wr .SV_HSTAT_FACT 0 t q.desc.svHandle] else [] | none => [])] s

/-- Queued descriptors of engines 2 to 5 that are speculative are marked squashed (R213, R219). -/
def squashQueues (t : Nat) : Plan := fun s =>
  let cut := fun e (reads : Desc → List (Nat × Nat)) => fun (s : State) => setQueue t e ((s.queue t e).map fun d =>
    if d.note = 0 ∧ s.readsCaldera t d (reads d) then { d with note := 0x14 } else d) s
  plans [cut 2 (s.ceReads t), cut 3 (s.dmaReads t), cut 4 Desc.cvReads, cut 5 Desc.cvReads] s

/-- A squash acts on the vector engine (R219): queued instructions with a marked source are discarded, a summ among them and running
speculative ones report 0x14 two cycles later, and marked registers are 0. -/
def squashVector (t : Nat) : Plan := fun s =>
  let gone := fun (q : VxQ) => (s.vxEnv t q).spec
  let cut := (s.parts.vq.at t).filter gone
  let sums := (cut.filter fun q => q.op == 0x30).map fun q => (⟨s.clock + 2, q.fn, some q.vd, 0x14, 0, 0, 0, false⟩ : VxDone)
  let marked := fun r => s.vMark t r
  let inReg := fun (x : Nat) => (List.range 40).any fun r => marked r &&
    (if r < 32 then decide (vreg t r ≤ x ∧ x < vreg t r + 1024) else decide (treg t (r - 32) ≤ x ∧ x < treg t (r - 32) + 16384))
  plans
   [setVq t ((s.parts.vq.at t).filter fun q => !gone q),
    fun _ => [.parts fun p => { p with vxDone := p.vxDone.set t (((p.vxDone.at t).map fun d =>
        if d.spec then { d with done := s.clock + 2, status := 0x14, val0 := 0, val1 := 0, spec := false } else d) ++ sums) },
      wr .VX_STAT_SPEC_HOLD 0 t,
      .clearMem inReg,
      .clear fun l => match l with
        | .var .VX_POIS i j => i == t && (if j < 512 then marked (j / 16) else marked (32 + (j - 512) / 256))
        | .var .VX_BAD i j => i == t && (if j < 4096 then marked (j / 128) else marked (32 + (j - 4096) / 2048))
        | .var .LA i j => i == t && marked (40 + j)
        | .var .LA_FLAG i j => i == t && marked (40 + j)
        | .var .LA_POIS i j => i == t && marked (40 + j)
        | .var .LA_COUNT i j => i == t && marked (40 + j)
        | .var .MARK_VX i _ => i == t
        | _ => false]] s

/-- Written granules become squashed and read as zero without poison; SPEC summaries report 0x14 (R203, R219). -/
def squashStore (t : Nat) : Plan := fun s =>
  let w := fun g => s.vr .CALD_W t g == 1
  [.clearMem fun a => decide (storeBase t ≤ a ∧ a < storeBase (t + 1)) && w ((a - storeBase t) / 64),
   .clear fun l => match l with
     | .var .TS_POIS i j => i == t && w j
     | .var .TS_CHK i j => i == t && w (j / 8)
     | _ => false]
  ++ (List.range 32).flatMap fun k =>
    if s.rd .TC_SUM0_SPEC t k = 1 then
      [wr .TC_SUM0_STATUS 0x14 t k, wr .TC_SUM1_VAL0 0 t k, wr .TC_SUM2_VAL1 0 t k, wr .TC_SUM0_SPEC 0 t k] else []

/-- A squash (R218, R219); `counted` unless R207 refused the FS_OPEN. -/
def squash (t resume : Nat) (counted : Bool) : Plan := plans
  [dueFirst t, fun s => [wv .SQ_AT (s.clock + 2) t],
   squashMatrix t, squashSolver t, squashQueues t, squashVector t, squashCore t resume, squashStore t, closeWindow t, rnRestore t,
   fun s => [clearMarks t, unspec t,
     .parts fun p => { p with recBuf := p.recBuf.set t [], svSnoop := p.svSnoop.set t [], cmpSnap := p.cmpSnap.set t [] },
     wr .DM_REC_CTL_COUNT (s.vr .REC_COUNT0 t) t]
     ++ (if counted then [bump s .FS_RES_SQUASH 1 t] else [])]

/-- RESUME_PC with bits [1:0] as 0. -/
def Desc.resume (d : Desc) : Nat := d.f 271 258 * 4

/-- FS_OPEN completes. -/
def fsComplete (t : Nat) (r : Running) (status val0 off cycles : Nat) : Plan := plans
  [fun s => [.parts fun p => { p with running := p.running.put (eKey t 6) none }, wv .ENG_LAST s.clock t 6,
     wr .FS_STAT_LAST_STATUS status t, wr .FS_STAT_LAST_TAG (r.desc.f 47 32) t],
   fun s => complete t 6 r.desc status val0 (off % 2 ^ 24 + s.rd .FS_FENCE_WRITTEN t * 2 ^ 32) cycles false s]

/-! ### Starting (R207, R208) -/

/-- Every vx instruction issued before a descriptor has completed. -/
def State.vxBefore (s : State) (t : Nat) (d : Desc) : Bool :=
  (s.parts.vq.at t).all (fun q => q.win || decide (d.issued < q.issued)) && decide (s.vr .VX_LASTN t < s.clock)
    && (s.parts.vxDone.at t).all fun x => decide (s.clock < x.done) || x.spec

/-- The compare begins in the cycle after the arrival or the start, whichever is later (R208). -/
def compareBegin (t : Nat) (r : Running) : Plan := fun s =>
  [wr .FS_STAT_WIN 2 t, wv .CMP_AT (max (s.clock + 1) (r.start + 1)) t, .parts fun p => { p with cmpSnap := p.cmpSnap.set t [] }]

/-- ARR_CNT has reached ARR_VAL. -/
def State.arrived (s : State) (t : Nat) (d : Desc) : Bool := s.reached t (d.f 196 192) (d.f 255 224)

/-- WAIT_LIM has come. -/
def State.waitOver (s : State) (d : Desc) : Bool := d.f 383 320 != 0 && !gtcBefore s.gtc (d.f 383 320)

/-- The FS_OPEN at the head of the queue starts and is checked; one that opened no window, or whose window was squashed before, ends;
one refused squashes its window two cycles later. -/
def fsStart (t : Nat) : Plan := fun s =>
  if ¬ s.domOn t then [] else
  match s.running t 6 with
  | some r =>
    if s.clock < r.done then []
    else if r.status = 0x84 ∧ r.desc.note = 0 then
      plans [squash t r.desc.resume false, fsComplete t r 0x84 0 0xFFFFFF (r.done - r.start)] s
    else fsComplete t r r.status 0 0xFFFFFF (r.done - r.start) s
  | none =>
    match s.queue t 6 with
    | [] => []
    | d :: _ =>
      if ¬ s.ready t d ∨ s.clock ≤ s.vr .ENG_LAST t 6 ∨ s.earlierOpen t d.seq ∨ ¬ s.vxBefore t d then [] else
      let go := fun done status => begin_ t 6 { desc := d, start := s.clock, done := done, status := status, val0 := 0, val1 := 0, spec := false }
      if d.note = 0x85 then go (s.clock + 1) 0x85 s
      else if d.note ≠ 0 then go s.clock d.note s
      else if s.rd .FS_STAT_FSTATE t < 2 then []
      else if s.fsBad t d then go (s.clock + 2) 0x84 s
      else plans [go (2 ^ 64) 0,
        fun s => if s.arrived t d then (match s.running t 6 with | some r => compareBegin t r s | none => []) else []] s

/-- FS_OPEN starts. -/
def execFsOpenStart (tile : Tile) (s : State) : Outcome State Fault Refusal := .next <| s.perform (fsStart tile)

/-- The descriptor whose window awaits its halo or compares. -/
def State.fsOpenRun (s : State) (t : Nat) : Option Running := (s.running t 6).filter fun r => r.status == 0

/-- The halo has arrived before its limit: the compare begins. -/
def haloArrival (t : Nat) : Plan := fun s =>
  match s.fsOpenRun t with
  | some r => if s.rd .FS_STAT_WIN t = 1 ∧ s.arrived t r.desc ∧ ¬ s.waitOver r.desc then compareBegin t r s else []
  | none => []

/-- The halo arrives. -/
def execHaloArrival (tile : Tile) (s : State) : Outcome State Fault Refusal := .next <| s.perform (haloArrival tile)

/-- The cycle in which the compare ends. -/
def State.cmpEnd (s : State) (t : Nat) (d : Desc) : Nat := s.vr .CMP_AT t + ceilDiv (d.f 183 160) 64 + 12

/-- The compare ends and the window resolves (Table 8.2). -/
def compareEnd (t : Nat) : Plan := fun s =>
  match s.fsOpenRun t with
  | none => []
  | some r =>
    let d := r.desc
    if s.rd .FS_STAT_WIN t ≠ 2 ∨ s.clock < s.cmpEnd t d then [] else
    let fields := if d.b 197 then s.fsFields t d else []
    let cs := (List.range (d.f 183 160 / 64)).map (s.cmpGranule t d fields)
    let n := cs.foldl (fun a c => a + c.n) 0
    let off := match cs.findIdx? fun c => c.mis with | some i => 64 * i | none => 0xFFFFFF
    let st := if cs.any (·.poison) then 0x40 else if cs.any (·.mis) then 0x14
      else if d.b 197 ∧ (cs.any (·.differs)) then 0x01 else 0
    plans
     [noteRead (s.readTs t (d.f 87 64) (d.f 183 160)), noteRead (s.readTs t (d.f 119 96) (d.f 183 160)),
      fun _ => [wr .FS_MISMATCH_OFFSET off t, wr .FS_MISMATCH_COUNT n t],
      if st ≤ 1 then confirm t else squash t d.resume true,
      fsComplete t r st n off (s.cmpEnd t d - r.start)] s

/-- The compare ends. -/
def execCompareEnd (tile : Tile) (s : State) : Outcome State Fault Refusal := .next <| s.perform (compareEnd tile)

/-- WAIT_LIM comes before the halo. -/
def haloLate (t : Nat) : Plan := fun s =>
  match s.fsOpenRun t with
  | some r =>
    if s.rd .FS_STAT_WIN t = 1 ∧ s.waitOver r.desc then
      plans [squash t r.desc.resume true, fsComplete t r 0x15 0 0xFFFFFF (s.clock - r.start)] s
    else []
  | none => []

/-- The halo is late. -/
def execHaloLate (tile : Tile) (s : State) : Outcome State Fault Refusal := .next <| s.perform (haloLate tile)

/-- A write of FS_CTL.FORCE_SQUASH (R208): before the start the FS_OPEN completes when it starts. -/
def forceSquash (t : Nat) : Plan := fun s =>
  if ¬ s.domOn t ∨ ¬ s.window t then [] else
  match s.running t 6 with
  | some r =>
    if r.status ≠ 0 ∨ (s.rd .FS_STAT_WIN t = 2 ∧ s.cmpEnd t r.desc ≤ s.clock) ∨ (s.rd .FS_STAT_WIN t = 1 ∧ s.waitOver r.desc) then []
    else plans [squash t r.desc.resume true, fsComplete t r 0x16 0 0xFFFFFF (s.clock - r.start)] s
  | none =>
    match (s.queue t 6).find? fun d => d.note == 0 with
    | some d => plans [squash t d.resume true, fun s => setQueue t 6 ((s.queue t 6).map fun x => if x.seq = d.seq then { x with note := 0x16 } else x) s] s
    | none => []

/-- A forced squash. -/
def execForceSquash (tile : Tile) (s : State) : Outcome State Fault Refusal := .next <| s.perform (forceSquash tile)

/-- A write of FS_CALDERA: whole or not at all (R201). -/
def calderaWrite (t v : Nat) : Plan := fun s =>
  let base := bitsOf v 7 0
  let size := bitsOf v 15 8
  if ¬ s.domOn t then []
  else if s.window t ∨ ¬ (s.queue t 6).isEmpty ∨ (s.running t 6).isSome ∨ 128 < size ∨ 256 < base + size then [wr .FS_STAT_CFG_IGN 1 t]
  else [wr .FS_CALDERA_BASE base t, wr .FS_CALDERA_SIZE size t]

/-- A write of FS_CALDERA. -/
def execFsCalderaWrite (tile : Tile) (value : W64) (s : State) : Outcome State Fault Refusal :=
  .next <| s.perform (calderaWrite tile value.toNat)

end Sys2Proof.Machine
end

