-- ==== Sys2Proof/Machine/Regs.lean ====
section
/-! DEFINITION. The registers: where each lies in its block (Tables 2.7, 3.7, 4.8, 5.7, 6.8, 7.8, 8.5, 9.4, 10.8, 11.4,
12.2, 13.5, 14.9, 15.10, 18.9, 19.6, 20.5, 21.8, 21.10) and which bits of it hold which field. -/
namespace Sys2Proof.Machine

/-- The kinds of MMIO block of Table 10.2: a tile's control-register block, the per-link part and the per-F-die part of an
F-die block, the triggered agent's registers of the F-die 0 block, and the package-level blocks. -/
inductive Blk where
  | tile | gt | ls | ec | link | fdie | trig | mb | pm | sc | bb
deriving DecidableEq, Repr

/-- One register array: `count` registers `stride` bytes apart from `off` on; `cells` gives for each field its lowest bit and
what it adds to the entry number j. -/
structure RegRow where
  name : String
  blk : Blk
  off : Nat
  stride : Nat
  count : Nat
  cells : List (Fld × Nat × Nat)
deriving DecidableEq, Repr

/-- The kind of block that holds a field. -/
def Fld.blk : Fld → Blk
  | .GT_CTL_MODE | .GT_CTL_SYNC_OUT_EN | .GT_CTL_OVR_IRQ | .GT_STAT_LOCKED | .GT_STAT_HOLDOVER 
  | .GT_STAT_LOCK_LOST | .GT_STAT_HOPS | .GT_STAT_SLEW | .GT_STAT_OFFSET | .GT_TIME_VALUE | .GT_FRAME_LEN_LEN 
  | .GT_FRAME_BASE_BASE | .GT_FRAME_NUM_BASE_NUM | .GT_FRAME_CTL_ARM | .GT_FRAME_CTL_PEND | .GT_FRAME_CTL_REFUSED 
  | .GT_FRAME_CUR_LEN | .GT_FRAME_NUM_NUM | .GT_TICK_NEXT_VALUE | .GT_CABLE_DLY_DLY | .GT_FSTAT_REF_STALL_MAX 
  | .GT_FSTAT_TBAND | .GT_FSTAT_LINK_CHG | .GT_FSTAT_UNLOCKED | .GT_FSTAT_LATE_REL | .GT_FSTAT_RETRY_EVT 
  | .GT_FSTAT_RETRY_MAX | .GT_FSTAT_THROTTLED | .GT_FSTAT_MAINT | .GT_OVR_CNT_COUNT | .GT_OVR_MASK_TILES 
  | .GT_REF_STALL_MAX | .GT_LAUNCH_AT_L | .GT_LAUNCH_CUTOFF_K | .GT_LAUNCH_CTL_JOB | .GT_LAUNCH_CTL_STATE 
  | .GT_LAUNCH_CTL_ARM | .GT_LAUNCH_CTL_CANCEL | .GT_LAUNCH_CTL_TOO_LATE | .GT_LAUNCH_CTL_RELEASE 
  | .GT_LAUNCH_CTL_WITH_SCHED => .gt
  | .LS_CAPS_CHANNELS | .LS_CAPS_BANKS | .LS_CAPS_ROWS | .LS_CAPS_CAP_GIB | .LS_CAPS_LINES | .LS_CTL_TRIP 
  | .LS_CTL_HYST | .LS_CTL_THROT_IRQ | .LS_STAT_FSTATE | .LS_STAT_PEND_EN | .LS_STAT_PEND_DIS | .LS_STAT_BAND 
  | .LS_STAT_PBAND | .LS_STAT_SELFREF | .LS_STAT_THROTTLE | .LS_STAT_TRIPPED | .LS_STAT_TRAIN_FAIL 
  | .LS_STAT_LINES_MASKED | .LS_STAT_INIT_DONE | .LS_STAT_REPAIR | .LS_TEMP_CUR | .LS_TEMP_MAX | .LS_REF_WINDOWS 
  | .LS_REF_TREFI | .LS_TRAFFIC_BURSTS | .LS_NARROW_SECTORS | .LS_NARROW_RMW | .LS_CHFAIL0_CH | .LS_CHFAIL1_CH => .ls
  | .EC_CAPS_STK_SPARE_ROWS | .EC_CAPS_PPR_ROWS | .EC_CAPS_SPARE_COLGRP | .EC_CAPS_TS_SPARE_ROWS 
  | .EC_CAPS_BUCKETS | .EC_BKT_CFG_DEPTH | .EC_BKT_CFG_LEAK | .EC_BKT_CFG_CLR | .EC_BKT_CFG_IRQ_EN 
  | .EC_BKT_OVF_BKT | .EC_LAST_CE_ADDR | .EC_LAST_CE_BKT | .EC_LAST_CE_POS | .EC_LAST_UE_ADDR | .EC_LAST_UE_BKT 
  | .EC_LAST_UE_MARK | .EC_SCRUB_CTL_EN | .EC_SCRUB_CTL_FSTATE | .EC_SCRUB_CTL_PEND_EN | .EC_SCRUB_CTL_PEND_DIS 
  | .EC_SCRUB_PERIOD_CYCLES | .EC_SCRUB_STAT_POS | .EC_SCRUB_STAT_PASSES | .EC_SCRUB_STAT_LAG | .EC_PPR_STACK 
  | .EC_PPR_CH | .EC_PPR_BANK | .EC_PPR_ROW | .EC_PPR_START | .EC_PPR_BUSY | .EC_PPR_LEFT | .EC_PPR_STATUS 
  | .EC_TS_REPAIR_TILE | .EC_TS_REPAIR_BANK | .EC_TS_REPAIR_ROW | .EC_TS_REPAIR_START | .EC_TS_REPAIR_BUSY 
  | .EC_TS_REPAIR_STATUS | .EC_TEST_CTL_TARGET | .EC_TEST_CTL_CMD | .EC_TEST_CTL_BUSY | .EC_TEST_CTL_POISON 
  | .EC_TEST_CTL_STATUS | .EC_TEST_ADDR_ADDR | .EC_TEST_CHK0_CHK | .EC_TEST_CHK1_CHK | .EC_BKT_LEVEL 
  | .EC_BKT_CORR | .EC_BKT_UNCORR | .EC_TEST_DATA_DATA => .ec
  | .FL_CTL_RESTART | .FL_CTL_PEER_CHK | .FL_CTL_IRQ_EN | .FL_CTL_MAX_W | .FL_CTL_LANE_MASK | .FL_STAT_STATE 
  | .FL_STAT_WIDTH | .FL_STAT_PROBATION | .FL_STAT_CAUSE | .FL_STAT_CHG | .FL_STAT_TRAINS | .FL_LANE_USED 
  | .FL_LANE_RX_POL_INV | .FL_LANE_OPEN | .FL_LANE_SHORT | .FL_LANE_DRIVER | .FL_LANE_LOCK_LOST | .FL_LANE_LOGICAL 
  | .FL_PEER_NODE | .FL_PEER_FDIE | .FL_PEER_PORT | .FL_PEER_VALID | .FL_PEER_EXP_NODE | .FL_PEER_EXP_FDIE 
  | .FL_PEER_EXP_PORT | .FL_LAT_FLIGHT | .FL_LAT_CLASS | .FL_LAT_RT | .FL_FEC_CORR_BITS | .FL_FEC_UNCORR_CW 
  | .FL_FEC_UNCORR_CRC | .FL_RETRY_EVENTS | .FL_RETRY_LAST_FRAME | .FL_QUAL_WORST | .FL_QUAL_WORST_LANE 
  | .FL_QUAL_PASS | .FL_QUAL_POSTFEC_FAIL | .FL_QUAL_WIDTH | .FL_BLOCKS_PAYLOAD => .link
  | .FL_CAPS_LINKS | .FL_CAPS_LANES | .FL_CAPS_REPLAY | .FL_CAPS_INGRESS_KIB | .FL_UP_ACTIVE | .FL_UP_HELD 
  | .NI_CAPS_RT_LOG2 | .NI_CAPS_CAND | .NI_CAPS_REPL | .NI_CAPS_MAP | .NI_CAPS_TRACKER | .NI_CTL_NODE 
  | .NI_CTL_STALE_LOG2 | .NI_STAT_RT_BUSY | .NI_STAT_RECON_PEND | .NI_STAT_HELD | .NI_STAT_REPL_REF 
  | .NI_RT_IDX_INDEX | .NI_RT_IDX_WRITE | .NI_RT_IDX_READ | .NI_RT_DATA_ENTRY | .NI_RESET_TILES | .NI_ERR_STALE 
  | .NI_ERR_TTL | .NI_ERR_NO_ROUTE | .NI_ERR_REFUSED | .NI_RECON_COUNT | .NI_RECON_UNREACH | .NI_RECON_RESENT 
  | .NI_LATE_COUNT | .NI_RECON_SEQ_SEQ | .NI_RECON_SEQ_VALID | .NI_MAP_PHYS | .NI_MAP_VALID | .NI_REPL_HOME_NODE 
  | .NI_REPL_HOME_BASE | .NI_REPL_SIZE_UNITS | .NI_REPL_SIZE_VALID | .NI_REPL_SIZE_ACTIVE 
  | .NI_REPL_SIZE_FLIP_PEND | .NI_REPL_BUF_BUF0 | .NI_REPL_BUF_BUF1 | .NI_REPL_FLIP_AT => .fdie
  | .CE_TRIG_CTL_OPC | .CE_TRIG_CTL_COMM | .CE_TRIG_CTL_DTYPE | .CE_TRIG_CTL_ROP | .CE_TRIG_CTL_FLAT 
  | .CE_TRIG_CTL_LVL_MASK | .CE_TRIG_CTL_ALG | .CE_TRIG_CTL_GO | .CE_TRIG_CTL_STATE | .CE_TRIG_CTL_STATUS 
  | .CE_TRIG_CTL_ROOT | .CE_TRIG_AT_AT | .CE_TRIG_DATA_DATA => .trig
  | .MB_CAPS_HOST_MBOX | .MB_CAPS_TILE_MBOX | .MB_CAPS_MBOX_BYTES | .MB_CTL_HOST_NOTIFY | .MB_PORT_MAP_PORT 
  | .MB_STAT_BUSY | .MB_STAT_TELEM_SHIFT | .MB_STAT_FW_READY | .MB_STAT_IFVER_MAJOR | .MB_STAT_IFVER_MINOR 
  | .MB_OWN_OWN | .MB_PEND_PEND | .MB_TILE_PEND_TILES | .MB_ACK_MAX_CYCLES | .MB_VIOL_HOST_WR | .MB_VIOL_PORT 
  | .MB_VIOL_FW_WR => .mb
  | .PM_CAPS_DOMAINS | .PM_CAPS_FUSE_ENTRIES | .PM_CTL_PKG_RESET | .PM_CTL_WAKE | .PM_CTL_CAP_IRQ 
  | .PM_CTL_THERM_IRQ | .PM_STAT_PSTATE | .PM_STAT_RAILS_OK | .PM_STAT_CRIT | .PM_STAT_LAST_RESET 
  | .PM_STAT_BOOT_FAILS | .PM_STAT_CAP_FRAMES | .PM_READY_JOB_READY | .PM_READY_FW | .PM_READY_STACKS 
  | .PM_READY_TIME | .PM_READY_RENNET | .PM_READY_N | .PM_READY_LINKS_ACTIVE | .PM_READY_LINKS_HELD 
  | .PM_READY_MIN_TILES | .PM_CAP_WATTS | .PM_POWER_INST | .PM_POWER_AVG | .PM_POWER_PEAK | .PM_THROT_DUTY 
  | .PM_THROT_BY_CAP | .PM_THROT_BY_DIE | .PM_THROT_BY_STACK | .PM_THROT_CYCLES | .PM_TRIP_DIE_WARN 
  | .PM_TRIP_DIE_CRIT | .PM_TRIP_HYST | .PM_TEMP_DIE_MAX | .PM_TEMP_HOT_DIE | .PM_TEMP_PEAK | .PM_DORM_AQ0_ON 
  | .PM_DORM_AQ1_ON | .PM_DORM_CRYPTO_ON | .PM_DORM_WAKE_HOST_EN | .PM_DORM_WAKE_PIN_EN | .PM_DORM_WAKE_I3C_EN 
  | .PM_DORM_WAKE_ALARM_EN | .PM_DORM_LAST_WAKE | .PM_WAKE_AT_AT | .PM_DORM_DIGEST_DIGEST | .PM_FUSE_CTL_USED 
  | .PM_FUSE_CTL_PROG | .PM_FUSE_CTL_BUSY | .PM_FUSE_CTL_STATUS | .PM_FUSE_DATA_KIND | .PM_FUSE_DATA_TILE 
  | .PM_FUSE_DATA_STACK | .PM_FUSE_DATA_CH | .PM_FUSE_DATA_BANK | .PM_FUSE_DATA_ROW | .PM_FUSE_DATA_COLUMN 
  | .PM_DOM_EN | .PM_DOM_FSTATE | .PM_DOM_PEND_EN | .PM_DOM_PEND_DIS | .PM_DOM_SLOT_WAIT => .pm
  | .SC_CAPS_KEY_SLOTS | .SC_CAPS_MEAS_SLOTS | .SC_CAPS_SVN_MAX | .SC_LC_STATE | .SC_LC_DEBUG | .SC_LC_SCRAP 
  | .SC_LC_REVOKED | .SC_LC_SLOT_BLANK | .SC_LC_SVN_FUSED | .SC_BOOT_KEY_SLOT | .SC_BOOT_SVN 
  | .SC_BOOT_DEBUG_ALLOW | .SC_BOOT_VERIFIED | .SC_BOOT_LAST_STATUS | .SC_EXT_CTL_SLOT | .SC_EXT_CTL_GO 
  | .SC_EXT_CTL_BUSY | .SC_EXT_CTL_REFUSED | .SC_EXT_DATA_DATA | .SC_OPS_VERIFY | .SC_OPS_SIGN | .SC_OPS_EXTEND 
  | .SC_MEAS_VALUE => .sc
  | .BB_CAPS_RECORDS_LOG2 | .BB_CAPS_SEALED | .BB_CTL_DROP_IRQ | .BB_STAT_SEAL_USED | .BB_STAT_WRAPPED 
  | .BB_STAT_QOCC | .BB_STAT_LAST_GASP | .BB_STAT_DROPPED | .BB_HEAD_IDX | .BB_SEQ_NEXT | .BB_WR_CTL_KIND 
  | .BB_WR_CTL_STATUS | .BB_WR_CTL_FATAL | .BB_WR_CTL_REDACT | .BB_WR_CTL_GO | .BB_WR_CTL_BUSY | .BB_WR_DATA_DATA 
  | .BB_WR_GTC_GTC | .BB_RD_IDX_IDX | .BB_RD_IDX_BUSY | .BB_RD_DATA_DATA => .bb
  | _ => .tile

/-- Registers of the gt block. -/
def regs_gt : List RegRow :=
  [ ⟨"GT_CTL", .gt, 0x0, 8, 1, [(.GT_CTL_MODE, 0, 0), (.GT_CTL_SYNC_OUT_EN, 2, 0), (.GT_CTL_OVR_IRQ, 3, 0)]⟩
  , ⟨"GT_STAT", .gt, 0x8, 8, 1, [(.GT_STAT_LOCKED, 0, 0), (.GT_STAT_HOLDOVER, 1, 0), (.GT_STAT_LOCK_LOST, 2, 0), (.GT_STAT_HOPS, 8, 0), (.GT_STAT_SLEW, 16, 0), (.GT_STAT_OFFSET, 24, 0)]⟩
  , ⟨"GT_TIME", .gt, 0x10, 8, 1, [(.GT_TIME_VALUE, 0, 0)]⟩
  , ⟨"GT_FRAME_LEN", .gt, 0x18, 8, 1, [(.GT_FRAME_LEN_LEN, 0, 0)]⟩
  , ⟨"GT_FRAME_BASE", .gt, 0x20, 8, 1, [(.GT_FRAME_BASE_BASE, 0, 0)]⟩
  , ⟨"GT_FRAME_NUM_BASE", .gt, 0x28, 8, 1, [(.GT_FRAME_NUM_BASE_NUM, 0, 0)]⟩
  , ⟨"GT_FRAME_CTL", .gt, 0x30, 8, 1, [(.GT_FRAME_CTL_ARM, 0, 0), (.GT_FRAME_CTL_PEND, 1, 0), (.GT_FRAME_CTL_REFUSED, 2, 0)]⟩
  , ⟨"GT_FRAME_CUR", .gt, 0x38, 8, 1, [(.GT_FRAME_CUR_LEN, 0, 0)]⟩
  , ⟨"GT_FRAME_NUM", .gt, 0x40, 8, 1, [(.GT_FRAME_NUM_NUM, 0, 0)]⟩
  , ⟨"GT_TICK_NEXT", .gt, 0x48, 8, 1, [(.GT_TICK_NEXT_VALUE, 0, 0)]⟩
  , ⟨"GT_CABLE_DLY", .gt, 0x50, 8, 1, [(.GT_CABLE_DLY_DLY, 0, 0)]⟩
  , ⟨"GT_FSTAT", .gt, 0x58, 8, 1, [(.GT_FSTAT_REF_STALL_MAX, 0, 0), (.GT_FSTAT_TBAND, 16, 0), (.GT_FSTAT_LINK_CHG, 18, 0), (.GT_FSTAT_UNLOCKED, 19, 0), (.GT_FSTAT_LATE_REL, 20, 0), (.GT_FSTAT_RETRY_EVT, 32, 0), (.GT_FSTAT_RETRY_MAX, 48, 0), (.GT_FSTAT_THROTTLED, 56, 0), (.GT_FSTAT_MAINT, 57, 0)]⟩
  , ⟨"GT_OVR_CNT", .gt, 0x60, 8, 1, [(.GT_OVR_CNT_COUNT, 0, 0)]⟩
  , ⟨"GT_OVR_MASK", .gt, 0x68, 8, 1, [(.GT_OVR_MASK_TILES, 0, 0)]⟩
  , ⟨"GT_REF_STALL", .gt, 0x70, 8, 1, [(.GT_REF_STALL_MAX, 0, 0)]⟩
  , ⟨"GT_LAUNCH_AT", .gt, 0x100, 32, 4, [(.GT_LAUNCH_AT_L, 0, 0)]⟩
  , ⟨"GT_LAUNCH_CUTOFF", .gt, 0x108, 32, 4, [(.GT_LAUNCH_CUTOFF_K, 0, 0)]⟩
  , ⟨"GT_LAUNCH_CTL", .gt, 0x110, 32, 4, [(.GT_LAUNCH_CTL_JOB, 0, 0), (.GT_LAUNCH_CTL_STATE, 8, 0), (.GT_LAUNCH_CTL_ARM, 11, 0), (.GT_LAUNCH_CTL_CANCEL, 12, 0), (.GT_LAUNCH_CTL_TOO_LATE, 13, 0), (.GT_LAUNCH_CTL_RELEASE, 14, 0), (.GT_LAUNCH_CTL_WITH_SCHED, 15, 0)]⟩
  ]

/-- Registers of the tile block. -/
def regs_tile : List RegRow :=
  [ ⟨"GT_TILE", .tile, 0xF80, 8, 1, [(.GT_TILE_DONE, 0, 0), (.GT_TILE_OPEN, 8, 0), (.GT_TILE_LATE, 32, 0)]⟩
  , ⟨"TC_CAPS", .tile, 0x0, 8, 1, [(.TC_CAPS_VBEATS, 0, 0), (.TC_CAPS_VREGBITS, 8, 0), (.TC_CAPS_ISAVER, 24, 0), (.TC_CAPS_IMEM_KIB, 32, 0), (.TC_CAPS_DMEM_KIB, 40, 0), (.TC_CAPS_QDEPTH_LOG2, 48, 0), (.TC_CAPS_CVU, 52, 0)]⟩
  , ⟨"TC_ID", .tile, 0x8, 8, 1, [(.TC_ID_PHYS, 0, 0), (.TC_ID_LOGICAL, 8, 0), (.TC_ID_NODE, 16, 0)]⟩
  , ⟨"TC_CTL", .tile, 0x10, 8, 1, [(.TC_CTL_RUN, 0, 0), (.TC_CTL_STEP, 1, 0)]⟩
  , ⟨"TC_STAT", .tile, 0x18, 8, 1, [(.TC_STAT_RUNNING, 0, 0), (.TC_STAT_INEXC, 1, 0), (.TC_STAT_DFAULT, 2, 0), (.TC_STAT_SPEC, 3, 0)]⟩
  , ⟨"TC_TVEC", .tile, 0x20, 8, 1, [(.TC_TVEC_VEC, 2, 0)]⟩
  , ⟨"TC_EPC", .tile, 0x28, 8, 1, [(.TC_EPC_PC, 2, 0)]⟩
  , ⟨"TC_EXC", .tile, 0x30, 8, 1, [(.TC_EXC_CAUSE, 0, 0), (.TC_EXC_STATUS, 8, 0), (.TC_EXC_DEFERRED, 16, 0), (.TC_EXC_FPC, 18, 0)]⟩
  , ⟨"TC_EXC_ADDR", .tile, 0x38, 8, 1, [(.TC_EXC_ADDR_ADDR, 0, 0)]⟩
  , ⟨"TC_IEN", .tile, 0x40, 8, 1, [(.TC_IEN_SRC, 0, 0)]⟩
  , ⟨"TC_IPEND", .tile, 0x48, 8, 1, [(.TC_IPEND_SRC, 0, 0)]⟩
  , ⟨"TC_FCSR", .tile, 0x50, 8, 1, [(.TC_FCSR_RM, 0, 0), (.TC_FCSR_FLAGS, 2, 0), (.TC_FCSR_TRAPEN, 7, 0)]⟩
  , ⟨"TC_CYCLE", .tile, 0x58, 8, 1, [(.TC_CYCLE_COUNT, 0, 0)]⟩
  , ⟨"TC_WDOG", .tile, 0x60, 8, 1, [(.TC_WDOG_FRAMES, 0, 0), (.TC_WDOG_FIRED, 16, 0)]⟩
  , ⟨"TC_PREEMPT", .tile, 0x68, 8, 1, [(.TC_PREEMPT_REQ, 0, 0), (.TC_PREEMPT_PENDING, 1, 0), (.TC_PREEMPT_DONE, 2, 0), (.TC_PREEMPT_DEFERRED, 8, 0)]⟩
  , ⟨"TC_CTX_ADDR", .tile, 0x70, 8, 1, [(.TC_CTX_ADDR_ADDR, 12, 0)]⟩
  , ⟨"TC_QSTAT", .tile, 0x78, 8, 1, [(.TC_QSTAT_OCC, 0, 0)]⟩
  , ⟨"TC_CNT", .tile, 0x100, 8, 32, [(.TC_CNT_VALUE, 0, 0)]⟩
  , ⟨"TC_SUM0", .tile, 0x400, 32, 32, [(.TC_SUM0_STATUS, 0, 0), (.TC_SUM0_ENGINE, 8, 0), (.TC_SUM0_SPEC, 11, 0), (.TC_SUM0_TAG, 16, 0), (.TC_SUM0_GTC_LO, 32, 0)]⟩
  , ⟨"TC_SUM1", .tile, 0x408, 32, 32, [(.TC_SUM1_VAL0, 0, 0)]⟩
  ]

/-- Registers of the tile block. -/
def regs_tile2 : List RegRow :=
  [ ⟨"TC_SUM2", .tile, 0x410, 32, 32, [(.TC_SUM2_VAL1, 0, 0)]⟩
  , ⟨"TC_SUM3", .tile, 0x418, 32, 32, [(.TC_SUM3_CYCLES, 0, 0)]⟩
  , ⟨"MX_CAPS", .tile, 0x1000, 8, 1, [(.MX_CAPS_ROWS, 0, 0), (.MX_CAPS_COLS, 8, 0), (.MX_CAPS_PHYS_SPARE, 20, 0), (.MX_CAPS_SPARE_USED, 24, 0), (.MX_CAPS_INT4X2, 27, 0), (.MX_CAPS_SLICED, 28, 0)]⟩
  , ⟨"MX_STAT", .tile, 0x1008, 8, 1, [(.MX_STAT_BUSY, 0, 0), (.MX_STAT_PIECE_WAIT, 1, 0), (.MX_STAT_SPEC_HOLD, 2, 0), (.MX_STAT_BANK_HELD, 3, 0), (.MX_STAT_BANK_SPEC, 5, 0), (.MX_STAT_LAST_STATUS, 8, 0), (.MX_STAT_LAST_TAG, 16, 0)]⟩
  , ⟨"MX_BUSY_CYC", .tile, 0x1010, 8, 1, [(.MX_BUSY_CYC_COUNT, 0, 0)]⟩
  , ⟨"MX_MAC_CNT", .tile, 0x1018, 8, 1, [(.MX_MAC_CNT_COUNT, 0, 0)]⟩
  , ⟨"MX_STALL", .tile, 0x1020, 8, 1, [(.MX_STALL_PIECE, 0, 0), (.MX_STALL_SPEC, 32, 0)]⟩
  , ⟨"MX_STALL_BANK", .tile, 0x1028, 8, 1, [(.MX_STALL_BANK_BANK, 0, 0)]⟩
  , ⟨"MX_SPARE_MAP", .tile, 0x1030, 8, 1, [(.MX_SPARE_MAP_PCOL, 0, 0), (.MX_SPARE_MAP_PCOL, 16, 1), (.MX_SPARE_MAP_PCOL, 32, 2), (.MX_SPARE_MAP_PCOL, 48, 3), (.MX_SPARE_MAP_VALID, 15, 0), (.MX_SPARE_MAP_VALID, 31, 1), (.MX_SPARE_MAP_VALID, 47, 2), (.MX_SPARE_MAP_VALID, 63, 3)]⟩
  , ⟨"MX_BIST", .tile, 0x1038, 8, 1, [(.MX_BIST_START, 0, 0), (.MX_BIST_RUNNING, 1, 0), (.MX_BIST_DONE, 2, 0), (.MX_BIST_FAIL, 3, 0), (.MX_BIST_FAIL_COL, 8, 0)]⟩
  , ⟨"MX_ACC_ERR", .tile, 0x1040, 8, 1, [(.MX_ACC_ERR_CORR, 0, 0), (.MX_ACC_ERR_UNCORR, 16, 0)]⟩
  , ⟨"SL_CAPS", .tile, 0x1100, 8, 1, [(.SL_CAPS_MAX_S, 0, 0), (.SL_CAPS_FFMT_MASK, 16, 0), (.SL_CAPS_STRICT, 24, 0), (.SL_CAPS_RS_KIB, 32, 0)]⟩
  , ⟨"SL_STAT", .tile, 0x1108, 8, 1, [(.SL_STAT_PHASE, 0, 0), (.SL_STAT_LAST_SA, 8, 0), (.SL_STAT_LAST_SB, 17, 0), (.SL_STAT_LAST_W64, 26, 0), (.SL_STAT_LAST_MS, 33, 0), (.SL_STAT_LAST_PAIRS, 43, 0)]⟩
  , ⟨"SL_PASSES", .tile, 0x1110, 8, 1, [(.SL_PASSES_COUNT, 0, 0)]⟩
  , ⟨"SL_PREP_CYC", .tile, 0x1118, 8, 1, [(.SL_PREP_CYC_COUNT, 0, 0)]⟩
  , ⟨"SL_MODE_CNT", .tile, 0x1120, 8, 1, [(.SL_MODE_CNT_FAST, 0, 0), (.SL_MODE_CNT_STRICT, 32, 0)]⟩
  , ⟨"SL_EXC_CNT", .tile, 0x1128, 8, 1, [(.SL_EXC_CNT_NONFIN_OUT, 0, 0), (.SL_EXC_CNT_LIMIT, 32, 0)]⟩
  , ⟨"SL_RS_ERR", .tile, 0x1130, 8, 1, [(.SL_RS_ERR_CORR, 0, 0), (.SL_RS_ERR_UNCORR, 16, 0)]⟩
  , ⟨"SL_DMAX", .tile, 0x1138, 8, 1, [(.SL_DMAX_DMAX, 0, 0)]⟩
  , ⟨"VX_CAPS", .tile, 0x1200, 8, 1, [(.VX_CAPS_BEATS, 0, 0), (.VX_CAPS_SLICES, 4, 0), (.VX_CAPS_REGS, 8, 0), (.VX_CAPS_TREGS, 16, 0), (.VX_CAPS_LACC, 20, 0), (.VX_CAPS_REGBITS, 24, 0)]⟩
  ]

/-- Registers of the tile block. -/
def regs_tile3 : List RegRow :=
  [ ⟨"VX_CTL", .tile, 0x1208, 8, 1, [(.VX_CTL_EN, 0, 0), (.VX_CTL_SAT8, 1, 0)]⟩
  , ⟨"VX_STAT", .tile, 0x1210, 8, 1, [(.VX_STAT_FSTATE, 0, 0), (.VX_STAT_PEND_EN, 2, 0), (.VX_STAT_PEND_DIS, 3, 0), (.VX_STAT_BUSY, 4, 0), (.VX_STAT_SPEC_HOLD, 5, 0), (.VX_STAT_LENT, 6, 0), (.VX_STAT_VL_CLIP, 7, 0), (.VX_STAT_IDX_OOR, 8, 0), (.VX_STAT_POISON, 9, 0), (.VX_STAT_QOCC, 10, 0)]⟩
  , ⟨"VX_VTYPE", .tile, 0x1218, 8, 1, [(.VX_VTYPE_VL, 0, 0), (.VX_VTYPE_SEW, 12, 0)]⟩
  , ⟨"VX_FCSR", .tile, 0x1220, 8, 1, [(.VX_FCSR_RM, 0, 0), (.VX_FCSR_FLAGS, 2, 0)]⟩
  , ⟨"VX_RNSEL", .tile, 0x1228, 8, 1, [(.VX_RNSEL_STREAM, 0, 0)]⟩
  , ⟨"VX_BUSY_CYC", .tile, 0x1230, 8, 1, [(.VX_BUSY_CYC_COUNT, 0, 0)]⟩
  , ⟨"VX_STALL", .tile, 0x1238, 8, 1, [(.VX_STALL_SPEC, 0, 0), (.VX_STALL_DEP, 32, 0)]⟩
  , ⟨"VX_ERR", .tile, 0x1240, 8, 1, [(.VX_ERR_CORR, 0, 0), (.VX_ERR_UNCORR, 16, 0), (.VX_ERR_IDX_SKIP, 32, 0), (.VX_ERR_OFF_DISCARD, 48, 0)]⟩
  , ⟨"SV_CAPS", .tile, 0x1300, 8, 1, [(.SV_CAPS_HANDLES, 0, 0), (.SV_CAPS_METHODS, 8, 0), (.SV_CAPS_LDLT, 11, 0), (.SV_CAPS_PRECONDS, 12, 0), (.SV_CAPS_MAX_N, 20, 0)]⟩
  , ⟨"SV_CTL", .tile, 0x1308, 8, 1, [(.SV_CTL_EN, 0, 0)]⟩
  , ⟨"SV_STAT", .tile, 0x1310, 8, 1, [(.SV_STAT_FSTATE, 0, 0), (.SV_STAT_PEND_EN, 2, 0), (.SV_STAT_PEND_DIS, 3, 0), (.SV_STAT_BUSY, 4, 0), (.SV_STAT_LEND_WAIT, 5, 0), (.SV_STAT_SPEC_HOLD, 6, 0), (.SV_STAT_PHASE, 8, 0), (.SV_STAT_LAST_STATUS, 16, 0), (.SV_STAT_LAST_TAG, 24, 0)]⟩
  , ⟨"SV_PIV_THRESH", .tile, 0x1318, 8, 1, [(.SV_PIV_THRESH_TAU, 0, 0)]⟩
  , ⟨"SV_PIV_CNT", .tile, 0x1320, 8, 1, [(.SV_PIV_CNT_COUNT, 0, 0)]⟩
  , ⟨"SV_DL_CNT", .tile, 0x1328, 8, 1, [(.SV_DL_CNT_ITERATE, 0, 0), (.SV_DL_CNT_FACTOR, 32, 0)]⟩
  , ⟨"SV_BUSY_CYC", .tile, 0x1330, 8, 1, [(.SV_BUSY_CYC_COUNT, 0, 0)]⟩
  , ⟨"SV_ERR", .tile, 0x1338, 8, 1, [(.SV_ERR_CORR, 0, 0), (.SV_ERR_UNCORR, 16, 0), (.SV_ERR_OVF, 32, 0)]⟩
  , ⟨"SV_HSTAT", .tile, 0x1340, 8, 4, [(.SV_HSTAT_VALID, 0, 0), (.SV_HSTAT_KIND, 1, 0), (.SV_HSTAT_FACT, 2, 0), (.SV_HSTAT_VPOIS, 4, 0), (.SV_HSTAT_N, 8, 0), (.SV_HSTAT_NONF, 32, 0)]⟩
  , ⟨"SV_HBASE", .tile, 0x1360, 8, 4, [(.SV_HBASE_BASE, 0, 0)]⟩
  , ⟨"FS_CAPS", .tile, 0x1400, 8, 1, [(.FS_CAPS_MAX_UNITS, 0, 0), (.FS_CAPS_TOL, 8, 0)]⟩
  , ⟨"FS_CTL", .tile, 0x1408, 8, 1, [(.FS_CTL_EN, 0, 0), (.FS_CTL_FORCE_SQUASH, 1, 0)]⟩
  ]

/-- Registers of the tile block. -/
def regs_tile4 : List RegRow :=
  [ ⟨"FS_STAT", .tile, 0x1410, 8, 1, [(.FS_STAT_FSTATE, 0, 0), (.FS_STAT_PEND_EN, 2, 0), (.FS_STAT_PEND_DIS, 3, 0), (.FS_STAT_WIN, 4, 0), (.FS_STAT_CFG_IGN, 6, 0), (.FS_STAT_LAST_STATUS, 8, 0), (.FS_STAT_LAST_TAG, 16, 0)]⟩
  , ⟨"FS_CALDERA", .tile, 0x1418, 8, 1, [(.FS_CALDERA_BASE, 0, 0), (.FS_CALDERA_SIZE, 8, 0)]⟩
  , ⟨"FS_RES", .tile, 0x1420, 8, 1, [(.FS_RES_CONFIRM, 0, 0), (.FS_RES_SQUASH, 32, 0)]⟩
  , ⟨"FS_MISMATCH", .tile, 0x1428, 8, 1, [(.FS_MISMATCH_OFFSET, 0, 0), (.FS_MISMATCH_COUNT, 32, 0)]⟩
  , ⟨"FS_FENCE", .tile, 0x1430, 8, 1, [(.FS_FENCE_REFUSED, 0, 0), (.FS_FENCE_WRITTEN, 32, 0)]⟩
  , ⟨"RN_CAPS", .tile, 0x1500, 8, 1, [(.RN_CAPS_SLOTS, 0, 0), (.RN_CAPS_LANES, 4, 0), (.RN_CAPS_LAG_LONG, 12, 0), (.RN_CAPS_LAG_SHORT, 22, 0)]⟩
  , ⟨"RN_STAT", .tile, 0x1508, 8, 1, [(.RN_STAT_BOUND, 0, 0), (.RN_STAT_BUSY, 4, 0), (.RN_STAT_OWNER_ERR, 8, 0), (.RN_STAT_UNBOUND_ERR, 9, 0), (.RN_STAT_FILL_REF, 10, 0)]⟩
  , ⟨"RN_SLOT_ADDR", .tile, 0x1510, 32, 4, [(.RN_SLOT_ADDR_ADDR, 0, 0)]⟩
  , ⟨"RN_SLOT_CTL", .tile, 0x1518, 32, 4, [(.RN_SLOT_CTL_CMD, 0, 0), (.RN_SLOT_CTL_OWNER, 2, 0), (.RN_SLOT_CTL_CNT, 3, 0), (.RN_SLOT_CTL_STATUS, 8, 0), (.RN_SLOT_CTL_STATE, 16, 0), (.RN_SLOT_CTL_POISON, 18, 0)]⟩
  , ⟨"RN_SLOT_POS", .tile, 0x1520, 32, 4, [(.RN_SLOT_POS_POS, 0, 0)]⟩
  , ⟨"RN_SLOT_KEY", .tile, 0x1528, 32, 4, [(.RN_SLOT_KEY_KEY, 0, 0), (.RN_SLOT_KEY_MODE, 32, 0), (.RN_SLOT_KEY_JOB, 33, 0)]⟩
  , ⟨"RN_FILL_ADDR", .tile, 0x1590, 8, 1, [(.RN_FILL_ADDR_ADDR, 0, 0)]⟩
  , ⟨"RN_FILL_CTL", .tile, 0x1598, 8, 1, [(.RN_FILL_CTL_COUNT, 0, 0), (.RN_FILL_CTL_SLOT, 22, 0), (.RN_FILL_CTL_CNT, 24, 0), (.RN_FILL_CTL_START, 29, 0), (.RN_FILL_CTL_BUSY, 30, 0)]⟩
  , ⟨"RN_DRAWS", .tile, 0x15A0, 8, 1, [(.RN_DRAWS_COUNT, 0, 0)]⟩
  , ⟨"RN_ERR", .tile, 0x15A8, 8, 1, [(.RN_ERR_OWNER, 0, 0), (.RN_ERR_UNBOUND, 16, 0), (.RN_ERR_CORR, 32, 0), (.RN_ERR_UNCORR, 48, 0)]⟩
  , ⟨"DM_CAPS", .tile, 0x1600, 8, 1, [(.DM_CAPS_BUF_KIB, 0, 0), (.DM_CAPS_POOL_GRAN, 16, 0), (.DM_CAPS_SHA3, 24, 0), (.DM_CAPS_CRC32C, 25, 0)]⟩
  , ⟨"DM_CTL", .tile, 0x1608, 8, 1, [(.DM_CTL_EN, 0, 0)]⟩
  , ⟨"DM_STAT", .tile, 0x1610, 8, 1, [(.DM_STAT_FSTATE, 0, 0), (.DM_STAT_PEND_EN, 2, 0), (.DM_STAT_PEND_DIS, 3, 0), (.DM_STAT_BUSY, 4, 0), (.DM_STAT_CHAIN_OPEN, 5, 0), (.DM_STAT_SPEC_HOLD, 6, 0), (.DM_STAT_LAST_STATUS, 8, 0), (.DM_STAT_LAST_TAG, 16, 0)]⟩
  , ⟨"DM_REC_ADDR", .tile, 0x1618, 8, 1, [(.DM_REC_ADDR_ADDR, 0, 0)]⟩
  , ⟨"DM_REC_CTL", .tile, 0x1620, 8, 1, [(.DM_REC_CTL_EN, 0, 0), (.DM_REC_CTL_MASK, 1, 0), (.DM_REC_CTL_FULL, 8, 0), (.DM_REC_CTL_LIMIT, 16, 0), (.DM_REC_CTL_COUNT, 32, 0)]⟩
  ]

/-- Registers of the tile block. -/
def regs_tile5 : List RegRow :=
  [ ⟨"DM_BYTES", .tile, 0x1628, 8, 1, [(.DM_BYTES_COUNT, 0, 0)]⟩
  , ⟨"DM_POOL_WAIT", .tile, 0x1630, 8, 1, [(.DM_POOL_WAIT_DMA, 0, 0), (.DM_POOL_WAIT_CORE, 32, 0)]⟩
  , ⟨"DM_ERR", .tile, 0x1638, 8, 1, [(.DM_ERR_FAILED, 0, 0), (.DM_ERR_POISONED, 16, 0), (.DM_ERR_REFUSED, 32, 0)]⟩
  , ⟨"CE_CAPS", .tile, 0x1700, 8, 1, [(.CE_CAPS_COMMS, 0, 0), (.CE_CAPS_LEVELS, 9, 0), (.CE_CAPS_TREE, 11, 0), (.CE_CAPS_TRIG, 12, 0), (.CE_CAPS_ADD_BPC, 16, 0)]⟩
  , ⟨"CE_CTL", .tile, 0x1708, 8, 1, [(.CE_CTL_EN, 0, 0), (.CE_CTL_ABORT, 1, 0)]⟩
  , ⟨"CE_STAT", .tile, 0x1710, 8, 1, [(.CE_STAT_FSTATE, 0, 0), (.CE_STAT_PEND_EN, 2, 0), (.CE_STAT_PEND_DIS, 3, 0), (.CE_STAT_BUSY, 4, 0), (.CE_STAT_SPEC_HOLD, 5, 0), (.CE_STAT_STALE_HOLD, 6, 0), (.CE_STAT_LAST_STATUS, 8, 0), (.CE_STAT_LAST_TAG, 16, 0), (.CE_STAT_CUR_COMM, 32, 0), (.CE_STAT_CUR_SEQ, 40, 0)]⟩
  , ⟨"CE_TIMEOUT", .tile, 0x1718, 8, 1, [(.CE_TIMEOUT_FRAMES, 0, 0)]⟩
  , ⟨"CE_EPOCH", .tile, 0x1720, 8, 1, [(.CE_EPOCH_EPOCH, 0, 0)]⟩
  , ⟨"CE_STALL", .tile, 0x1728, 8, 1, [(.CE_STALL_L0, 0, 0), (.CE_STALL_L1, 21, 0), (.CE_STALL_L2, 42, 0)]⟩
  , ⟨"CE_CNT", .tile, 0x1730, 8, 1, [(.CE_CNT_DONE, 0, 0), (.CE_CNT_ABORTS, 32, 0), (.CE_CNT_LATE, 48, 0)]⟩
  , ⟨"CE_ABORT", .tile, 0x1738, 8, 1, [(.CE_ABORT_REASON, 0, 0), (.CE_ABORT_COMM, 8, 0), (.CE_ABORT_SEQ, 16, 0), (.CE_ABORT_MEMBER, 32, 0)]⟩
  , ⟨"MB_T2F_CTL", .tile, 0x1800, 8, 1, [(.MB_T2F_CTL_OWN, 0, 0), (.MB_T2F_CTL_KIND, 8, 0), (.MB_T2F_CTL_LEN, 16, 0), (.MB_T2F_CTL_SEQ, 24, 0), (.MB_T2F_CTL_STATUS, 32, 0)]⟩
  , ⟨"MB_F2T_CTL", .tile, 0x1900, 8, 1, [(.MB_F2T_CTL_OWN, 0, 0), (.MB_F2T_CTL_KIND, 8, 0), (.MB_F2T_CTL_LEN, 16, 0), (.MB_F2T_CTL_SEQ, 24, 0), (.MB_F2T_CTL_STATUS, 32, 0)]⟩
  , ⟨"MB_T2F_DATA", .tile, 0x1808, 8, 31, [(.MB_T2F_DATA_DATA, 0, 0)]⟩
  , ⟨"MB_F2T_DATA", .tile, 0x1908, 8, 31, [(.MB_F2T_DATA_DATA, 0, 0)]⟩
  , ⟨"CV_CAPS", .tile, 0x1A00, 8, 1, [(.CV_CAPS_UNITS, 0, 0), (.CV_CAPS_POINTS, 4, 0)]⟩
  , ⟨"CV_CTL", .tile, 0x1A08, 8, 1, [(.CV_CTL_EN0, 0, 0), (.CV_CTL_EN1, 1, 0), (.CV_CTL_DISARM0, 2, 0), (.CV_CTL_DISARM1, 3, 0)]⟩
  , ⟨"CV_STAT", .tile, 0x1A10, 32, 2, [(.CV_STAT_FSTATE, 0, 0), (.CV_STAT_PEND_EN, 2, 0), (.CV_STAT_PEND_DIS, 3, 0), (.CV_STAT_ARMED, 4, 0), (.CV_STAT_SPEC_HOLD, 5, 0), (.CV_STAT_LAST_STATUS, 8, 0), (.CV_STAT_LAST_TAG, 16, 0), (.CV_STAT_RECORD, 32, 0)]⟩
  , ⟨"CV_ALIVE", .tile, 0x1A18, 32, 2, [(.CV_ALIVE_LAST, 0, 0)]⟩
  , ⟨"CV_CNT", .tile, 0x1A20, 32, 2, [(.CV_CNT_RECORDS, 0, 0), (.CV_CNT_MISMATCH, 32, 0), (.CV_CNT_POISON, 48, 0)]⟩
  ]

/-- Registers of the ls block. -/
def regs_ls : List RegRow :=
  [ ⟨"LS_CAPS", .ls, 0x0, 8, 1, [(.LS_CAPS_CHANNELS, 0, 0), (.LS_CAPS_BANKS, 8, 0), (.LS_CAPS_ROWS, 16, 0), (.LS_CAPS_CAP_GIB, 32, 0), (.LS_CAPS_LINES, 40, 0)]⟩
  , ⟨"LS_CTL", .ls, 0x8, 8, 1, [(.LS_CTL_TRIP, 0, 0), (.LS_CTL_HYST, 8, 0), (.LS_CTL_THROT_IRQ, 12, 0)]⟩
  , ⟨"LS_STAT", .ls, 0x10, 8, 1, [(.LS_STAT_FSTATE, 0, 0), (.LS_STAT_PEND_EN, 2, 0), (.LS_STAT_PEND_DIS, 3, 0), (.LS_STAT_BAND, 4, 0), (.LS_STAT_PBAND, 6, 0), (.LS_STAT_SELFREF, 8, 0), (.LS_STAT_THROTTLE, 9, 0), (.LS_STAT_TRIPPED, 10, 0), (.LS_STAT_TRAIN_FAIL, 11, 0), (.LS_STAT_LINES_MASKED, 12, 0), (.LS_STAT_INIT_DONE, 19, 0), (.LS_STAT_REPAIR, 20, 0)]⟩
  , ⟨"LS_TEMP", .ls, 0x18, 8, 1, [(.LS_TEMP_CUR, 0, 0), (.LS_TEMP_MAX, 16, 0)]⟩
  , ⟨"LS_REF", .ls, 0x20, 8, 1, [(.LS_REF_WINDOWS, 0, 0), (.LS_REF_TREFI, 32, 0)]⟩
  , ⟨"LS_TRAFFIC", .ls, 0x28, 8, 1, [(.LS_TRAFFIC_BURSTS, 0, 0)]⟩
  , ⟨"LS_NARROW", .ls, 0x30, 8, 1, [(.LS_NARROW_SECTORS, 0, 0), (.LS_NARROW_RMW, 32, 0)]⟩
  , ⟨"LS_CHFAIL0", .ls, 0x38, 8, 1, [(.LS_CHFAIL0_CH, 0, 0)]⟩
  , ⟨"LS_CHFAIL1", .ls, 0x40, 8, 1, [(.LS_CHFAIL1_CH, 0, 0)]⟩
  ]

/-- Registers of the ec block. -/
def regs_ec : List RegRow :=
  [ ⟨"EC_CAPS", .ec, 0x0, 8, 1, [(.EC_CAPS_STK_SPARE_ROWS, 0, 0), (.EC_CAPS_PPR_ROWS, 4, 0), (.EC_CAPS_SPARE_COLGRP, 6, 0), (.EC_CAPS_TS_SPARE_ROWS, 8, 0), (.EC_CAPS_BUCKETS, 16, 0)]⟩
  , ⟨"EC_BKT_CFG", .ec, 0x8, 8, 2, [(.EC_BKT_CFG_DEPTH, 0, 0), (.EC_BKT_CFG_LEAK, 16, 0), (.EC_BKT_CFG_CLR, 32, 0), (.EC_BKT_CFG_IRQ_EN, 33, 0)]⟩
  , ⟨"EC_BKT_OVF", .ec, 0x18, 8, 1, [(.EC_BKT_OVF_BKT, 0, 0)]⟩
  , ⟨"EC_LAST_CE", .ec, 0x20, 8, 1, [(.EC_LAST_CE_ADDR, 0, 0), (.EC_LAST_CE_BKT, 48, 0), (.EC_LAST_CE_POS, 54, 0)]⟩
  , ⟨"EC_LAST_UE", .ec, 0x28, 8, 1, [(.EC_LAST_UE_ADDR, 0, 0), (.EC_LAST_UE_BKT, 48, 0), (.EC_LAST_UE_MARK, 54, 0)]⟩
  , ⟨"EC_SCRUB_CTL", .ec, 0x30, 8, 1, [(.EC_SCRUB_CTL_EN, 0, 0), (.EC_SCRUB_CTL_FSTATE, 1, 0), (.EC_SCRUB_CTL_PEND_EN, 3, 0), (.EC_SCRUB_CTL_PEND_DIS, 4, 0)]⟩
  , ⟨"EC_SCRUB_PERIOD", .ec, 0x38, 8, 1, [(.EC_SCRUB_PERIOD_CYCLES, 0, 0)]⟩
  , ⟨"EC_SCRUB_STAT", .ec, 0x40, 8, 1, [(.EC_SCRUB_STAT_POS, 0, 0), (.EC_SCRUB_STAT_PASSES, 24, 0), (.EC_SCRUB_STAT_LAG, 48, 0)]⟩
  , ⟨"EC_PPR", .ec, 0x48, 8, 1, [(.EC_PPR_STACK, 0, 0), (.EC_PPR_CH, 5, 0), (.EC_PPR_BANK, 12, 0), (.EC_PPR_ROW, 16, 0), (.EC_PPR_START, 31, 0), (.EC_PPR_BUSY, 32, 0), (.EC_PPR_LEFT, 33, 0), (.EC_PPR_STATUS, 40, 0)]⟩
  , ⟨"EC_TS_REPAIR", .ec, 0x50, 8, 1, [(.EC_TS_REPAIR_TILE, 0, 0), (.EC_TS_REPAIR_BANK, 6, 0), (.EC_TS_REPAIR_ROW, 10, 0), (.EC_TS_REPAIR_START, 21, 0), (.EC_TS_REPAIR_BUSY, 22, 0), (.EC_TS_REPAIR_STATUS, 24, 0)]⟩
  , ⟨"EC_TEST_CTL", .ec, 0x58, 8, 1, [(.EC_TEST_CTL_TARGET, 0, 0), (.EC_TEST_CTL_CMD, 8, 0), (.EC_TEST_CTL_BUSY, 10, 0), (.EC_TEST_CTL_POISON, 11, 0), (.EC_TEST_CTL_STATUS, 12, 0)]⟩
  , ⟨"EC_TEST_ADDR", .ec, 0x60, 8, 1, [(.EC_TEST_ADDR_ADDR, 0, 0)]⟩
  , ⟨"EC_TEST_CHK0", .ec, 0x68, 8, 1, [(.EC_TEST_CHK0_CHK, 0, 0)]⟩
  , ⟨"EC_TEST_CHK1", .ec, 0x70, 8, 1, [(.EC_TEST_CHK1_CHK, 0, 0)]⟩
  , ⟨"EC_BKT", .ec, 0x100, 8, 60, [(.EC_BKT_LEVEL, 0, 0), (.EC_BKT_CORR, 16, 0), (.EC_BKT_UNCORR, 40, 0)]⟩
  , ⟨"EC_TEST_DATA", .ec, 0x300, 8, 16, [(.EC_TEST_DATA_DATA, 0, 0)]⟩
  ]

/-- Registers of the link block. -/
def regs_link : List RegRow :=
  [ ⟨"FL_CTL", .link, 0x0, 8, 1, [(.FL_CTL_RESTART, 0, 0), (.FL_CTL_PEER_CHK, 1, 0), (.FL_CTL_IRQ_EN, 2, 0), (.FL_CTL_MAX_W, 4, 0), (.FL_CTL_LANE_MASK, 8, 0)]⟩
  , ⟨"FL_STAT", .link, 0x8, 8, 1, [(.FL_STAT_STATE, 0, 0), (.FL_STAT_WIDTH, 4, 0), (.FL_STAT_PROBATION, 7, 0), (.FL_STAT_CAUSE, 8, 0), (.FL_STAT_CHG, 12, 0), (.FL_STAT_TRAINS, 16, 0)]⟩
  , ⟨"FL_LANE", .link, 0x10, 8, 1, [(.FL_LANE_USED, 0, 0), (.FL_LANE_USED, 8, 1), (.FL_LANE_USED, 16, 2), (.FL_LANE_USED, 24, 3), (.FL_LANE_RX_POL_INV, 1, 0), (.FL_LANE_RX_POL_INV, 9, 1), (.FL_LANE_RX_POL_INV, 17, 2), (.FL_LANE_RX_POL_INV, 25, 3), (.FL_LANE_OPEN, 2, 0), (.FL_LANE_OPEN, 10, 1), (.FL_LANE_OPEN, 18, 2), (.FL_LANE_OPEN, 26, 3), (.FL_LANE_SHORT, 3, 0), (.FL_LANE_SHORT, 11, 1), (.FL_LANE_SHORT, 19, 2), (.FL_LANE_SHORT, 27, 3), (.FL_LANE_DRIVER, 4, 0), (.FL_LANE_DRIVER, 12, 1), (.FL_LANE_DRIVER, 20, 2), (.FL_LANE_DRIVER, 28, 3), (.FL_LANE_LOCK_LOST, 5, 0), (.FL_LANE_LOCK_LOST, 13, 1), (.FL_LANE_LOCK_LOST, 21, 2), (.FL_LANE_LOCK_LOST, 29, 3), (.FL_LANE_LOGICAL, 6, 0), (.FL_LANE_LOGICAL, 14, 1), (.FL_LANE_LOGICAL, 22, 2), (.FL_LANE_LOGICAL, 30, 3)]⟩
  , ⟨"FL_PEER", .link, 0x18, 8, 1, [(.FL_PEER_NODE, 0, 0), (.FL_PEER_FDIE, 16, 0), (.FL_PEER_PORT, 18, 0), (.FL_PEER_VALID, 22, 0), (.FL_PEER_EXP_NODE, 24, 0), (.FL_PEER_EXP_FDIE, 40, 0), (.FL_PEER_EXP_PORT, 42, 0)]⟩
  , ⟨"FL_LAT", .link, 0x20, 8, 1, [(.FL_LAT_FLIGHT, 0, 0), (.FL_LAT_CLASS, 8, 0), (.FL_LAT_RT, 10, 0)]⟩
  , ⟨"FL_FEC_CORR", .link, 0x28, 8, 1, [(.FL_FEC_CORR_BITS, 0, 0)]⟩
  , ⟨"FL_FEC_UNCORR", .link, 0x30, 8, 1, [(.FL_FEC_UNCORR_CW, 0, 0), (.FL_FEC_UNCORR_CRC, 32, 0)]⟩
  , ⟨"FL_RETRY", .link, 0x38, 8, 1, [(.FL_RETRY_EVENTS, 0, 0), (.FL_RETRY_LAST_FRAME, 32, 0)]⟩
  , ⟨"FL_QUAL", .link, 0x40, 8, 1, [(.FL_QUAL_WORST, 0, 0), (.FL_QUAL_WORST_LANE, 32, 0), (.FL_QUAL_PASS, 34, 0), (.FL_QUAL_POSTFEC_FAIL, 35, 0), (.FL_QUAL_WIDTH, 36, 0)]⟩
  , ⟨"FL_BLOCKS", .link, 0x48, 8, 1, [(.FL_BLOCKS_PAYLOAD, 0, 0)]⟩
  ]

/-- Registers of the fdie block. -/
def regs_fdie : List RegRow :=
  [ ⟨"FL_CAPS", .fdie, 0x4000, 8, 1, [(.FL_CAPS_LINKS, 0, 0), (.FL_CAPS_LANES, 8, 0), (.FL_CAPS_REPLAY, 12, 0), (.FL_CAPS_INGRESS_KIB, 24, 0)]⟩
  , ⟨"FL_UP", .fdie, 0x4008, 8, 1, [(.FL_UP_ACTIVE, 0, 0), (.FL_UP_HELD, 16, 0)]⟩
  , ⟨"NI_CAPS", .fdie, 0x20000, 8, 1, [(.NI_CAPS_RT_LOG2, 0, 0), (.NI_CAPS_CAND, 5, 0), (.NI_CAPS_REPL, 8, 0), (.NI_CAPS_MAP, 16, 0), (.NI_CAPS_TRACKER, 24, 0)]⟩
  , ⟨"NI_CTL", .fdie, 0x20008, 8, 1, [(.NI_CTL_NODE, 0, 0), (.NI_CTL_STALE_LOG2, 16, 0)]⟩
  , ⟨"NI_STAT", .fdie, 0x20010, 8, 1, [(.NI_STAT_RT_BUSY, 0, 0), (.NI_STAT_RECON_PEND, 1, 0), (.NI_STAT_HELD, 2, 0), (.NI_STAT_REPL_REF, 3, 0)]⟩
  , ⟨"NI_RT_IDX", .fdie, 0x20018, 8, 1, [(.NI_RT_IDX_INDEX, 0, 0), (.NI_RT_IDX_WRITE, 16, 0), (.NI_RT_IDX_READ, 17, 0)]⟩
  , ⟨"NI_RT_DATA", .fdie, 0x20020, 8, 1, [(.NI_RT_DATA_ENTRY, 0, 0)]⟩
  , ⟨"NI_RESET", .fdie, 0x20028, 8, 1, [(.NI_RESET_TILES, 0, 0)]⟩
  , ⟨"NI_ERR", .fdie, 0x20030, 8, 1, [(.NI_ERR_STALE, 0, 0), (.NI_ERR_TTL, 16, 0), (.NI_ERR_NO_ROUTE, 32, 0), (.NI_ERR_REFUSED, 48, 0)]⟩
  , ⟨"NI_RECON", .fdie, 0x20038, 8, 1, [(.NI_RECON_COUNT, 0, 0), (.NI_RECON_UNREACH, 16, 0), (.NI_RECON_RESENT, 32, 0)]⟩
  , ⟨"NI_LATE", .fdie, 0x20040, 8, 1, [(.NI_LATE_COUNT, 0, 0)]⟩
  , ⟨"NI_RECON_SEQ", .fdie, 0x20080, 8, 16, [(.NI_RECON_SEQ_SEQ, 0, 0), (.NI_RECON_SEQ_VALID, 16, 0)]⟩
  , ⟨"NI_MAP", .fdie, 0x20200, 8, 64, [(.NI_MAP_PHYS, 0, 0), (.NI_MAP_VALID, 6, 0)]⟩
  , ⟨"NI_REPL_HOME", .fdie, 0x20400, 32, 64, [(.NI_REPL_HOME_NODE, 0, 0), (.NI_REPL_HOME_BASE, 16, 0)]⟩
  , ⟨"NI_REPL_SIZE", .fdie, 0x20408, 32, 64, [(.NI_REPL_SIZE_UNITS, 0, 0), (.NI_REPL_SIZE_VALID, 16, 0), (.NI_REPL_SIZE_ACTIVE, 17, 0), (.NI_REPL_SIZE_FLIP_PEND, 18, 0)]⟩
  , ⟨"NI_REPL_BUF", .fdie, 0x20410, 32, 64, [(.NI_REPL_BUF_BUF0, 0, 0), (.NI_REPL_BUF_BUF1, 32, 0)]⟩
  , ⟨"NI_REPL_FLIP", .fdie, 0x20418, 32, 64, [(.NI_REPL_FLIP_AT, 0, 0)]⟩
  ]

/-- Registers of the trig block. -/
def regs_trig : List RegRow :=
  [ ⟨"CE_TRIG_CTL", .trig, 0x0, 8, 1, [(.CE_TRIG_CTL_OPC, 0, 0), (.CE_TRIG_CTL_COMM, 8, 0), (.CE_TRIG_CTL_DTYPE, 16, 0), (.CE_TRIG_CTL_ROP, 20, 0), (.CE_TRIG_CTL_FLAT, 22, 0), (.CE_TRIG_CTL_LVL_MASK, 23, 0), (.CE_TRIG_CTL_ALG, 26, 0), (.CE_TRIG_CTL_GO, 29, 0), (.CE_TRIG_CTL_STATE, 30, 0), (.CE_TRIG_CTL_STATUS, 32, 0), (.CE_TRIG_CTL_ROOT, 40, 0)]⟩
  , ⟨"CE_TRIG_AT", .trig, 0x8, 8, 1, [(.CE_TRIG_AT_AT, 0, 0)]⟩
  , ⟨"CE_TRIG_DATA", .trig, 0x10, 8, 8, [(.CE_TRIG_DATA_DATA, 0, 0)]⟩
  ]

/-- Registers of the mb block. -/
def regs_mb : List RegRow :=
  [ ⟨"MB_CAPS", .mb, 0x0, 8, 1, [(.MB_CAPS_HOST_MBOX, 0, 0), (.MB_CAPS_TILE_MBOX, 8, 0), (.MB_CAPS_MBOX_BYTES, 16, 0)]⟩
  , ⟨"MB_CTL", .mb, 0x8, 8, 1, [(.MB_CTL_HOST_NOTIFY, 0, 0)]⟩
  , ⟨"MB_PORT_MAP", .mb, 0x10, 8, 1, [(.MB_PORT_MAP_PORT, 0, 0)]⟩
  , ⟨"MB_STAT", .mb, 0x18, 8, 1, [(.MB_STAT_BUSY, 0, 0), (.MB_STAT_TELEM_SHIFT, 1, 0), (.MB_STAT_FW_READY, 5, 0), (.MB_STAT_IFVER_MAJOR, 8, 0), (.MB_STAT_IFVER_MINOR, 16, 0)]⟩
  , ⟨"MB_OWN", .mb, 0x20, 8, 1, [(.MB_OWN_OWN, 0, 0)]⟩
  , ⟨"MB_PEND", .mb, 0x28, 8, 1, [(.MB_PEND_PEND, 0, 0)]⟩
  , ⟨"MB_TILE_PEND", .mb, 0x30, 8, 1, [(.MB_TILE_PEND_TILES, 0, 0)]⟩
  , ⟨"MB_ACK_MAX", .mb, 0x38, 8, 1, [(.MB_ACK_MAX_CYCLES, 0, 0)]⟩
  , ⟨"MB_VIOL", .mb, 0x40, 8, 1, [(.MB_VIOL_HOST_WR, 0, 0), (.MB_VIOL_PORT, 16, 0), (.MB_VIOL_FW_WR, 32, 0)]⟩
  ]

/-- Registers of the pm block. -/
def regs_pm : List RegRow :=
  [ ⟨"PM_CAPS", .pm, 0x0, 8, 1, [(.PM_CAPS_DOMAINS, 0, 0), (.PM_CAPS_FUSE_ENTRIES, 8, 0)]⟩
  , ⟨"PM_CTL", .pm, 0x8, 8, 1, [(.PM_CTL_PKG_RESET, 0, 0), (.PM_CTL_WAKE, 1, 0), (.PM_CTL_CAP_IRQ, 2, 0), (.PM_CTL_THERM_IRQ, 3, 0)]⟩
  , ⟨"PM_STAT", .pm, 0x10, 8, 1, [(.PM_STAT_PSTATE, 0, 0), (.PM_STAT_RAILS_OK, 3, 0), (.PM_STAT_CRIT, 4, 0), (.PM_STAT_LAST_RESET, 8, 0), (.PM_STAT_BOOT_FAILS, 16, 0), (.PM_STAT_CAP_FRAMES, 32, 0)]⟩
  , ⟨"PM_READY", .pm, 0x18, 8, 1, [(.PM_READY_JOB_READY, 0, 0), (.PM_READY_FW, 1, 0), (.PM_READY_STACKS, 2, 0), (.PM_READY_TIME, 3, 0), (.PM_READY_RENNET, 4, 0), (.PM_READY_N, 6, 0), (.PM_READY_LINKS_ACTIVE, 16, 0), (.PM_READY_LINKS_HELD, 23, 0), (.PM_READY_MIN_TILES, 32, 0)]⟩
  , ⟨"PM_CAP", .pm, 0x20, 8, 1, [(.PM_CAP_WATTS, 0, 0)]⟩
  , ⟨"PM_POWER", .pm, 0x28, 8, 1, [(.PM_POWER_INST, 0, 0), (.PM_POWER_AVG, 16, 0), (.PM_POWER_PEAK, 32, 0)]⟩
  , ⟨"PM_THROT", .pm, 0x30, 8, 1, [(.PM_THROT_DUTY, 0, 0), (.PM_THROT_BY_CAP, 4, 0), (.PM_THROT_BY_DIE, 5, 0), (.PM_THROT_BY_STACK, 6, 0), (.PM_THROT_CYCLES, 32, 0)]⟩
  , ⟨"PM_TRIP", .pm, 0x38, 8, 1, [(.PM_TRIP_DIE_WARN, 0, 0), (.PM_TRIP_DIE_CRIT, 8, 0), (.PM_TRIP_HYST, 16, 0)]⟩
  , ⟨"PM_TEMP", .pm, 0x40, 8, 1, [(.PM_TEMP_DIE_MAX, 0, 0), (.PM_TEMP_HOT_DIE, 16, 0), (.PM_TEMP_PEAK, 32, 0)]⟩
  , ⟨"PM_DORM", .pm, 0x48, 8, 1, [(.PM_DORM_AQ0_ON, 0, 0), (.PM_DORM_AQ1_ON, 1, 0), (.PM_DORM_CRYPTO_ON, 2, 0), (.PM_DORM_WAKE_HOST_EN, 3, 0), (.PM_DORM_WAKE_PIN_EN, 4, 0), (.PM_DORM_WAKE_I3C_EN, 5, 0), (.PM_DORM_WAKE_ALARM_EN, 6, 0), (.PM_DORM_LAST_WAKE, 8, 0)]⟩
  , ⟨"PM_WAKE_AT", .pm, 0x50, 8, 1, [(.PM_WAKE_AT_AT, 0, 0)]⟩
  , ⟨"PM_DORM_DIGEST", .pm, 0x58, 8, 4, [(.PM_DORM_DIGEST_DIGEST, 0, 0)]⟩
  , ⟨"PM_FUSE_CTL", .pm, 0x80, 8, 1, [(.PM_FUSE_CTL_USED, 0, 0), (.PM_FUSE_CTL_PROG, 9, 0), (.PM_FUSE_CTL_BUSY, 10, 0), (.PM_FUSE_CTL_STATUS, 16, 0)]⟩
  , ⟨"PM_FUSE_DATA", .pm, 0x88, 8, 1, [(.PM_FUSE_DATA_KIND, 0, 0), (.PM_FUSE_DATA_TILE, 4, 0), (.PM_FUSE_DATA_STACK, 10, 0), (.PM_FUSE_DATA_CH, 15, 0), (.PM_FUSE_DATA_BANK, 22, 0), (.PM_FUSE_DATA_ROW, 26, 0), (.PM_FUSE_DATA_COLUMN, 41, 0)]⟩
  , ⟨"PM_DOM", .pm, 0x100, 8, 174, [(.PM_DOM_EN, 0, 0), (.PM_DOM_FSTATE, 1, 0), (.PM_DOM_PEND_EN, 3, 0), (.PM_DOM_PEND_DIS, 4, 0), (.PM_DOM_SLOT_WAIT, 5, 0)]⟩
  ]

/-- Registers of the sc block. -/
def regs_sc : List RegRow :=
  [ ⟨"SC_CAPS", .sc, 0x0, 8, 1, [(.SC_CAPS_KEY_SLOTS, 0, 0), (.SC_CAPS_MEAS_SLOTS, 4, 0), (.SC_CAPS_SVN_MAX, 8, 0)]⟩
  , ⟨"SC_LC", .sc, 0x8, 8, 1, [(.SC_LC_STATE, 0, 0), (.SC_LC_DEBUG, 2, 0), (.SC_LC_SCRAP, 3, 0), (.SC_LC_REVOKED, 4, 0), (.SC_LC_SLOT_BLANK, 8, 0), (.SC_LC_SVN_FUSED, 12, 0)]⟩
  , ⟨"SC_BOOT", .sc, 0x10, 8, 1, [(.SC_BOOT_KEY_SLOT, 0, 0), (.SC_BOOT_SVN, 2, 0), (.SC_BOOT_DEBUG_ALLOW, 9, 0), (.SC_BOOT_VERIFIED, 10, 0), (.SC_BOOT_LAST_STATUS, 11, 0)]⟩
  , ⟨"SC_EXT_CTL", .sc, 0x18, 8, 1, [(.SC_EXT_CTL_SLOT, 0, 0), (.SC_EXT_CTL_GO, 3, 0), (.SC_EXT_CTL_BUSY, 4, 0), (.SC_EXT_CTL_REFUSED, 5, 0)]⟩
  , ⟨"SC_EXT_DATA", .sc, 0x20, 8, 4, [(.SC_EXT_DATA_DATA, 0, 0)]⟩
  , ⟨"SC_OPS", .sc, 0x40, 8, 1, [(.SC_OPS_VERIFY, 0, 0), (.SC_OPS_SIGN, 16, 0), (.SC_OPS_EXTEND, 32, 0)]⟩
  , ⟨"SC_MEAS", .sc, 0x100, 8, 32, [(.SC_MEAS_VALUE, 0, 0)]⟩
  ]

/-- Registers of the bb block. -/
def regs_bb : List RegRow :=
  [ ⟨"BB_CAPS", .bb, 0x0, 8, 1, [(.BB_CAPS_RECORDS_LOG2, 0, 0), (.BB_CAPS_SEALED, 32, 0)]⟩
  , ⟨"BB_CTL", .bb, 0x8, 8, 1, [(.BB_CTL_DROP_IRQ, 0, 0)]⟩
  , ⟨"BB_STAT", .bb, 0x10, 8, 1, [(.BB_STAT_SEAL_USED, 0, 0), (.BB_STAT_WRAPPED, 13, 0), (.BB_STAT_QOCC, 14, 0), (.BB_STAT_LAST_GASP, 21, 0), (.BB_STAT_DROPPED, 32, 0)]⟩
  , ⟨"BB_HEAD", .bb, 0x18, 8, 1, [(.BB_HEAD_IDX, 0, 0)]⟩
  , ⟨"BB_SEQ", .bb, 0x20, 8, 1, [(.BB_SEQ_NEXT, 0, 0)]⟩
  , ⟨"BB_WR_CTL", .bb, 0x28, 8, 1, [(.BB_WR_CTL_KIND, 0, 0), (.BB_WR_CTL_STATUS, 16, 0), (.BB_WR_CTL_FATAL, 24, 0), (.BB_WR_CTL_REDACT, 25, 0), (.BB_WR_CTL_GO, 26, 0), (.BB_WR_CTL_BUSY, 27, 0)]⟩
  , ⟨"BB_WR_DATA", .bb, 0x30, 8, 5, [(.BB_WR_DATA_DATA, 0, 0)]⟩
  , ⟨"BB_WR_GTC", .bb, 0x58, 8, 1, [(.BB_WR_GTC_GTC, 0, 0)]⟩
  , ⟨"BB_RD_IDX", .bb, 0x60, 8, 1, [(.BB_RD_IDX_IDX, 0, 0), (.BB_RD_IDX_BUSY, 20, 0)]⟩
  , ⟨"BB_RD_DATA", .bb, 0x68, 8, 8, [(.BB_RD_DATA_DATA, 0, 0)]⟩
  ]

/-- Every register of the package. -/
def regTable : List RegRow :=
  regs_gt ++ regs_tile ++ regs_tile2 ++ regs_tile3 ++ regs_tile4 ++ regs_tile5 ++ regs_ls ++ regs_ec ++ regs_link ++ regs_fdie ++ regs_trig ++ regs_mb ++ regs_pm ++ regs_sc ++ regs_bb

/-- The register row and the entry number j that block offset `o` names, if any. -/
def findReg (b : Blk) (o : Nat) : List RegRow → Option (RegRow × Nat)
  | [] => none
  | r :: rs =>
    if r.blk = b ∧ r.off ≤ o ∧ (o - r.off) % r.stride = 0 ∧ (o - r.off) / r.stride < r.count then
      some (r, (o - r.off) / r.stride)
    else findReg b o rs

end Sys2Proof.Machine
end

