-- ==== Sys2Proof/Machine/Access.lean ====
section
/-! DEFINITION. Register access by MMIO address (R9, R10, R240, R242, Tables 10.1 and 10.2): what a read of a register returns, and
what a write does to the fields that have no step of their own. -/
namespace Sys2Proof.Machine
open Host

/-! ### Where registers lie (Table 10.2) -/

/-- The register block, its number, and the offset in it that a local address names; a tile block goes by logical tile. -/
def State.mmioAt (s : State) (a : Nat) : Option (Blk × Nat × Nat) :=
  let o := a - 0x018000000000
  if a < 0x018000000000 ∨ 0x018002000000 ≤ a then none
  else if o < 0x60000 then
    match o / 0x10000 with
    | 0 => some (.pm, 0, o % 0x10000)
    | 1 => some (.mb, 0, o % 0x10000)
    | 2 => some (.gt, 0, o % 0x10000)
    | 3 => some (.sc, 0, o % 0x10000)
    | 4 => some (.bb, 0, o % 0x10000)
    | _ => some (.ec, 0, o % 0x10000)
  else if 0x100000 ≤ o ∧ o < 0x200000 then
    let f := (o - 0x100000) / 0x40000
    let x := o % 0x40000
    if x < 0x4000 then some (.link, 16 * f + x / 0x400, x % 0x400)
    else if f = 0 ∧ 0x28000 ≤ x ∧ x < 0x28200 then some (.trig, (x - 0x28000) / 0x80, x % 0x80)
    else some (.fdie, f, x)
  else if 0x200000 ≤ o ∧ o < 0x340000 then some (.ls, (o - 0x200000) / 0x10000, o % 0x10000)
  else if 0x1000000 ≤ o ∧ o < 0x1400000 then
    (s.physOf ((o - 0x1000000) / 0x10000)).map fun t => (.tile, t, o % 0x10000)
  else none

/-- A local address lies in the communicator contexts of an NI (R360) or in a host mailbox (R427), which are held as bytes. -/
def mmioBytes (a : Nat) : Bool :=
  (List.range 4).any (fun f => decide (ctxAddr f 0 ≤ a ∧ a < ctxAddr f 256))
    || decide (mboxBase 0 ≤ a ∧ a < mboxBase 64)

/-- The instance numbers of field cell `(f, _, add)` of entry j of block number n: a triggered slot's registers go by slot. -/
def cellAt (b : Blk) (n j add count : Nat) : Nat × Nat := if b = .trig then (0, count * n + j + add) else (n, j + add)

/-! ### Reads -/

/-- The physical tiles in service (R18). -/
def State.inService (s : State) : List Nat := (List.range 64).filterMap s.physOf

/-- Every stack interface is ON and initialised, and no channel has failed (R463). -/
def State.stacksReady (s : State) : Bool :=
  stackDies.all fun c => s.domOn (80 + c) && s.rd .LS_STAT_INIT_DONE c == 1 && s.rd .LS_CHFAIL0_CH c == 0 && s.rd .LS_CHFAIL1_CH c == 0

/-- The rennet image runs on every tile in service. -/
def State.rennetRuns (s : State) : Bool := s.inService.all fun t => s.vr .RENNET_RUN t == 1

/-- PM_READY.JOB_READY (R463). -/
def State.jobReady (s : State) : Bool :=
  s.rd .MB_STAT_FW_READY == 1 && decide (s.rd .PM_READY_MIN_TILES ≤ s.inService.length) && s.stacksReady && (s.locked || s.master)
    && s.rennetRuns

/-- Some register of tile t carries a speculation mark. -/
def State.anySpec (s : State) (t : Nat) : Bool :=
  s.file.any fun e => match e.1 with
    | .var .MARK_GP i _ => i == t
    | .var .MARK_SV i _ => i == t
    | .var .MARK_VX i _ => i == t
    | _ => false

/-- A Bool as a field value. -/
def b1 (b : Bool) : Nat := if b then 1 else 0

/-- The fields that an interface in OFF still answers (R284). -/
def lsAlways (f : Fld) : Bool :=
  f == .LS_STAT_FSTATE || f == .LS_STAT_PEND_EN || f == .LS_STAT_PEND_DIS || f == .LS_STAT_SELFREF

/-- The fuse fields of SC_LC, which domain 168 supplies (R491). -/
def scFuse (f : Fld) : Bool :=
  f == .SC_LC_STATE || f == .SC_LC_DEBUG || f == .SC_LC_SCRAP || f == .SC_LC_REVOKED || f == .SC_LC_SLOT_BLANK || f == .SC_LC_SVN_FUSED

/-- What a read of a field returns: a WO field reads 0 (Table 0.1), an LS_ register of an interface in OFF and an SC_ register while
domain 170 is OFF read 0 (R284, R491), fields that show other state show it, and every other field its value. -/
def State.readFld (s : State) (f : Fld) (i j : Nat) : Nat :=
  if f.access = .wo then 0
  else if f.blk = .ls ∧ s.dom (80 + i) = 0 ∧ ¬ lsAlways f then 0
  else if f.blk = .sc ∧ s.dom 170 = 0 ∧ ¬ scFuse f then 0
  else match f with
  | .GT_TIME_VALUE => s.gtc
  | .TC_CYCLE_COUNT => (s.clock - s.vr .RUN_AT i) % 2 ^ 64
  | .TC_STAT_SPEC => b1 (s.anySpec i)
  | .VX_STAT_BUSY => b1 (!s.vxIdle i)
  | .FS_FENCE_WRITTEN => (if s.window i then s.caldWritten i % 2 ^ f.width else s.rd f i j)
  | .NI_STAT_RT_BUSY => b1 (decide (s.clock < s.vr .RT_READ_AT i))
  | .LS_STAT_FSTATE => s.dom (80 + i)
  | .LS_STAT_PEND_EN => s.rd .PM_DOM_PEND_EN 0 (80 + i)
  | .LS_STAT_PEND_DIS => s.rd .PM_DOM_PEND_DIS 0 (80 + i)
  | .LS_STAT_SELFREF => s.vr .SELF_REF i
  | .PM_READY_JOB_READY => b1 s.jobReady
  | .PM_READY_FW => s.rd .MB_STAT_FW_READY
  | .PM_READY_STACKS => b1 s.stacksReady
  | .PM_READY_TIME => b1 (s.locked || s.master)
  | .PM_READY_RENNET => b1 s.rennetRuns
  | .PM_READY_N => s.inService.length
  | .PM_THROT_CYCLES => satAdd 32 (s.rd f) (if s.vr .THROT_AT = 0 then 0 else s.clock - (s.vr .THROT_AT - 1))
  | .PM_FUSE_CTL_USED => s.fuses.entries.length
  | .SC_LC_STATE => s.fuses.lifecycle
  | .SC_LC_DEBUG => b1 s.debug
  | .SC_LC_REVOKED => s.fuses.revoked
  | .SC_LC_SLOT_BLANK => s.fuses.blank
  | .SC_LC_SVN_FUSED => s.fuses.svn
  | _ => s.rd f i j

/-- The word of a register row's entry j in block number n. -/
def State.readRow (s : State) (r : RegRow) (n j : Nat) : Nat :=
  packFields (r.cells.map fun (f, bit, add) =>
    let x := cellAt r.blk n j add r.count
    (bit, s.readFld f x.1 x.2))

/-- What an aligned 8-byte load of a local MMIO address returns; an offset that no table names reads 0 (R10, R242). -/
def State.readMmio (s : State) (a : Nat) : Nat :=
  if mmioBytes a then s.num a 8
  else match s.mmioAt a with
    | none => 0
    | some (b, n, o) => match findReg b o regTable with
      | some (r, j) => s.readRow r n j
      | none => 0

/-! ### Writes of fields with no step of their own (R9, R10) -/

/-- The fields whose writes are steps of their own: a register write leaves them to those. -/
def ownStep (f : Fld) : Bool :=
  match f with
  | .GT_CTL_MODE | .GT_CTL_SYNC_OUT_EN | .GT_CTL_OVR_IRQ | .GT_FRAME_CTL_REFUSED | .TC_CTL_RUN | .TC_CNT_VALUE | .VX_CTL_EN | .VX_VTYPE_VL
  | .VX_VTYPE_SEW | .VX_FCSR_RM | .VX_FCSR_FLAGS | .VX_RNSEL_STREAM | .SV_CTL_EN | .SV_PIV_THRESH_TAU | .FS_CTL_EN | .FS_CALDERA_BASE
  | .FS_CALDERA_SIZE | .RN_SLOT_CTL_OWNER | .RN_SLOT_CTL_CNT | .RN_FILL_CTL_COUNT | .RN_FILL_CTL_SLOT | .RN_FILL_CTL_CNT | .DM_CTL_EN
  | .DM_REC_ADDR_ADDR | .DM_REC_CTL_EN | .DM_REC_CTL_MASK | .DM_REC_CTL_FULL | .DM_REC_CTL_LIMIT | .DM_REC_CTL_COUNT | .LS_CTL_TRIP
  | .LS_CTL_HYST | .LS_CTL_THROT_IRQ | .EC_BKT_CFG_DEPTH | .EC_BKT_CFG_LEAK | .EC_BKT_CFG_IRQ_EN | .EC_SCRUB_CTL_EN
  | .EC_SCRUB_PERIOD_CYCLES | .EC_PPR_STACK | .EC_PPR_CH | .EC_PPR_BANK | .EC_PPR_ROW | .EC_TS_REPAIR_TILE | .EC_TS_REPAIR_BANK
  | .EC_TS_REPAIR_ROW | .NI_CTL_NODE | .NI_CTL_STALE_LOG2 | .NI_RT_IDX_INDEX | .NI_MAP_PHYS | .NI_MAP_VALID | .NI_REPL_FLIP_AT | .CE_CTL_EN
  | .MB_T2F_CTL_OWN | .MB_F2T_CTL_OWN | .PM_DOM_EN | .BB_RD_IDX_IDX | .CV_CTL_EN0 | .CV_CTL_EN1 => true
  | _ => false

/-- A value that a field's table takes; a write of any other leaves the field as it is (Tables 13.6, 15.11, 19.7). -/
def fieldTakes (f : Fld) (v : Nat) : Bool :=
  match f with
  | .FL_CTL_MAX_W => decide (1 ≤ v ∧ v ≤ 4)
  | .CE_TIMEOUT_FRAMES => v != 0
  | .PM_CAP_WATTS => decide (400 ≤ v ∧ v ≤ 1600)
  | .PM_TRIP_DIE_WARN => decide (85 ≤ v ∧ v ≤ 120)
  | .PM_TRIP_DIE_CRIT => decide (105 ≤ v ∧ v ≤ 125)
  | _ => true

/-- A block's registers take writes: not while the power domain that holds them is OFF (R284, R491, log entry 21). -/
def State.takesWrite (s : State) (b : Blk) (n : Nat) : Bool :=
  match b with
  | .tile => s.dom n != 0
  | .gt => s.dom 171 != 0
  | .ls => s.dom (80 + n) != 0
  | .ec => s.dom 169 != 0
  | .mb => s.dom 169 != 0
  | .sc => s.dom 170 != 0
  | .link => s.dom (164 + n / 16) != 0
  | .fdie => s.dom (164 + n) != 0
  | .trig => s.dom 164 != 0
  | .pm => s.domOn 168
  | .bb => s.domOn 168

/-- A request or its withdrawal for a context switch registers: the request's time starts when REQ goes from 0 to 1 (R81). -/
def preemptWrite (t v : Nat) : Plan := fun s =>
  if v = 1 ∧ s.rd .TC_PREEMPT_REQ t = 0 then
    [wv .PREEMPT_AT (s.gtc + 1) t, wv .PREEMPT_TICKS 0 t, wv .PREEMPT_LATE 0 t, wr .TC_PREEMPT_PENDING 1 t]
  else if v = 0 then [wv .PREEMPT_AT 0 t, wv .PREEMPT_TICKS 0 t, wv .PREEMPT_LATE 0 t, wr .TC_PREEMPT_PENDING 0 t]
  else []

/-- What a write of value `v` to a field of instance (i, j) does by its access code (Table 0.1). -/
def writeFld (f : Fld) (v i j : Nat) : Plan := fun s =>
  match f.access with
  | .ro => []
  | .wo => []
  | .w1c => [wr f (s.rd f i j &&& (2 ^ f.width - 1 - v)) i j]
  | .rw | .rws =>
    if ¬ fieldTakes f v then []
    else
      (match f with
       | .TC_PREEMPT_REQ => preemptWrite i v s
       | .PM_THROT_CYCLES => if s.vr .THROT_AT = 0 then [] else [wv .THROT_AT (s.clock + 1)]
       | _ => [])
      ++ [wr f v i j]

/-- A write of a register row's entry j in block number n: each field by its access code, reserved bits ignored (R10). -/
def writeReg (r : RegRow) (n j v : Nat) : Plan :=
  planAll (r.cells.filter fun c => !ownStep c.1) fun (f, bit, add) =>
    let x := cellAt r.blk n j add r.count
    writeFld f (bitsOf v (bit + f.width - 1) bit) x.1 x.2

/-- A tile mailbox's data words and control word take a store only from the side that holds the slot (R438): the tile holds T2F at OWN 0
and F2T at OWN 1. -/
def State.slotHeld (s : State) (t o : Nat) (core : Bool) : Bool :=
  if 0x1800 ≤ o ∧ o < 0x1900 then (s.rd .MB_T2F_CTL_OWN t == 0) == core
  else if 0x1900 ≤ o ∧ o < 0x1A00 then (s.rd .MB_F2T_CTL_OWN t == 1) == core
  else true

/-- VALID of a communicator context goes from 0 to 1: the tiles whose home is this NI begin its SEQ at 0 and forget what they recorded of
its aborts (R363, R375, R376). -/
def contextOpened (f c : Nat) : Plan := fun _ =>
  let as_ := (tiles.filter fun t => homeF t == f) ++ (if f = 0 then [40] else [])
  as_.flatMap fun a => [wv .CE_SEQ 0 a c, wv .CE_LATE 0 a c, wv .CE_REM 0 a c]

/-- Eight bytes of an NI's communicator contexts or of a host mailbox, as the firmware stores them. A mailbox that the host holds discards
the store, which is counted (R429). -/
def writeMmioBytes (a v : Nat) : Plan := fun s =>
  if mboxBase 0 ≤ a then
    if testB (s.rd .MB_OWN_OWN) ((a - mboxBase 0) / 0x1000) then putNum a 8 v else [bump s .MB_VIOL_FW_WR 1]
  else
    let f := (a - 0x018000100000) / 0x40000
    let c := (a - ctxAddr f 0) / 0x100
    if s.dom (164 + f) = 0 then []
    else plans [fun s => if a % 0x100 = 0 ∧ testB v 0 ∧ ¬ testB (s.num a 8) 0 then contextOpened f c s else [], fun _ => putNum a 8 v] s

/-- An aligned 8-byte store to an MMIO register by the firmware, or by a tile's core to its own block (`core`): the fields with no step of
their own (R9, R242). -/
def registerWrite (a v : Nat) (core : Bool) : Plan := fun s =>
  if a % 8 ≠ 0 then []
  else if mmioBytes a then (if core then [] else writeMmioBytes a v s)
  else match s.mmioAt a with
    | none => []
    | some (b, n, o) =>
      if (core ∧ b ≠ .tile) ∨ ¬ s.takesWrite b n ∨ (b = .tile ∧ ¬ s.slotHeld n o core) then []
      else match findReg b o regTable with
        | some (r, j) => writeReg r n j v s
        | none => []

/-- A register write. -/
def execRegisterWrite (addr : BitVec 48) (value : W64) (core : Bool) (s : State) : Outcome State Fault Refusal :=
  .next <| s.perform (registerWrite addr.toNat value.toNat core)

end Sys2Proof.Machine
end

