-- ==== Sys2Proof/Machine/Protect.lean ====
section
/-! DEFINITION. Stored-data protection: the scrubber's schedule, records of uncorrectable reads, leaky buckets, repairs and raw
test access (Stored-Data Protection: R293 to R310). -/
namespace Sys2Proof.Machine
open Host

/-- A job context is set up on the package. -/
def State.jobActive (s : State) : Bool := !s.parts.jobs.isEmpty

/-- A scrub read falls due every EC_SCRUB_PERIOD cycles; a third that falls due before the first of two waiting accesses is issued
counts in LAG (R297). -/
def scrubDuePlan : Plan := fun s =>
  if s.domOn 169 ∧ s.rd .EC_SCRUB_CTL_FSTATE = 2 ∧ s.vr .SCRUB_DUE_AT + s.rd .EC_SCRUB_PERIOD_CYCLES ≤ s.clock then
    [wv .SCRUB_DUE_AT (s.vr .SCRUB_DUE_AT + s.rd .EC_SCRUB_PERIOD_CYCLES), bumpV s .SCRUB_DUE 1]
    ++ (if 2 ≤ s.vr .SCRUB_DUE + s.mostWB then [bump s .EC_SCRUB_STAT_LAG 1] else [])
  else []

/-- A scrub read falls due. -/
def execScrubReadDue (s : State) : Outcome State Fault Refusal :=
  .next <| s.perform scrubDuePlan

/-- The frame that a record per frame counts in: the frame number, or without a schedule the GTC's multiple of 2^20. -/
def State.recordFrame (s : State) : Nat := if s.scheduled then s.rd .GT_FRAME_NUM_NUM else s.gtc / 2 ^ 20

/-- The firmware records a bucket's uncorrectable reads, at most once per frame; the rest are counted in the successor (R296). -/
def ueRecordPlan (b : Nat) : Plan := fun s =>
  if s.fwReady ∧ s.vr .UE_PEND 0 b ≠ 0 ∧ s.vr .UE_FRAME 0 b ≠ (s.recordFrame + 1) % 2 ^ 64 then
    plans
      [fun s => queueRind (s.rindRec s.gtc 0x0500 (Config.fwKind 3 % 256) (0x0100 + Config.fwKind 2 % 0x7F00) false false
          (Config.packData 2 [b, s.vr .UE_PEND 0 b, s.rd .EC_LAST_UE_ADDR, s.rd .EC_LAST_UE_MARK])) s,
       fun s => [wv .UE_PEND 0 0 b, wv .UE_FRAME (s.recordFrame + 1) 0 b]] s
  else []

/-- A record of uncorrectable reads. -/
def execUncorrectableRecord (bucket : Fin 60) (s : State) : Outcome State Fault Refusal :=
  .next <| s.perform (ueRecordPlan bucket)

/-- The buckets of a class. -/
def classBuckets (cls : Nat) : List Nat := (List.range 60).filter fun b => bucketClass b == cls

/-- A leak tick: every LEAK-th tick each nonzero bucket of the class loses 1. Without a schedule every multiple of 2^20 in the GTC
counts as a tick (R294). -/
def leakPlan (cls : Nat) : Plan := plans
  [fun s => if ¬ s.scheduled ∧ s.gtc % 2 ^ 20 = 0 ∧ s.vr .LEAK_AT 0 cls ≠ s.gtc + 1 then
      [bumpV s .LEAK_TICKS 1 0 cls, wv .LEAK_AT (s.gtc + 1) 0 cls] else [],
   fun s => if s.domOn 169 ∧ s.rd .EC_BKT_CFG_LEAK 0 cls ≤ s.vr .LEAK_TICKS 0 cls then
      wv .LEAK_TICKS (s.vr .LEAK_TICKS 0 cls - s.rd .EC_BKT_CFG_LEAK 0 cls) 0 cls
        :: (classBuckets cls).map fun b => wr .EC_BKT_LEVEL (s.rd .EC_BKT_LEVEL 0 b - 1) 0 b
    else []]

/-- A leak of the stack (0) or tile (1) buckets. -/
def execBucketLeak (cls : Fin 2) (s : State) : Outcome State Fault Refusal :=
  .next <| s.perform (leakPlan cls)

/-- EC_BKT_CFG.CLR sets every level of the class to 0 (Table 12.3). -/
def bucketClearPlan (cls : Nat) : Plan := fun s =>
  if s.domOn 169 then (classBuckets cls).map fun b => wr .EC_BKT_LEVEL 0 0 b else []

/-- A write of EC_BKT_CFG: a DEPTH or LEAK of 0 is ignored, and a level above a new DEPTH drops to it without an overflow (R294,
R295). -/
def bktCfgPlan (cls v : Nat) : Plan := fun s =>
  if ¬ s.domOn 169 then [] else
  let d := bitsOf v 15 0
  (if d = 0 then [] else wr .EC_BKT_CFG_DEPTH d 0 cls ::
    (classBuckets cls).map fun b => wr .EC_BKT_LEVEL (min (s.rd .EC_BKT_LEVEL 0 b) d) 0 b)
  ++ (if bitsOf v 31 16 = 0 then [] else [wr .EC_BKT_CFG_LEAK (bitsOf v 31 16) 0 cls])
  ++ [wr .EC_BKT_CFG_IRQ_EN (bitOf v 33) 0 cls]

/-- A write of EC_BKT_CFG_STK (0) or EC_BKT_CFG_TS (1). -/
def execBktCfgWrite (cls : Fin 2) (value : W64) (s : State) : Outcome State Fault Refusal :=
  .next <| s.perform (bktCfgPlan cls value.toNat)

/-- A write of EC_BKT_CFG.CLR. -/
def execBucketClear (cls : Fin 2) (s : State) : Outcome State Fault Refusal :=
  .next <| s.perform (bucketClearPlan cls)

/-- A write of EC_SCRUB_PERIOD: values below 2,048 are ignored (R297). -/
def scrubPeriodPlan (v : Nat) : Plan := fun s =>
  if s.domOn 169 ∧ 2048 ≤ v % 2 ^ 32 then [wr .EC_SCRUB_PERIOD_CYCLES v] else []

/-- A write of EC_SCRUB_PERIOD. -/
def execScrubPeriodWrite (value : W64) (s : State) : Outcome State Fault Refusal :=
  .next <| s.perform (scrubPeriodPlan value.toNat)

/-! ### Repairs (R302, R303) -/

/-- EC_PPR.LEFT for the bank that the register names. -/
def showPprLeft : Plan := fun s =>
  [wr .EC_PPR_LEFT (2 - s.vr .PPR_USED (s.rd .EC_PPR_STACK) (16 * s.rd .EC_PPR_CH + s.rd .EC_PPR_BANK))]

/-- A write of EC_PPR: its row fields are loaded while no repair runs, and START repairs the row, or is refused with NOT_IDLE or
SPARES_EXHAUSTED (R302). -/
def pprPlan (v : Nat) : Plan := fun s =>
  if ¬ s.domOn 169 then [] else
  if s.rd .EC_PPR_BUSY = 1 then (if testB v 31 then [wr .EC_PPR_STATUS 0x8C] else []) else
  plans
   [fun _ => [wr .EC_PPR_STACK (bitsOf v 4 0), wr .EC_PPR_CH (bitsOf v 11 5), wr .EC_PPR_BANK (bitsOf v 15 12),
      wr .EC_PPR_ROW (bitsOf v 30 16)],
    showPprLeft,
    fun s =>
      if ¬ testB v 31 then []
      else if s.jobActive then [wr .EC_PPR_STATUS 0x8C]
      else if s.rd .EC_PPR_LEFT = 0 then [wr .EC_PPR_STATUS 0x8B]
      else if 20 ≤ bitsOf v 4 0 ∨ 24576 ≤ bitsOf v 30 16 then []
      else
        [wr .EC_PPR_BUSY 1, wr .LS_STAT_REPAIR 1 (bitsOf v 4 0), wv .PPR_AT (s.clock + 2100000), wv .FR_MAINT 1,
         wv .PPR_USED (s.vr .PPR_USED (bitsOf v 4 0) (16 * bitsOf v 11 5 + bitsOf v 15 12) + 1) (bitsOf v 4 0)
           (16 * bitsOf v 11 5 + bitsOf v 15 12)]] s

/-- A write of EC_PPR. -/
def execPprStart (value : W64) (s : State) : Outcome State Fault Refusal :=
  .next <| s.perform (pprPlan value.toNat)

/-- The bursts of the named row that hold a codeword with wrong check symbols. -/
def State.rowBursts (s : State) (stack ch bank row : Nat) : List Nat :=
  s.dirtyBursts.filter fun a =>
    let m := stackMap a
    m.stack == stack && m.ch == ch && m.bank == bank && m.row == row

/-- The PM_FUSE_DATA word of a stack-row repair (Table 19.7). -/
def stackRowFuse (stack ch bank row : Nat) : Nat := packFields [(0, 3), (10, stack), (15, ch), (22, bank), (26, row)]

/-- The repair ends: the row is written back corrected, with uncorrectable granules poisoned, the channel is released and the
repair waits for the next bring-up to be recorded (R302). -/
def pprDonePlan : Plan := fun s =>
  if s.rd .EC_PPR_BUSY = 1 ∧ s.vr .PPR_AT ≤ s.clock then
    let st := s.rd .EC_PPR_STACK
    plans
     [planAll (s.rowBursts st (s.rd .EC_PPR_CH) (s.rd .EC_PPR_BANK) (s.rd .EC_PPR_ROW)) fun a =>
        plans [scrubFix (a / 16), scrubFix (a / 16 + 4)],
      fun s => [wr .EC_PPR_BUSY 0, wr .EC_PPR_STATUS 0, wr .LS_STAT_REPAIR 0 st,
        .parts fun p => { p with repairs := p.repairs ++
          [stackRowFuse st (s.rd .EC_PPR_CH) (s.rd .EC_PPR_BANK) (s.rd .EC_PPR_ROW)] }],
      showPprLeft] s
  else []

/-- The end of a post-package repair. -/
def execPprDone (s : State) : Outcome State Fault Refusal :=
  .next <| s.perform pprDonePlan

/-- TC_CTL.RUN is 0 and every engine queue of the tile is empty, with nothing in progress (R303). -/
def State.tileIdle (s : State) (t : Nat) : Bool :=
  s.rd .TC_CTL_RUN t == 0
    && (List.range 8).all fun e => (s.parts.queues.at (8 * t + e)).isEmpty && (s.parts.running.find (8 * t + e)).isNone
    && (s.parts.mx.at t).isEmpty && (s.parts.vq.at t).isEmpty

/-- A write of EC_TS_REPAIR: START maps the row onto its bank's spare, or is refused (R303). -/
def tsRepairPlan (v : Nat) : Plan := fun s =>
  if ¬ s.domOn 169 then [] else
  if s.rd .EC_TS_REPAIR_BUSY = 1 then (if testB v 21 then [wr .EC_TS_REPAIR_STATUS 0x8C] else []) else
  let t := bitsOf v 5 0
  let b := bitsOf v 9 6
  [wr .EC_TS_REPAIR_TILE t, wr .EC_TS_REPAIR_BANK b, wr .EC_TS_REPAIR_ROW (bitsOf v 20 10)]
  ++ (if ¬ testB v 21 ∨ 40 ≤ t then []
      else if ¬ s.tileIdle t then [wr .EC_TS_REPAIR_STATUS 0x8C]
      else if s.vr .TS_SPARE t b = 1 then [wr .EC_TS_REPAIR_STATUS 0x8B]
      else [wr .EC_TS_REPAIR_BUSY 1, wv .TS_REP_AT (s.clock + 64), wv .TS_SPARE 1 t b, wv .FR_MAINT 1])

/-- A write of EC_TS_REPAIR. -/
def execTsRepairStart (value : W64) (s : State) : Outcome State Fault Refusal :=
  .next <| s.perform (tsRepairPlan value.toNat)

/-- The tile-store words of a row, row o[23:13] of bank o[9:6] (R301), whose check bits are not the right ones. -/
def State.tsRowWords (s : State) (t bank row : Nat) : List Nat :=
  s.file.filterMap fun e => match e.1 with
    | .var .TS_CHK i w => if i = t ∧ (8 * w) / 64 % 16 = bank ∧ (8 * w) / 8192 = row then some w else none
    | _ => none

/-- The copy ends: the row stands corrected, and the repair waits to be recorded (R303). -/
def tsRepairDonePlan : Plan := fun s =>
  if s.rd .EC_TS_REPAIR_BUSY = 1 ∧ s.vr .TS_REP_AT ≤ s.clock then
    let t := s.rd .EC_TS_REPAIR_TILE
    plans
     [planAll (s.tsRowWords t (s.rd .EC_TS_REPAIR_BANK) (s.rd .EC_TS_REPAIR_ROW)) fun w => fun s =>
        if s.tsClass t w = .uncorrectable then [] else putBytes (storeBase t + 8 * w) (s.tsWord t w) ++ [wv .TS_CHK 0 t w],
      fun s => [wr .EC_TS_REPAIR_BUSY 0, wr .EC_TS_REPAIR_STATUS 0,
        .parts fun p => { p with repairs := p.repairs ++
          [packFields [(0, 4), (4, t), (22, s.rd .EC_TS_REPAIR_BANK), (26, s.rd .EC_TS_REPAIR_ROW)]] }]] s
  else []

/-- The end of a tile-store row copy. -/
def execTsRepairDone (s : State) : Outcome State Fault Refusal :=
  .next <| s.perform tsRepairDonePlan

/-! ### Raw test access (R308, R309) -/

/-- A raw command is accepted, or refused: NOT_IDLE for a target that is not idle, 0x84 for a misaligned or outside address
(R309). -/
def rawStatus (s : State) (target a : Nat) : Nat :=
  if target < 20 then (if s.jobActive then 0x8C else if a % 128 ≠ 0 ∨ stackTop ≤ a then 0x84 else 0)
  else if ¬ s.tileIdle (target - 20) then 0x8C
  else if a % 64 ≠ 0 ∨ 2 ^ 24 ≤ a then 0x84 else 0

/-- A write of EC_TEST_CTL with a raw command. -/
def rawPlan (cmd v : Nat) : Plan := fun s =>
  if ¬ s.domOn 169 ∨ s.rd .EC_TEST_CTL_BUSY = 1 then [] else
  let target := bitsOf v 5 0
  let st := rawStatus s target (s.rd .EC_TEST_ADDR_ADDR)
  [wr .EC_TEST_CTL_TARGET target, wr .EC_TEST_CTL_POISON (bitOf v 11)]
  ++ (if 60 ≤ target then []
      else if st ≠ 0 then [wr .EC_TEST_CTL_STATUS st]
      else [wr .EC_TEST_CTL_BUSY 1, wv .RAW_CMD cmd, wv .FR_MAINT 1])

/-- EC_TEST_CTL.CMD = 1. -/
def execRawWrite (value : W64) (s : State) : Outcome State Fault Refusal :=
  .next <| s.perform (rawPlan 1 value.toNat)

/-- EC_TEST_CTL.CMD = 2. -/
def execRawRead (value : W64) (s : State) : Outcome State Fault Refusal :=
  .next <| s.perform (rawPlan 2 value.toNat)

/-- Words EC_TEST_DATA0 to n − 1 as bytes. -/
def State.testData (s : State) (n : Nat) : List Byte :=
  (List.range n).flatMap fun i => leBytes 8 (s.rd .EC_TEST_DATA_DATA 0 i)

/-- The raw access itself, with no correction and no classification. -/
def rawAccess : Plan := fun s =>
  let target := s.rd .EC_TEST_CTL_TARGET
  let a := s.rd .EC_TEST_ADDR_ADDR
  let chk := s.rd .EC_TEST_CHK0_CHK + s.rd .EC_TEST_CHK1_CHK * 2 ^ 64
  if target < 20 then
    if s.vr .RAW_CMD = 1 then
      let bs := s.testData 16
      putBytes a bs ++ [cancelScrub a]
      ++ (List.range 8).map fun w => wv .STK_CHK (((chk >>> (16 * w)) % 65536) ^^^ rsCheck ((bs.drop (16 * w)).take 16)) (a / 16 + w)
    else
      let right := fun w => rsCheck (s.cwBytes (a / 16 + w)) ^^^ s.vr .STK_CHK (a / 16 + w)
      ((List.range 16).map fun i => wr .EC_TEST_DATA_DATA (s.num (a + 8 * i) 8) 0 i)
      ++ [wr .EC_TEST_CHK0_CHK ((List.range 4).foldl (fun m w => m + right w * 2 ^ (16 * w)) 0),
          wr .EC_TEST_CHK1_CHK ((List.range 4).foldl (fun m w => m + right (w + 4) * 2 ^ (16 * w)) 0)]
  else
    let t := target - 20
    if s.vr .RAW_CMD = 1 then
      putBytes (storeBase t + a) (s.testData 8) ++ [wv .TS_POIS (s.rd .EC_TEST_CTL_POISON) t (a / 64)]
      ++ (List.range 8).map fun i =>
        wv .TS_CHK (((chk >>> (8 * i)) % 256) ^^^ hsiaoCheck (s.rd .EC_TEST_DATA_DATA 0 i)) t (a / 8 + i)
    else
      let word := fun i => s.num (storeBase t + a + 8 * i) 8
      ((List.range 8).map fun i => wr .EC_TEST_DATA_DATA (word i) 0 i)
      ++ [wr .EC_TEST_CHK0_CHK ((List.range 8).foldl (fun m i =>
            m + (hsiaoCheck (word i) ^^^ s.vr .TS_CHK t (a / 8 + i)) * 2 ^ (8 * i)) 0),
          wr .EC_TEST_CTL_POISON (s.vr .TS_POIS t (a / 64))]

/-- The raw access is served after the requests queued for its channel; BUSY clears (R309). -/
def rawDonePlan : Plan := fun s =>
  if s.rd .EC_TEST_CTL_BUSY = 1 ∧ (20 ≤ s.rd .EC_TEST_CTL_TARGET ∨ (s.chan (chanOf (s.rd .EC_TEST_ADDR_ADDR))).isEmpty) then
    rawAccess s ++ [wr .EC_TEST_CTL_BUSY 0, wr .EC_TEST_CTL_STATUS 0, wv .RAW_CMD 0]
  else []

/-- A raw access completes. -/
def execRawAccessDone (s : State) : Outcome State Fault Refusal :=
  .next <| s.perform rawDonePlan

end Sys2Proof.Machine
end

