-- ==== Sys2Proof/Machine/RindLog.lean ====
section
/-! DEFINITION. The rind log (R492 to R499): its records, its writer, the last gasp, and the firmware's registers to it. -/
namespace Sys2Proof.Machine
open Host

/-! ### Records (Table 21.1) -/

/-- Bytes 0 to 59 of a record. -/
def RindRec.body (r : RindRec) : List Byte :=
  leBytes 8 r.gtc ++ leBytes 2 r.source ++ leBytes 1 r.status ++ leBytes 1 r.flags ++ leBytes 4 r.seq ++ leBytes 2 r.kind ++ leBytes 2 0
    ++ r.data

/-- The 64 bytes of a record, its CRC at the end. -/
def RindRec.bytes (r : RindRec) : List Byte := r.body ++ leBytes 4 (crc32c r.body)

/-- The 64 bytes at record index i; an index never written reads zeros (log entry 5). -/
def State.recordBytes (s : State) (i : Nat) : List Byte :=
  match s.mram.find i with
  | some r => r.bytes
  | none => List.replicate 64 0

/-! ### Writing (R494, R495, R497) -/

/-- A record is written to MRAM: a fatal one to the sealed region while that has room, with SEALED set, any other to the ring; then both
copies of the write state follow. -/
def storeRecord (s : State) (r : RindRec) : State :=
  let used := s.rd .BB_STAT_SEAL_USED
  let toSeal : Bool := r.fatal && decide (used < 4096)
  let i := if toSeal then used else s.rd .BB_HEAD_IDX
  let head := if toSeal then s.rd .BB_HEAD_IDX else if i = 1048575 then 4096 else i + 1
  let next := (r.seq + 1) % 2 ^ 32
  { s.run
      ((if toSeal then [wr .BB_STAT_SEAL_USED (used + 1)]
        else if (s.mram.find i).isSome then [wr .BB_STAT_WRAPPED 1] else [])
       ++ [wr .BB_HEAD_IDX head, wv .WS_HEAD head 0 0, wv .WS_SEQ next 0 0, wv .WS_HEAD head 0 1, wv .WS_SEQ next 0 1]) with
    mram := s.mram.put i (some (if toSeal then { r with flags := setB r.flags 2 } else r)) }

/-- An entry of the writer's queue has freed: a fatal record held at its source enters, or else the count of dropped records is queued
(R495). -/
def entryFreed : Plan := fun s =>
  match s.parts.rindHeld with
  | r :: rest =>
    plans [fun _ => [.parts fun p => { p with rindHeld := rest }] ++ (if r.source = 0x0500 then [wr .BB_WR_CTL_BUSY 0] else []),
      queueRind r] s
  | [] =>
    if s.vr .DROP_PEND = 0 ∨ 56 ≤ s.parts.rindQueue.length ∨ s.vr .GASP = 1 then []
    else plans [queueRind (s.rindRec s.stamp 0x0600 0 0x000A false false (leBytes 4 (s.vr .DROP_PEND))), fun _ => [wv .DROP_PEND 0]] s

/-- The front record leaves the queue. -/
def popRind : Plan := fun s =>
  [.parts fun p => { p with rindQueue := p.rindQueue.drop 1 }, wr .BB_STAT_QOCC (s.parts.rindQueue.length - 1),
   wv .BB_DUE (s.clock + 2100)]

/-- The writer writes the record at the front of its queue, in SEQ order, one per 2,100 cycles. -/
def execRindRecordWrite (s : State) : Outcome State Fault Refusal :=
  match s.parts.rindQueue with
  | [] => .next s
  | r :: _ =>
    if s.domOn 168 ∧ s.vr .BB_DUE ≤ s.clock then .next ((storeRecord s r).perform (plans [popRind, entryFreed])) else .next s

/-- The aux rail falls: every queued and held record is written, then one LAST_GASP record with the number flushed and the GTC of the
loss, and domain 168 stops (R498). -/
def execLastGasp (s : State) : Outcome State Fault Refusal :=
  if ¬ s.domOn 168 then .next s else
  let flush := s.parts.rindQueue ++ s.parts.rindHeld.mapIdx fun k r => { r with seq := (s.rd .BB_SEQ_NEXT + k) % 2 ^ 32 }
  let seq := (s.rd .BB_SEQ_NEXT + s.parts.rindHeld.length) % 2 ^ 32
  let last := { s.rindRec s.stamp 0x0600 0 0x0001 true false (leBytes 4 flush.length ++ leBytes 8 s.stamp) with seq := seq }
  let t := storeRecord (flush.foldl storeRecord s) last
  .next <| t.run
    [.parts fun p => { p with rindQueue := [], rindHeld := [] }, wr .BB_STAT_QOCC 0, wr .BB_SEQ_NEXT (seq + 1), wr .BB_WR_CTL_BUSY 0,
     wv .GASP 1, wv .GASP_NV 1, wr .PM_DOM_FSTATE 0 0 168]

/-! ### The firmware's registers (R495, R499, Table 21.9) -/

/-- A write of BB_WR_CTL: its fields, and GO, which queues a record with SOURCE 0x0500 when KIND is a firmware kind; a fatal one that
finds the queue full is held (BUSY), and GO is ignored while one is held. -/
def bbGoPlan (v : Nat) : Plan := fun s =>
  if ¬ s.domOn 168 then [] else
  let kind := bitsOf v 15 0
  let fatal := testB v 24
  let data := (List.range 5).flatMap fun i => leBytes 8 (s.rd .BB_WR_DATA_DATA 0 i)
  [wr .BB_WR_CTL_KIND kind, wr .BB_WR_CTL_STATUS (bitsOf v 23 16), wr .BB_WR_CTL_FATAL (bitOf v 24), wr .BB_WR_CTL_REDACT (bitOf v 25)]
  ++ (if ¬ testB v 26 ∨ kind < 0x0100 ∨ 0x7FFF < kind ∨ s.rd .BB_WR_CTL_BUSY = 1 then []
      else queueRind (s.rindRec (s.rd .BB_WR_GTC_GTC) 0x0500 (bitsOf v 23 16) kind fatal (testB v 25) data) s
        ++ (if fatal ∧ 64 ≤ s.parts.rindQueue.length then [wr .BB_WR_CTL_BUSY 1] else []))

/-- A write of BB_WR_CTL. -/
def execBbWriteGo (value : W64) (s : State) : Outcome State Fault Refusal := .next <| s.perform (bbGoPlan value.toNat)

/-- A write of BB_RD_IDX starts a record read, which takes 32 cycles. -/
def execBbRead (value : W64) (s : State) : Outcome State Fault Refusal :=
  .next <| s.perform fun s =>
    if ¬ s.domOn 168 then [] else [wr .BB_RD_IDX_IDX (bitsOf value.toNat 19 0), wr .BB_RD_IDX_BUSY 1, wv .BB_RD_AT (s.clock + 32)]

/-- The record stands in BB_RD_DATA0 to BB_RD_DATA7 and BUSY clears. -/
def bbReadDone : Plan := fun s =>
  if s.rd .BB_RD_IDX_BUSY = 0 ∨ s.clock < s.vr .BB_RD_AT then [] else
  let bs := s.recordBytes (s.rd .BB_RD_IDX_IDX)
  wr .BB_RD_IDX_BUSY 0 :: (List.range 8).map fun i => wr .BB_RD_DATA_DATA (leNat ((bs.drop (8 * i)).take 8)) 0 i

/-- A record read ends. -/
def execBbReadDone (s : State) : Outcome State Fault Refusal := .next <| s.perform bbReadDone

end Sys2Proof.Machine
end

