-- ==== Sys2Proof/Machine/Mailbox.lean ====
section
/-! DEFINITION. Operations on the host mailboxes (R427 to R431, Table 18.2) that the power manager and the firmware share. -/
namespace Sys2Proof.Machine
open Host

/-- The host mailboxes. -/
def mboxes : List Nat := List.range 64

/-- The firmware holds mailbox m. -/
def State.mbOwn (s : State) (m : Nat) : Bool := testB (s.rd .MB_OWN_OWN) m

/-- Mailbox m is acknowledged. -/
def State.mbAck (s : State) (m : Nat) : Bool := testB (s.byte (mboxBase m)).toNat 1

/-- CMD of mailbox m. -/
def State.mbCmd (s : State) (m : Nat) : Nat := s.num (mboxBase m + 2) 2

/-- REQ_LEN of mailbox m. -/
def State.mbReqLen (s : State) (m : Nat) : Nat := s.num (mboxBase m + 8) 2

/-- `n` bytes of the payload of mailbox m from offset `o`, as a number. -/
def State.mbArg (s : State) (m o n : Nat) : Nat := s.num (mboxBase m + 64 + o) n

/-- The firmware returns mailbox m: the response payload, RSP_LEN, STATUS and DONE_BY, then bytes 0 to 7 with OWN = 0; the owning Aqord port
notifies the host when HOST_NOTIFY is 1 (R431). -/
def mailboxReturn (m status : Nat) (rsp : List Byte) (doneBy : Nat) : Plan := fun s =>
  let b := mboxBase m
  let port := bitOf (s.rd .MB_PORT_MAP_PORT) m
  putBytes (b + 64) rsp ++ putNum (b + 10) 2 rsp.length ++ putNum (b + 24) 8 doneBy ++ putNum (b + 4) 1 status
    ++ [.byte b ((s.byte b) &&& 0xFE), wr .MB_OWN_OWN (clrB (s.rd .MB_OWN_OWN) m), wr .MB_PEND_PEND (clrB (s.rd .MB_PEND_PEND) m)]
    ++ (if s.rd .MB_CTL_HOST_NOTIFY = 1 then [bumpV s .MB_NOTIFY 1 0 port] else [])

/-- A reset of domain 169: every host mailbox reads OWN = 0, CMD = 0 and STATUS = 0xF1 (R435). -/
def mailboxesRestarted : List Act :=
  .clearMem (fun a => decide (mboxBase 0 ≤ a ∧ a < mboxBase 64)) :: mboxes.map fun m => .byte (mboxBase m + 4) 0xF1

end Sys2Proof.Machine
end

