-- ==== Sys2Proof/Machine/Power.lean ====
section
/-! DEFINITION. Switchable functions and power domains (R29 to R31, R446 to R450, R465 to R468): requests, transitions, start slots, and what
a reset or OFF does to the state that a domain holds. -/
namespace Sys2Proof.Machine
open Host

/-! ### What a domain holds (R9, R11) -/

/-- Fields whose Reset column names the fuses or the map, and the scrubber's walk state, which domain 168 holds (R310). -/
def keptField (f : Fld) : Bool :=
  match f with
  | .TC_ID_PHYS | .TC_ID_LOGICAL | .TC_ID_NODE | .MX_CAPS_SPARE_USED | .MX_SPARE_MAP_PCOL | .MX_SPARE_MAP_VALID | .EC_SCRUB_STAT_POS
  | .EC_SCRUB_STAT_PASSES | .EC_SCRUB_STAT_LAG | .SC_LC_STATE | .SC_LC_DEBUG => true
  | _ => false

/-- The power domain that holds a place, if it is not a store of its own. -/
def Loc.holder : Loc → Option Nat
  | .reg f i _ =>
    if keptField f then none else
    match f.blk with
    | .tile => some i
    | .gt => some 171
    | .ls => some (80 + i)
    | .ec => some 169
    | .mb => some 169
    | .sc => some 170
    | .link => some (164 + i / 16)
    | .fdie => some (164 + i)
    | .trig => some 164
    | .pm => none
    | .bb => none
  | .var v i _ =>
    match v.scope with
    | .tile => some i
    | .array => some (40 + i)
    | .coll => some (if i < 40 then i else 164)
    | .port => some (164 + i / 16)
    | .fdie => some (164 + i)
    | .stack => some (80 + i)
    | .gt => some 171
    | .mgmt => some 169
    | .crypto => some 170
    | .none => none

/-- A field that every reset but a loss of power leaves (RWS, R9). -/
def Loc.sticky : Loc → Bool
  | .reg f _ _ => f.access == .rws
  | .var _ _ _ => false

/-- The domains that satisfy the test lose what they hold: each place returns to its Reset value, an RWS field only when power is lost
(R9, R11). -/
def loseDomains (power : Bool) (p : Nat → Bool) : Act :=
  .clear fun l => (match l.holder with | some d => p d | none => false) && (power || !l.sticky)

/-- The queues, descriptors and requests of tile t are gone. -/
def Parts.dropTile (p : Parts) (t : Nat) : Parts :=
  { p with
    openFrames := p.openFrames.set t []
    queues := (List.range 8).foldl (fun m e => m.set (8 * t + e) []) p.queues
    running := (List.range 8).foldl (fun m e => m.put (8 * t + e) none) p.running
    loads := p.loads.set t []
    waits := p.waits.put t none
    responses := p.responses.set t []
    tracker := p.tracker.set t []
    flagScope := p.flagScope.set t []
    trkDone := p.trkDone.set t []
    cv := (p.cv.put (2 * t) none).put (2 * t + 1) none
    rnShadow := p.rnShadow.put t none
    vq := p.vq.set t []
    vxDone := p.vxDone.set t []
    recBuf := p.recBuf.set t []
    vxStores := p.vxStores.set t []
    vxPois := p.vxPois.set t []
    lendsOff := p.lendsOff.set t []
    mx := p.mx.set t []
    sv := p.sv.put t none
    svSnoop := p.svSnoop.set t []
    dm := p.dm.put t none
    chain := p.chain.put t none
    cmpSnap := p.cmpSnap.set t []
    ce := p.ce.put t none
    ceTok := p.ceTok.set t []
    ceOut := p.ceOut.set t [] }

/-- The firmware's queues are gone with the management SRAM (R435). -/
def Parts.dropFirmware (p : Parts) : Parts :=
  { p with
    events := []
    work := []
    overruns := []
    funcWait := []
    telem := []
    setup := none
    rennet := none
    bcastOut := []
    bcasts := []
    adoptWait := []
    fwOut := []
    restore := none
    spdm := {} }

/-- What the rind log, the I3C target and the power manager hold, and nothing else: a package reset leaves domain 168 alone (R449). -/
def Parts.aux (p : Parts) : Parts :=
  { Parts.mk0 with
    rindQueue := p.rindQueue
    rindHeld := p.rindHeld
    repairs := p.repairs
    i3cOut := p.i3cOut
    powSamples := p.powSamples
    scrubWB := p.scrubWB }

/-- The bytes of tile t's store, core memories, vector and tile registers. -/
def tileBytes (t a : Nat) : Bool :=
  decide (storeBase t ≤ a ∧ a < storeBase (t + 1)) || decide (dmemBase t ≤ a ∧ a < dmemBase (t + 1))
    || decide (vregBase t ≤ a ∧ a < vregBase (t + 1))

/-- The bytes of tile t's matrix memories. -/
def arrayBytes (t a : Nat) : Bool := decide (mxBase t ≤ a ∧ a < mxBase (t + 1))

/-! ### Functions (R467, Table 19.4) -/

/-- The registers of a function: the place of its EN field, then FSTATE, PEND_EN and PEND_DIS with their instance numbers. -/
structure FuncRegs where
  en : Loc
  fstate : Fld
  pendEn : Fld
  pendDis : Fld
  i : Nat
  j : Nat

/-- The registers of each function. -/
def funcRegs : Func → FuncRegs
  | .dom d => ⟨.reg .PM_DOM_EN 0 d, .PM_DOM_FSTATE, .PM_DOM_PEND_EN, .PM_DOM_PEND_DIS, 0, d⟩
  | .vx t => ⟨.reg .VX_CTL_EN t 0, .VX_STAT_FSTATE, .VX_STAT_PEND_EN, .VX_STAT_PEND_DIS, t, 0⟩
  | .sv t => ⟨.reg .SV_CTL_EN t 0, .SV_STAT_FSTATE, .SV_STAT_PEND_EN, .SV_STAT_PEND_DIS, t, 0⟩
  | .fs t => ⟨.reg .FS_CTL_EN t 0, .FS_STAT_FSTATE, .FS_STAT_PEND_EN, .FS_STAT_PEND_DIS, t, 0⟩
  | .dm t => ⟨.reg .DM_CTL_EN t 0, .DM_STAT_FSTATE, .DM_STAT_PEND_EN, .DM_STAT_PEND_DIS, t, 0⟩
  | .ce t => ⟨.reg .CE_CTL_EN t 0, .CE_STAT_FSTATE, .CE_STAT_PEND_EN, .CE_STAT_PEND_DIS, t, 0⟩
  | .cv t u => ⟨if u = 0 then .reg .CV_CTL_EN0 t 0 else .reg .CV_CTL_EN1 t 0, .CV_STAT_FSTATE, .CV_STAT_PEND_EN, .CV_STAT_PEND_DIS, t, u⟩
  | .scrub => ⟨.reg .EC_SCRUB_CTL_EN 0 0, .EC_SCRUB_CTL_FSTATE, .EC_SCRUB_CTL_PEND_EN, .EC_SCRUB_CTL_PEND_DIS, 0, 0⟩

/-- Where FUNC_AT holds a function's time. -/
def funcKey : Func → Nat × Nat
  | .dom d => (40, d)
  | .vx t => (t, 0)
  | .sv t => (t, 1)
  | .fs t => (t, 2)
  | .dm t => (t, 3)
  | .ce t => (t, 4)
  | .cv t u => (t, 5 + u)
  | .scrub => (41, 0)

/-- The tile whose domain an engine function needs. -/
def funcTile : Func → Option Nat
  | .dom _ => none
  | .vx t | .sv t | .fs t | .dm t | .ce t | .cv t _ => some t
  | .scrub => none

/-- FSTATE of a function. -/
def State.fstate (s : State) (f : Func) : Nat := s.rd (funcRegs f).fstate (funcRegs f).i (funcRegs f).j

/-- PEND_EN of a function. -/
def State.pendEn (s : State) (f : Func) : Nat := s.rd (funcRegs f).pendEn (funcRegs f).i (funcRegs f).j

/-- PEND_DIS of a function. -/
def State.pendDis (s : State) (f : Func) : Nat := s.rd (funcRegs f).pendDis (funcRegs f).i (funcRegs f).j

/-- The clock cycle in which a function entered its state. -/
def State.funcAt (s : State) (f : Func) : Nat := s.vr .FUNC_AT (funcKey f).1 (funcKey f).2

/-- A function takes a state. -/
def setFstate (f : Func) (st : Nat) : Plan := fun s =>
  [wr (funcRegs f).fstate st (funcRegs f).i (funcRegs f).j, wv .FUNC_AT s.clock (funcKey f).1 (funcKey f).2]

/-- PEND_EN takes a value; a domain among 0 to 79 that waits in OFF also shows SLOT_WAIT (R468). -/
def setPendEn (f : Func) (v : Nat) (slot : Nat) : Plan := fun _ =>
  wr (funcRegs f).pendEn v (funcRegs f).i (funcRegs f).j :: (match f with | .dom d => [wr .PM_DOM_SLOT_WAIT slot 0 d] | _ => [])

/-- PEND_DIS takes a value. -/
def setPendDis (f : Func) (v : Nat) : Plan := fun _ => [wr (funcRegs f).pendDis v (funcRegs f).i (funcRegs f).j]

/-- EN takes a value. -/
def setEn (f : Func) (v : Nat) : Plan := fun _ =>
  match (funcRegs f).en with
  | .reg e i j => [wr e v i j]
  | .var _ _ _ => []

/-- The cycle in which a disable request registers, which decides what was queued before it. -/
def noteDisable (f : Func) : Plan := fun s =>
  match f with
  | .dom d => [wv .DOM_DIS_AT s.clock 0 d]
  | .scrub => []
  | _ => [wv .FUNC_DIS_AT s.clock (funcKey f).1 (funcKey f).2]

/-- The function starts only in a start slot (R468). -/
def staggered : Func → Bool
  | .dom d => decide (d.val < 80)
  | _ => false

/-- The function as the array domain of tile t. -/
def arrayOf (t : Tile) : Func := .dom ⟨40 + t.val, by omega⟩

/-- The cycles that STARTING lasts at least (Table 19.4). A stack that leaves self-refresh takes 105,000 cycles, and one that starts from
power-on takes 44,040,192 for the fill, refresh windows apart (R280). -/
def State.startCycles (s : State) (f : Func) : Nat :=
  match f with
  | .dom d =>
    if d.val < 40 then 10500 else if d.val < 80 then 8400
    else if d.val < 100 then (if s.vr .SELF_REF (d.val - 80) = 1 then 105000 else 44040192)
    else if d.val < 164 then 21000
    else if d.val = 169 ∨ d.val = 170 then 1050 else if d.val = 171 then 10500 else 105000
  | .vx _ => 256
  | .sv _ => 1024
  | .fs _ => 64
  | .dm _ => 128
  | .ce _ => 256
  | .cv _ _ => 16
  | .scrub => 16

/-! ### Requests (Table 19.3) -/

/-- The function enters STARTING. -/
def startFunc (f : Func) : Plan := plans [setPendEn f 0 0, setFstate f 1]

/-- What a domain does on entering DRAINING: an ACTIVE link drains and one in RETRAIN goes DOWN (R327, Table 13.2). -/
def drainFunc (f : Func) : Plan := plans [setFstate f 3, fun s =>
  match f with
  | .dom d =>
    if 100 ≤ d.val ∧ d.val < 164 then
      let l := d.val - 100
      if s.linkActive l then (if s.vr .LINK_DRAIN l = 0 then [wv .LINK_DRAIN 1 l, wv .LINK_DRAIN_AT s.clock l] else [])
      else if s.linkState l = 6 then linkDown l 12 s
      else if s.linkState l = 0 ∨ s.linkState l = 7 then []
      else setLinkState l 0 12 s
    else []
  | _ => []]

/-- An enable request registers. While its tile's domain is not ON an engine function stays OFF and starts with the domain (R467). -/
def enableReq (f : Func) : Plan := plans [setEn f 1, fun s =>
  match funcTile f with
  | some t => if s.dom t = 2 ∨ s.dom t = 3 then enableBody f s else []
  | none => enableBody f s]
where
  enableBody (f : Func) : Plan := fun s =>
    match s.fstate f with
    | 0 => if staggered f then setPendEn f 1 1 s else startFunc f s
    | 1 => setPendDis f 0 s
    | 2 => setPendDis f 0 s
    | _ => setPendEn f 1 0 s

/-- A disable request registers. The disable of a tile domain that is ON first drives its array domain to OFF, and is latched until then
(R30, R468). -/
def disableReq (f : Func) : Plan := plans [setEn f 0, fun s =>
  match funcTile f with
  | some t => if s.dom t = 2 ∨ s.dom t = 3 then disableBody f s else []
  | none =>
    match f with
    | .dom d =>
      if h : d.val < 40 then
        let a := arrayOf ⟨d.val, h⟩
        if s.dom d.val = 2 ∧ s.fstate a ≠ 0 then
          plans [noteDisable f, setPendDis f 1, setEn a 0, disableBody a] s
        else plans [if s.fstate a = 0 ∧ s.pendEn a = 1 then plans [setEn a 0, setPendEn a 0 0] else fun _ => [], disableBody f] s
      else disableBody f s
    | _ => disableBody f s]
where
  disableBody (f : Func) : Plan := fun s =>
    match s.fstate f with
    | 0 => setPendEn f 0 0 s
    | 1 => plans [noteDisable f, setPendDis f 1] s
    | 2 => plans [noteDisable f, drainFunc f] s
    | _ => setPendEn f 0 0 s

/-- A write of an EN field is a request (R467). -/
def enWrite (f : Func) (v : Bool) : Plan := if v then enableReq f else disableReq f

/-- A write of PM_DOM.EN; domains 164 to 168 ignore it, and no domain switches on before the rails are good (R446, R467). -/
def execPmDomEnWrite (domain : Fin 174) (enable : Bool) (s : State) : Outcome State Fault Refusal :=
  .next <| s.perform fun s =>
    if (164 ≤ domain.val ∧ domain.val ≤ 168) ∨ s.rd .PM_STAT_RAILS_OK = 0 then [] else enWrite (.dom domain) enable s

/-- A write of an EN field of the tile block: nothing while the tile's domain is OFF. -/
def tileEn (f : Func) (v : Bool) : Plan := fun s =>
  match funcTile f with
  | some t => if s.dom t = 0 then [] else enWrite f v s
  | none => []

/-- A write of VX_CTL.EN (R170). -/
def execVxCtlEnWrite (tile : Tile) (enable : Bool) (s : State) : Outcome State Fault Refusal :=
  .next <| s.perform (tileEn (.vx tile) enable)

/-- A write of SV_CTL.EN (R198). -/
def execSvCtlEnWrite (tile : Tile) (enable : Bool) (s : State) : Outcome State Fault Refusal :=
  .next <| s.perform (tileEn (.sv tile) enable)

/-- A write of FS_CTL.EN (R222). -/
def execFsCtlEnWrite (tile : Tile) (enable : Bool) (s : State) : Outcome State Fault Refusal :=
  .next <| s.perform (tileEn (.fs tile) enable)

/-- A write of DM_CTL.EN (R255). -/
def execDmCtlEnWrite (tile : Tile) (enable : Bool) (s : State) : Outcome State Fault Refusal :=
  .next <| s.perform (tileEn (.dm tile) enable)

/-- A write of CE_CTL.EN (R379). -/
def execCeCtlEnWrite (tile : Tile) (enable : Bool) (s : State) : Outcome State Fault Refusal :=
  .next <| s.perform (tileEn (.ce tile) enable)

/-- A write of EC_SCRUB_CTL.EN (R300). -/
def execEcScrubCtlEnWrite (enable : Bool) (s : State) : Outcome State Fault Refusal :=
  .next <| s.perform fun s => if s.dom 169 = 0 then [] else enWrite .scrub enable s

/-- A write of CV_CTL: EN0 and EN1 each request for their unit (R508). -/
def execCvCtlEnWrite (tile : Tile) (enable0 enable1 : Bool) (s : State) : Outcome State Fault Refusal :=
  .next <| s.perform (plans [tileEn (.cv tile 0) enable0, tileEn (.cv tile 1) enable1])

/-! ### When DRAINING ends (Table 19.4) -/

/-- A request delivered to tile t has not been served (R353). -/
def State.ingressBusy (s : State) (t : Nat) : Bool :=
  (List.range 5).any fun k => (s.parts.serving.at k).any fun p =>
    match targetOf p.addr p.span with
    | .tile l _ => s.physOf l == some t
    | _ => false

/-- No descriptor of engine e of tile t is in progress or was queued before the cycle `disAt`. -/
def State.engineDrained (s : State) (t e disAt : Nat) : Bool :=
  (s.running t e).isNone && (s.queue t e).all fun d => decide (disAt ≤ d.issued)

/-- The DRAINING of a function has come to its end. -/
def State.drained (s : State) (f : Func) : Bool :=
  match f with
  | .dom d =>
    if d.val < 40 then !s.ingressBusy d || decide (s.funcAt f + 21000 ≤ s.clock)
    else if d.val < 80 then
      let t := d.val - 40
      s.vr .TILE_HELD t == 1
        || ((s.parts.mx.at t).isEmpty && (s.queue t 0).all fun x => decide (s.vr .DOM_DIS_AT 0 d ≤ x.issued))
    else if d.val < 100 then (List.range 128).all fun ch => (s.chan (20 * ch + (d.val - 80))).isEmpty
    else if d.val < 164 then s.linkState (d.val - 100) != 5 && s.linkState (d.val - 100) != 6
    else if d.val < 172 then decide (s.funcAt f + 105 ≤ s.clock)
    else true
  | .vx t => (s.parts.vq.at t).all (fun q => decide (s.vr .FUNC_DIS_AT t 0 ≤ q.issued)) && (s.parts.vxDone.at t).isEmpty
      && decide (s.vr .VX_LAST t ≤ s.clock)
  | .sv t => s.engineDrained t 1 (s.vr .FUNC_DIS_AT t 1)
  | .fs t => !s.window t
  | .dm t => s.engineDrained t 3 (s.vr .FUNC_DIS_AT t 3)
  | .ce t => s.engineDrained t 2 (s.vr .FUNC_DIS_AT t 4)
  | .cv t u => s.engineDrained t (4 + u) (s.vr .FUNC_DIS_AT t (5 + u))
  | .scrub => s.parts.scrubWB.isEmpty

/-! ### Reaching ON and OFF -/

/-- A function has reached its final state: the firmware returns the mailboxes that wait for it and posts a FUNCTION event for each that
went back with 0x83 (R434). -/
def funcReached (f : Func) : Plan := fun s =>
  let ws := s.parts.funcWait.filter fun w => w.func == f
  let st := s.fstate f
  plans [fun _ => [.parts fun p => { p with funcWait := p.funcWait.filter fun w => w.func != f }],
    planAll ws fun w =>
      match w.mbox with
      | some m => fun s => if s.mbOwn m then mailboxReturn m 0 (leBytes 1 st) s.gtc s else []
      | none => fun s => if s.fwReady then postEvent 0x000C 0 0xFF [w.code, st] s else []] s

/-- The rennet image is written to tile t's instruction and data memories, and the core starts at its entry (R458, R466). -/
def loadRennet (t : Nat) (r : Rennet) : Plan := plans
  [fun _ => [.clearMem fun a => decide (dmemBase t ≤ a ∧ a < dmemBase (t + 1))] ++ putBytes (imemBase t) (r.imem.take 65536)
      ++ putBytes (dmemBase t) (r.dmem.take 65536)
      ++ [.clear fun l => match l with
            | .var .DMEM_BAD i _ => i == t
            | .var .IMEM_BAD i _ => i == t
            | _ => false,
          wr .TC_EPC_PC r.entry t, wv .RENNET_RUN 1 t],
   tcRunPlan t 1]

/-- What training finds on the stack of C-die c: a channel with one failed line runs with it masked, and one with two or more is marked failed
(R283). -/
def trainStack (c : Nat) (failed : List FailedLine) : Plan := fun _ =>
  let count := fun (ch : Nat) => (failed.filter fun x => x.channel.val == ch).eraseDups
  let masked := (List.range 128).filter fun ch => (count ch).length == 1
  let bad := (List.range 128).filter fun ch => decide (2 ≤ (count ch).length)
  let mask := fun (lo : Nat) => bad.foldl (fun m ch => if lo ≤ ch ∧ ch < lo + 64 then setB m (ch - lo) else m) 0
  [.clear fun l => match l with | .var .CH_MASK i _ => i == c | _ => false]
  ++ (masked.flatMap fun ch => (count ch).map fun x => wv .CH_MASK (x.position.val + 1) c ch)
  ++ [wr .LS_CHFAIL0_CH (mask 0) c, wr .LS_CHFAIL1_CH (mask 64) c, wr .LS_STAT_LINES_MASKED masked.length c]
  ++ (if bad.isEmpty then [] else [wr .LS_STAT_TRAIN_FAIL 1 c])

/-- The bytes and check symbols of the stack of C-die c are zero and valid (R280). -/
def zeroStack (c : Nat) : List Act :=
  [.clearMem fun a => decide (a < stackTop) && (stackMap a).stack == c,
   .clear fun l => match l with | .var .STK_CHK x _ => (stackMap (16 * x)).stack == c | _ => false]

/-- A domain reaches ON. -/
def domainOn (d : Nat) (failed : List FailedLine) : Plan := fun s =>
  if h : d < 40 then
    let l := s.logicalOf d
    plans
     [fun _ => .clearMem (tileBytes d) :: ((List.range 4).map fun f => wr .NI_RESET_TILES (clrB (s.rd .NI_RESET_TILES f) l) f)
        ++ [wr .VX_STAT_FSTATE (2 * s.rd .VX_CTL_EN d) d, wr .SV_STAT_FSTATE (2 * s.rd .SV_CTL_EN d) d,
            wr .FS_STAT_FSTATE (2 * s.rd .FS_CTL_EN d) d, wr .DM_STAT_FSTATE (2 * s.rd .DM_CTL_EN d) d,
            wr .CE_STAT_FSTATE (2 * s.rd .CE_CTL_EN d) d, wr .CV_STAT_FSTATE (2 * s.rd .CV_CTL_EN0 d) d 0,
            wr .CV_STAT_FSTATE (2 * s.rd .CV_CTL_EN1 d) d 1],
      if s.vr .TILE_HELD d = 1 then
        plans [fun _ => [wv .TILE_HELD 0 d], match s.parts.rennet with | some r => loadRennet d r | none => fun _ => []]
      else fun _ => [],
      let a := arrayOf ⟨d, h⟩
      if s.pendEn a = 1 ∧ s.fstate a = 0 then startFunc a else fun _ => []] s
  else if d < 80 then [.clearMem (arrayBytes (d - 40)), loseDomains false (· == d)]
  else if d < 100 then
    let c := d - 80
    plans [if s.vr .SELF_REF c = 1 then fun _ => [wv .SELF_REF 0 c] else fun _ => zeroStack c,
      trainStack c failed, fun _ => [wr .LS_STAT_INIT_DONE 1 c]] s
  else if d < 164 then setLinkState (d - 100) 1 0 s
  else if d = 169 ∨ d = 171 then
    if s.rd .PM_STAT_PSTATE = 0 ∧ s.domOn 169 ∧ s.domOn 171 then
      plans [fun _ => [wr .PM_STAT_PSTATE 1], enableReq (.dom 172), enableReq (.dom 173), scrubOn d] s
    else scrubOn d s
  else []
where
  /-- EC_SCRUB_CTL.EN resets to 1 and FSTATE to OFF, so the scrubber starts when its domain is ON (R300). -/
  scrubOn (d : Nat) : Plan := fun s =>
    if d = 169 ∧ s.rd .EC_SCRUB_CTL_EN = 1 ∧ s.fstate .scrub = 0 then startFunc .scrub s else []

/-- A domain reaches OFF: it keeps nothing that the fuses, the map or domain 168 do not hold; a stack is in self-refresh first (R11, R281,
log entry 40). -/
def domainOff (d : Nat) : Plan := fun s =>
  if d < 40 then [.parts fun p => p.dropTile d, .clearMem (tileBytes d), loseDomains false (· == d)]
  else if d < 80 then [.parts fun p => { p with mx := p.mx.set (d - 40) [] }, .clearMem (arrayBytes (d - 40)), loseDomains false (· == d)]
  else if d < 100 then [loseDomains false (· == d), wv .SELF_REF 1 (d - 80)]
  else if d = 169 then
    loseDomains false (· == d) :: (mboxes.filter s.mbOwn).flatMap fun m => putNum (mboxBase m) 8 (0xF1 <<< 32)
  else if d = 171 then [wv .SHADOW_BASE s.gtc, wv .SHADOW_CLK s.clock, loseDomains false (· == d)]
  else if d = 170 then [loseDomains false (· == d)]
  else []

/-- STARTING has lasted its time: ON, or DRAINING with PEND_DIS cleared when a disable is latched (Table 19.3). -/
def startingEnd (f : Func) (failed : List FailedLine) : Plan := fun s =>
  if s.fstate f ≠ 1 ∨ s.clock < s.funcAt f + s.startCycles f then []
  else if s.pendDis f = 1 then plans [setPendDis f 0, drainFunc f] s
  else plans [setFstate f 2, (match f with | .dom d => domainOn d failed | _ => fun _ => []), funcReached f] s

/-- A function's STARTING ends; a stack's training reports the failed lines it found. -/
def execFunctionStartingEnd (func : Func) (failed : List FailedLine) (s : State) : Outcome State Fault Refusal :=
  let t := s.perform (startingEnd func failed)
  .next { t with gtc := if func = .dom 171 ∧ s.dom 171 = 1 ∧ t.dom 171 = 2 then 0 else s.gtc }

/-! ### Start slots (R468) -/

/-- A domain waits for a slot and may take one: a tile domain, or an array domain whose tile domain is ON. -/
def State.slotReady (s : State) (d : Nat) : Bool :=
  s.dom d == 0 && s.rd .PM_DOM_PEND_EN 0 d == 1 && (decide (d < 40) || s.domOn (d - 40))

/-- A start slot is granted to the lowest waiting domain, 31,500 cycles after the slot before it. The first tile domain to leave OFF closes NI_MAP
(R359). -/
def slotGrant : Plan := fun s =>
  if s.vr .SLOT_AT ≠ 0 ∧ s.clock < s.vr .SLOT_AT - 1 + 31500 then []
  else match (List.range 80).find? s.slotReady with
  | none => []
  | some d =>
    if h : d < 80 then
      plans [fun s => wv .SLOT_AT (s.clock + 1) :: (if d < 40 then [wv .NI_MAP_SHUT 1] else []), startFunc (.dom ⟨d, by omega⟩)] s
    else []

/-- A start slot. -/
def execStaggerSlotGrant (s : State) : Outcome State Fault Refusal := .next <| s.perform slotGrant

/-! ### Partition reset (R353, R465, R466) -/

/-- Tile t enters partition reset: its NI_RESET bit sets, its core halts, nothing of its own goes on, and its array and then its domain drain. -/
def partitionReset (t : Tile) : Plan := fun s =>
  let l := s.logicalOf t
  plans
   [fun s => (List.range 4).map (fun f => wr .NI_RESET_TILES (setB (s.rd .NI_RESET_TILES f) l) f)
      ++ [wv .TILE_HELD 1 t, wv .RENNET_RUN 0 t, wr .TC_CTL_RUN 0 t, wr .TC_STAT_RUNNING 0 t, wv .TILE_JOB 0 t,
          .parts fun p => (p.dropTile t)],
    disableReq (.dom ⟨t.val, by omega⟩), setEn (arrayOf t) 0] s

/-- Tile t is released from partition reset: its domain starts in its slot and its array after it. -/
def partitionRelease (t : Tile) : Plan := fun s =>
  if s.vr .TILE_HELD t = 0 then [] else plans [enableReq (.dom ⟨t.val, by omega⟩), enableReq (arrayOf t)] s

end Sys2Proof.Machine
end

