-- ==== Sys2Proof/Machine/Reset.lean ====
section
/-! DEFINITION. Rails, resets, Dormant, the power cap, heat and the field fuse bank (R446 to R450, R456, R470 to R475). -/
namespace Sys2Proof.Machine
open Host

/-! ### The management SRAM and the firmware region -/

/-- The 4 MiB management SRAM lies above every local address (R451). -/
def sramBase : Nat := 0x4000000000000

/-- Its size. -/
def sramSize : Nat := 0x400000

/-- The firmware region of local stack memory (R454). -/
def fwRegion : Nat := 0x00EFFC000000

/-- `sramSize` bytes from `src` on are copied to `dst`, which keeps no other byte; check symbols of stack codewords written are valid. -/
def copySram (src dst : Nat) : Plan := fun s =>
  let bs := s.mem.filter fun c => decide (src ≤ c.1 ∧ c.1 < src + sramSize)
  [.clearMem fun a => decide (dst ≤ a ∧ a < dst + sramSize),
   .clear fun l => match l with | .var .STK_CHK x _ => decide (dst ≤ 16 * x ∧ 16 * x < dst + sramSize) | _ => false]
  ++ bs.map fun c => .byte (c.1 - src + dst) c.2

/-- The load window is cleared. -/
def clearSram : Act := .clearMem fun a => decide (sramBase ≤ a ∧ a < sramBase + sramSize)

/-! ### Dormant (R473 to R475) -/

/-- What the saved state holds of the crypto engine: measurement slots and boot fields (R486). -/
def secEntry (l : Loc) : Bool :=
  match l with
  | .reg .SC_MEAS_VALUE _ _ | .reg .SC_BOOT_KEY_SLOT _ _ | .reg .SC_BOOT_SVN _ _ | .reg .SC_BOOT_DEBUG_ALLOW _ _
  | .reg .SC_BOOT_VERIFIED _ _ | .reg .SC_BOOT_LAST_STATUS _ _ => true
  | _ => false

/-- The stack-interface domains. -/
def stackDoms : List (Fin 174) := (List.finRange 20).map fun c => ⟨80 + c.val, by omega⟩

/-- The tile domains. -/
def tileDoms : List (Fin 174) := (List.finRange 40).map fun t => ⟨t.val, by omega⟩

/-- The array domains. -/
def arrayDoms : List (Fin 174) := (List.finRange 40).map fun t => ⟨40 + t.val, by omega⟩

/-- A domain is set on or off. -/
def setDom (d : Fin 174) (on : Bool) : Plan := fun s =>
  if on then (if s.dom d = 2 then [] else enableReq (.dom d) s) else enWrite (.dom d) false s

/-- The wake begins (Table 19.5): stacks, domains 169 and 170 and the Aqord ports start, and the tiles in service take their slots from 189,000
cycles after it. -/
def wakeBegin (src : Nat) : Plan := fun s =>
  let ts := tileDoms.filter fun d => s.inService.contains d.val
  plans
   [fun s => [wr .PM_STAT_PSTATE 7, wr .PM_DORM_LAST_WAKE src, wr .PM_STAT_LAST_RESET 5, wv .WAKE_LATCH 0, wv .WAKE_AT s.clock],
    planAll stackDoms fun d => setDom d true,
    setDom 169 true, setDom 170 true, setDom 172 true, setDom 173 true,
    planAll ts fun d => plans [enableReq (.dom d), if h : d.val < 40 then enableReq (arrayOf ⟨d.val, h⟩) else fun _ => []],
    fun s => [wv .SLOT_AT (s.clock + 189000 - 31500 + 1)]] s

/-- A wake source: it wakes the package from Dormant, or is latched while the package enters it. -/
def wake (src : Nat) (enabled : Bool) : Plan := fun s =>
  if ¬ enabled then []
  else if s.rd .PM_STAT_PSTATE = 6 then wakeBegin src s
  else if s.rd .PM_STAT_PSTATE = 5 ∧ s.vr .WAKE_LATCH = 0 then [wv .WAKE_LATCH src]
  else []

/-- Domains 0 to 79 are off: the firmware saves its image and state and the digest of that copy, and turns the scrubber and the stacks off. -/
def dormantSave : Plan := fun s =>
  if s.vr .DORM_STAGE ≠ 1 ∨ ¬ (List.range 80).all (fun d => s.dom d == 0) then [] else
  let digest := sha3_256 (s.bytes sramBase sramSize)
  plans
   [copySram sramBase fwRegion,
    fun s => (List.range 4).map (fun i => wr .PM_DORM_DIGEST_DIGEST (leNat ((digest.drop (8 * i)).take 8)) 0 i)
      ++ [.parts fun p => { p with secSaved := s.file.filter fun e => secEntry e.1 }, wv .DORM_STAGE 2],
    enWrite .scrub false, planAll stackDoms fun d => setDom d false] s

/-- The scrubber and the stacks are off: domains 170, 172 and 173 go as PM_DORM says, the mailbox returns and domain 169 turns off. -/
def dormantLeave : Plan := fun s =>
  if s.vr .DORM_STAGE ≠ 2 ∨ s.fstate .scrub ≠ 0 ∨ stackDoms.any (fun d => s.dom d != 0) then [] else
  plans
   [setDom 170 (s.rd .PM_DORM_CRYPTO_ON == 1), setDom 172 (s.rd .PM_DORM_AQ0_ON == 1), setDom 173 (s.rd .PM_DORM_AQ1_ON == 1),
    if s.vr .DORM_MBOX = 0 then fun _ => [] else mailboxReturn (s.vr .DORM_MBOX - 1) 0 [] s.gtc,
    fun _ => [wv .DORM_STAGE 3, wv .DORM_MBOX 0], setDom 169 false] s

/-- Domain 169 is off: the package is Dormant, and a latched wake begins. -/
def dormantEnd : Plan := fun s =>
  if s.vr .DORM_STAGE ≠ 3 ∨ s.dom 169 ≠ 0 then [] else
  plans [fun _ => [wr .PM_STAT_PSTATE 6, wv .DORM_STAGE 0],
    fun s => if s.vr .WAKE_LATCH = 0 then [] else wakeBegin (s.vr .WAKE_LATCH) s] s

/-- Entry to Dormant goes on as far as it can. -/
def dormantNext : Plan := plans [dormantSave, dormantLeave, dormantEnd]

/-- Domains 0 to 79 turn off: the start of entry to Dormant for the command in mailbox m. -/
def dormantBegin (m : Nat) : Plan := plans
  [fun _ => [wr .PM_STAT_PSTATE 5, wv .DORM_STAGE 1, wv .DORM_MBOX (m + 1)],
   planAll arrayDoms fun d => setDom d false, planAll tileDoms fun d => setDom d false, dormantNext]

/-! ### The end of DRAINING -/

/-- An array domain that reaches OFF lets the latched disable of its tile domain take effect (R30). -/
def tileFollows (d : Nat) : Plan := fun s =>
  if h : 40 ≤ d ∧ d < 80 then
    let f : Func := .dom ⟨d - 40, by omega⟩
    if s.dom (d - 40) = 2 ∧ s.pendDis f = 1 then plans [setPendDis f 0, drainFunc f] s else []
  else []

/-- DRAINING has come to its end: OFF, or STARTING when an enable is latched; a domain among 0 to 79 waits in OFF for its slot (Table 19.3). -/
def drainingEnd (f : Func) : Plan := fun s =>
  if s.fstate f ≠ 3 ∨ ¬ s.drained f then [] else
  let pend := s.pendEn f
  plans
   [setFstate f 0, (match f with | .dom d => domainOff d | _ => fun _ => []),
    if pend = 1 then (if staggered f then setPendEn f 1 1 else startFunc f) else funcReached f,
    (match f with | .dom d => tileFollows d | _ => fun _ => []), dormantNext] s

/-- A function's DRAINING ends. -/
def execFunctionDrainingEnd (func : Func) (s : State) : Outcome State Fault Refusal := .next <| s.perform (drainingEnd func)

/-! ### Waking -/

/-- WAKE_N has been low for 105 cycles. -/
def execWakePin (s : State) : Outcome State Fault Refusal := .next <| s.perform fun s => wake 2 (s.rd .PM_DORM_WAKE_PIN_EN == 1) s

/-- A write of PM_CTL.WAKE. -/
def execWakeWrite (s : State) : Outcome State Fault Refusal := .next <| s.perform fun s => wake 3 (s.rd .PM_DORM_WAKE_I3C_EN == 1) s

/-- The GTC equals PM_WAKE_AT. -/
def execWakeAlarm (s : State) : Outcome State Fault Refusal :=
  .next <| s.perform fun s =>
    wake 4 (s.rd .PM_DORM_WAKE_ALARM_EN == 1 && s.rd .PM_WAKE_AT_AT != 0 && s.gtc == s.rd .PM_WAKE_AT_AT) s

/-- The package is in recovery: nothing of the firmware's is left, and the boot ROM awaits an image (R453). -/
def enterRecovery : Plan := fun _ =>
  [wr .PM_STAT_PSTATE 3, wr .MB_STAT_FW_READY 0, clearSram, .parts Parts.dropFirmware, wr .SC_BOOT_VERIFIED 0, wr .SC_LC_DEBUG 0]

/-- The digest of the saved copy differs from PM_DORM_DIGEST (R475). -/
def State.savedBad (s : State) : Bool :=
  let digest := sha3_256 (s.bytes fwRegion sramSize)
  (List.range 4).any fun i => s.rd .PM_DORM_DIGEST_DIGEST 0 i != leNat ((digest.drop (8 * i)).take 8)

/-- The wake ends: recovery once the hash of the reloaded copy has failed; otherwise the saved state is back and FW_READY sets, in the last
window of Table 19.5. -/
def wakeComplete : Plan := fun s =>
  if s.rd .PM_STAT_PSTATE ≠ 7 ∨ ¬ s.domOn 169 ∨ stackDoms.any (fun d => !s.domOn d) ∨ s.clock < s.vr .WAKE_AT + 189000 then []
  else if s.savedBad then enterRecovery s
  else if s.clock < s.vr .WAKE_AT + 1470000 then []
  else
    plans [copySram fwRegion sramBase,
      fun s => (s.parts.secSaved.filterMap fun e => match e.1 with | .reg f i j => some (Act.reg f i j e.2) | _ => none)
        ++ [wr .PM_STAT_PSTATE 4, wr .MB_STAT_FW_READY 1, wr .MB_STAT_IFVER_MAJOR 3, wr .MB_STAT_IFVER_MINOR 1]] s

/-- The end of the wake. -/
def execWakeComplete (s : State) : Outcome State Fault Refusal := .next <| s.perform wakeComplete

/-! ### Rails and resets (R446, R447, R449, R454) -/

/-- Step 1 of Table 19.1: the F-die cores are up and domains 169 to 171 start (log entry 41). -/
def coldStart : Plan := plans
  [fun _ => (List.range 4).map fun f => wr .PM_DOM_FSTATE 2 0 (164 + f), enableReq (.dom 169), enableReq (.dom 170), enableReq (.dom 171)]

/-- The rails have been good for 1 ms with PKG_RESET_N high. -/
def execRailsGood (s : State) : Outcome State Fault Refusal :=
  .next <| s.perform fun s =>
    if s.domOn 168 ∧ s.rd .PM_STAT_RAILS_OK = 0 then plans [fun _ => [wr .PM_STAT_RAILS_OK 1], coldStart] s else []

/-- What domain 168 keeps through a package reset of the state no register field holds: everything of the power manager and the logs but the
progress of transitions, Dormant and tiles. -/
def resetsWithPackage (v : Var) : Bool :=
  match v with
  | .TILE_HELD | .CH_MASK | .STK_CHK | .SELF_REF | .SLOT_AT | .WAKE_LATCH | .WAKE_AT | .DORM_STAGE | .DORM_MBOX | .DOM_DIS_AT | .FUNC_AT
  | .MB_NOTIFY => true
  | _ => false

/-- Every domain but 168 goes to OFF with both latches clear and loses what it holds; with `power` RWS fields too (R446, R449). -/
def allOff (power : Bool) : Plan := fun s =>
  (if s.domOn 171 then [wv .SHADOW_BASE s.gtc, wv .SHADOW_CLK s.clock] else [])
  ++ [loseDomains power (· != 168),
      .clear (fun l => match l with
        | .var v _ _ => resetsWithPackage v
        | .reg .PM_DOM_EN _ d | .reg .PM_DOM_FSTATE _ d | .reg .PM_DOM_PEND_EN _ d | .reg .PM_DOM_PEND_DIS _ d
        | .reg .PM_DOM_SLOT_WAIT _ d => d != 168
        | .reg .TC_ID_PHYS _ _ | .reg .TC_ID_LOGICAL _ _ | .reg .TC_ID_NODE _ _ | .reg .SC_LC_DEBUG _ _ => true
        | .reg .PM_STAT_PSTATE _ _ | .reg .PM_READY_LINKS_ACTIVE _ _ | .reg .PM_READY_LINKS_HELD _ _ => true
        | _ => false),
      .clearMem (fun _ => true), .parts Parts.aux]
  ++ mailboxesRestarted

/-- A package reset (Table 19.2). -/
def packageReset (cause : Nat) : Plan := plans [allOff false, fun _ => [wr .PM_STAT_LAST_RESET cause]]

/-- The GTC stops with domain 171. -/
def State.withoutGtc (s : State) : State := { s with gtc := 0 }

/-- PKG_RESET_N has been low for 105 cycles: the package waits for R446 to be met again. -/
def execPkgResetPin (s : State) : Outcome State Fault Refusal :=
  if ¬ s.domOn 168 then .next s
  else .next (s.perform (plans [packageReset 1, fun _ => [wr .PM_STAT_RAILS_OK 0]])).withoutGtc

/-- A write of 1 to PM_CTL.PKG_RESET: cold bring-up follows at once, since R446 stays met. -/
def execPkgReset (s : State) : Outcome State Fault Refusal :=
  if ¬ s.domOn 168 then .next s
  else .next (s.perform (plans [packageReset 2, fun s => if s.rd .PM_STAT_RAILS_OK = 1 then coldStart s else []])).withoutGtc

/-- Rails leave their limits ([0] core, [1] SerDes, [2] stack): a RAIL_LOSS record, and a loss of power in every domain but 168. -/
def railLoss (rails : Nat) : Plan := plans
  [logRind 0x0200 0 0x0002 true (leBytes 4 rails), allOff true,
   fun _ => wr .PM_STAT_RAILS_OK 0 :: (List.range 4).map fun f => wr .PM_DOM_FSTATE 0 0 (164 + f)]

/-- The core, SerDes or stack rail is lost. -/
def execRailLoss (rails : BitVec 3) (s : State) : Outcome State Fault Refusal :=
  if rails = 0 ∨ ¬ s.domOn 168 then .next s else .next (s.perform (railLoss rails.toNat)).withoutGtc

/-- What outlasts a loss of aux: the write state of the log, the sealed count, spares in use, and defects of the silicon. -/
def outlastsAux (l : Loc) : Bool :=
  match l with
  | .var .WS_HEAD _ _ | .var .WS_SEQ _ _ | .var .PPR_USED _ _ | .var .TS_SPARE _ _ | .var .MX_DEFECT _ _ => true
  | .reg .BB_STAT_SEAL_USED _ _ | .reg .BB_STAT_WRAPPED _ _ => true
  | _ => false

/-- The aux rail rises: everything is at its Reset value but the fuses, the MRAM and what lies in it; the log resumes from the write-state copy
with the higher SEQ (R447, R497). With aux reversed, domain 168 stays off. -/
def execAuxPowerOn (reversed : Bool) (s : State) : Outcome State Fault Refusal :=
  let c := if s.vr .WS_SEQ 0 1 ≤ s.vr .WS_SEQ 0 0 then 0 else 1
  let t : State := { s with
    gtc := 0
    file := s.file.filter fun e => outlastsAux e.1
    mem := []
    parts := { Parts.mk0 with repairs := s.parts.repairs } }
  .next <| t.run
    ([wr .BB_HEAD_IDX (s.vr .WS_HEAD 0 c), wr .BB_SEQ_NEXT (s.vr .WS_SEQ 0 c), wr .BB_STAT_LAST_GASP (s.vr .GASP_NV)]
      ++ (if reversed then [wr .PM_DOM_FSTATE 0 0 168] else []))

/-- A reset of domain 169: OFF at once, then its start into recovery; nothing that the firmware held is left, and jobs go on (R420, R454). -/
def mgmtReset (cause : Nat) : Plan := plans
  [fun _ => [loseDomains false (· == 169),
      .clear (fun l => match l with
        | .reg .PM_DOM_FSTATE _ d | .reg .PM_DOM_PEND_EN _ d | .reg .PM_DOM_PEND_DIS _ d => d == 169
        | _ => false)] ++ mailboxesRestarted,
   enterRecovery, fun _ => [wr .PM_STAT_LAST_RESET cause], enableReq (.dom 169)]

/-- A management core's watchdog fires: an MGMT_WATCHDOG record with the core's number and the period count, and the reset. -/
def execMgmtWatchdog (core : Fin 8) (periods : BitVec 32) (s : State) : Outcome State Fault Refusal :=
  .next <| s.perform fun s =>
    if ¬ s.domOn 169 then [] else
    plans [logRind (0x0300 + core) 0 0x0005 true (Config.packData 0x0005 [core, periods.toNat]), mgmtReset 3] s

/-- An uncorrectable error in the management SRAM at an offset: an MGMT_SRAM_UE record, and the reset. -/
def execMgmtSramUe (offset : BitVec 22) (s : State) : Outcome State Fault Refusal :=
  .next <| s.perform fun s =>
    if ¬ s.domOn 169 then [] else plans [logRind 0x0200 0 0x0006 true (leBytes 8 offset.toNat), mgmtReset 4] s

/-! ### Power cap and heat (R470 to R472) -/

/-- The hottest die has reached a temperature in °C. -/
def State.dieAt (s : State) (c : Int) : Bool := decide (16 * c ≤ toSigned 16 (s.rd .PM_TEMP_DIE_MAX))

/-- Every sensor is below its threshold by HYST: the die's DIE_WARN, and each stack's TRIP. -/
def State.diesCool (s : State) : Bool := !s.dieAt ((s.rd .PM_TRIP_DIE_WARN : Int) - s.rd .PM_TRIP_HYST)

/-- Every stack is below its trip by HYST. -/
def State.stacksCool (s : State) : Bool :=
  stackDies.all fun c => s.vr .TEMP_AT c == 0
    || decide (toSigned 16 (s.rd .LS_TEMP_CUR c) < 16 * ((s.rd .LS_CTL_TRIP c : Int) - s.rd .PM_TRIP_HYST))

/-- The thermal duty: 2 on a die warning or a stack trip; one more per 1,050,000 cycles once everything is cool. -/
def thermalDuty : Plan := fun s =>
  let die := s.dieAt (s.rd .PM_TRIP_DIE_WARN)
  let stk := stackDies.any fun c => s.vr .STACK_TRIP c == 1
  let th := s.vr .THERM_DUTY
  [wr .PM_THROT_BY_DIE (if die then 1 else if s.diesCool then 0 else s.rd .PM_THROT_BY_DIE),
   wr .PM_THROT_BY_STACK (if stk then 1 else if s.stacksCool then 0 else s.rd .PM_THROT_BY_STACK)]
  ++ (if die ∨ stk then [wv .THERM_DUTY 2, wv .THERM_AT s.clock]
      else if ¬ (s.diesCool ∧ s.stacksCool) then [wv .THERM_AT s.clock]
      else if th < 8 ∧ s.vr .THERM_AT + 1050000 ≤ s.clock then [wv .THERM_DUTY (th + 1), wv .THERM_AT s.clock]
      else [])

/-- The cap duty after a sample: down by 1 where the average passes WATTS, to at most 4 after 16 samples above 1.1 × WATTS, up by 1 per
1,050,000 cycles below 0.98 × WATTS. -/
def capDuty (watts avg : Nat) : Plan := fun s =>
  let cap := s.rd .PM_CAP_WATTS
  let d := s.vr .CAP_DUTY
  let ovr := if 11 * cap < 10 * watts then min 16 (s.vr .CAP_OVER + 1) else 0
  let fall : Bool := decide (cap < avg ∧ (s.vr .CAP_FALL_AT = 0 ∨ s.vr .CAP_FALL_AT - 1 + 1050000 ≤ s.clock))
  let low : Bool := decide (100 * avg < 98 * cap)
  let rise : Bool := low && decide (d < 8 ∧ s.vr .CAP_RISE_AT + 1050000 ≤ s.clock)
  let d1 := if fall then max 1 (d - 1) else if rise then d + 1 else d
  let d2 := if ovr = 16 then min 4 d1 else d1
  [wv .CAP_OVER ovr, wv .CAP_DUTY d2, wr .PM_THROT_BY_CAP (if d2 < 8 then 1 else 0)]
  ++ (if fall then [wv .CAP_FALL_AT (s.clock + 1)] else [])
  ++ (if ¬ low ∨ rise then [wv .CAP_RISE_AT s.clock] else [])

/-- A sample of package power, with the hottest die sensor: PM_POWER and PM_TEMP, and the target duties. The average is over the samples taken, up
to 1,024. -/
def powerSample (watts die hot : Nat) : Plan := fun s =>
  if ¬ s.domOn 168 ∨ (s.vr .POW_AT ≠ 0 ∧ s.clock < s.vr .POW_AT - 1 + 1050) then [] else
  let l := (watts :: s.parts.powSamples).take 1024
  let avg := l.foldl (· + ·) 0 / l.length
  plans
   [fun s => [.parts fun p => { p with powSamples := l }, wr .PM_POWER_INST watts, wr .PM_POWER_AVG avg,
      wr .PM_POWER_PEAK (max watts (s.rd .PM_POWER_PEAK)), wr .PM_TEMP_DIE_MAX die, wr .PM_TEMP_HOT_DIE hot,
      wr .PM_TEMP_PEAK (ofSigned 16 (max (toSigned 16 die) (toSigned 16 (s.rd .PM_TEMP_PEAK)))), wv .POW_AT (s.clock + 1)],
    capDuty watts avg, thermalDuty] s

/-- A sample of package power in W and of the hottest die sensor, an i16 in 1/16 °C. -/
def execPowerSample (watts : BitVec 16) (dieMax : BitVec 16) (hotDie : Fin 25) (s : State) : Outcome State Fault Refusal :=
  .next <| s.perform (powerSample watts.toNat dieMax.toNat hotDie)

/-- A die sensor at or above DIE_WARN: its reading enters PM_TEMP and the thermal duty becomes 2; a stack trip in force does the same. -/
def execDieWarning (temp : BitVec 16) (die : Fin 25) (s : State) : Outcome State Fault Refusal :=
  .next <| s.perform fun s =>
    if ¬ s.domOn 168 ∨ toSigned 16 temp.toNat < 16 * (s.rd .PM_TRIP_DIE_WARN : Int) then [] else
    plans [fun s => [wr .PM_TEMP_DIE_MAX temp.toNat, wr .PM_TEMP_HOT_DIE die,
        wr .PM_TEMP_PEAK (ofSigned 16 (max (toSigned 16 temp.toNat) (toSigned 16 (s.rd .PM_TEMP_PEAK))))],
      if s.rd .PM_THROT_BY_DIE = 0 then raise .safety .dieWarning die else fun _ => [], thermalDuty] s

/-- D steps by 1 toward the smaller of the two duties, at most once in 128 cycles; a step interrupts the firmware by its cause, and D = 1 is
reported as a THERMAL event (R470, R471). -/
def dutyStep : Plan := fun s =>
  let d := s.rd .PM_THROT_DUTY
  let target := min (s.vr .CAP_DUTY) (s.vr .THERM_DUTY)
  if ¬ s.domOn 168 ∨ d = target ∨ (s.vr .DUTY_AT ≠ 0 ∧ s.clock < s.vr .DUTY_AT - 1 + 128) then [] else
  let d' := if d < target then d + 1 else d - 1
  let irq := (target == s.vr .CAP_DUTY && s.rd .PM_CTL_CAP_IRQ == 1) || (target == s.vr .THERM_DUTY && s.rd .PM_CTL_THERM_IRQ == 1)
  plans
   [fun s => [wr .PM_THROT_DUTY d', wv .DUTY_AT (s.clock + 1)]
      ++ (if d' < 8 then [wv .FR_THROTTLED 1] else [])
      ++ (if d = 8 then [wv .THROT_AT (s.clock + 1)]
          else if d' = 8 then [bump s .PM_THROT_CYCLES (s.clock - (s.vr .THROT_AT - 1)), wv .THROT_AT 0] else []),
    if irq then raise .safety .dutyChange d' else fun _ => [],
    fun s => if d' = 1 ∧ s.fwReady then postEvent 0x0009 0 0xFF [s.rd .PM_TEMP_HOT_DIE, s.rd .PM_TEMP_DIE_MAX] s else []] s

/-- A step of D. -/
def execDutyStep (s : State) : Outcome State Fault Refusal := .next <| s.perform dutyStep

/-- A die at DIE_CRIT, or a stack at its TRIP + 5 °C: THERMTRIP_N is asserted until aux goes, CRIT sets and a fatal record is written with PM_TEMP
and PM_STAT (R472). -/
def thermalCritical : Plan := fun s =>
  let stk := stackDies.any fun c => s.vr .TEMP_AT c != 0 && s.domOn (80 + c)
    && decide (16 * ((s.rd .LS_CTL_TRIP c : Int) + 5) ≤ toSigned 16 (s.rd .LS_TEMP_CUR c))
  if ¬ s.domOn 168 ∨ s.vr .THERMTRIP = 1 ∨ ¬ (s.dieAt (s.rd .PM_TRIP_DIE_CRIT) ∨ stk) then [] else
  plans [fun _ => [wv .THERMTRIP 1, wr .PM_STAT_CRIT 1],
    fun s => logRind 0x0200 0 0x0003 true (leBytes 8 (s.readMmio 0x018000000040) ++ leBytes 8 (s.readMmio 0x018000000010)) s] s

/-- A critical temperature, as the last samples show it. -/
def execThermalCritical (s : State) : Outcome State Fault Refusal := .next <| s.perform thermalCritical

/-! ### The field fuse bank (R456) -/

/-- The entry that PM_FUSE_DATA holds. -/
def State.fuseWord (s : State) : Nat := s.readMmio 0x018000000088

/-- A write of 1 to PM_FUSE_CTL.PROG: refused with 0x8B when every entry is used and with 0x8C while an operation runs. -/
def fuseProgram : Plan := fun s =>
  if ¬ s.domOn 168 then []
  else if 256 ≤ s.fuses.entries.length then [wr .PM_FUSE_CTL_STATUS 0x8B]
  else if s.rd .PM_FUSE_CTL_BUSY = 1 then [wr .PM_FUSE_CTL_STATUS 0x8C]
  else [wr .PM_FUSE_CTL_STATUS 0, wr .PM_FUSE_CTL_BUSY 1, wv .FUSE_WORD s.fuseWord, wv .FUSE_AT (s.clock + 105000)]

/-- PM_FUSE_CTL.PROG. -/
def execFuseProgram (s : State) : Outcome State Fault Refusal := .next <| s.perform fuseProgram

/-- Programming ends with the valid fuse: the entry is in the bank. -/
def execFuseProgramDone (s : State) : Outcome State Fault Refusal :=
  if s.domOn 168 ∧ s.rd .PM_FUSE_CTL_BUSY = 1 ∧ s.vr .FUSE_AT ≤ s.clock then
    .next { s.run [wr .PM_FUSE_CTL_BUSY 0] with fuses := { s.fuses with entries := s.fuses.entries ++ [s.vr .FUSE_WORD] } }
  else .next s

end Sys2Proof.Machine
end

