-- ==== Sys2Proof/Machine/Security.lean ====
section
/-! DEFINITION. Firmware load, the defect map, measurements, lifecycle, boundary scan and the I3C sideband (R452 to R458, R477 to R491, R500,
R522, R523). -/
namespace Sys2Proof.Machine
open Host

/-! ### Measurements (R485, R486) -/

/-- Measurement slot k. -/
def State.meas (s : State) (k : Nat) : List Byte := (List.range 4).flatMap fun i => leBytes 8 (s.rd .SC_MEAS_VALUE 0 (4 * k + i))

/-- Measurement slot k takes a 32-byte value. -/
def setMeas (k : Nat) (bs : List Byte) : List Act :=
  (List.range 4).map fun i => wr .SC_MEAS_VALUE (leNat ((bs.drop (8 * i)).take 8)) 0 (4 * k + i)

/-- Slot k is extended with a value. -/
def extendMeas (k : Nat) (v : List Byte) : Plan := fun s => bump s .SC_OPS_EXTEND 1 :: setMeas k (sha3_256 (s.meas k ++ v))

/-- A write of SC_EXT_CTL: GO extends slot 3 to 7 with SC_EXT_DATA; one that names another slot, or while BUSY is 1, is ignored and sets
REFUSED. -/
def extCtlPlan (v : Nat) : Plan := fun s =>
  let k := bitsOf v 2 0
  if s.dom 170 = 0 then [] else
  (if testB v 5 then [wr .SC_EXT_CTL_REFUSED 0] else [])
  ++ (if ¬ testB v 3 then [wr .SC_EXT_CTL_SLOT k]
      else if s.rd .SC_EXT_CTL_BUSY = 1 ∨ k < 3 then [wr .SC_EXT_CTL_REFUSED 1]
      else [wr .SC_EXT_CTL_SLOT k, wr .SC_EXT_CTL_BUSY 1, wv .EXT_SLOT k]
        ++ (List.range 4).map fun i => wv .EXT_VAL (s.rd .SC_EXT_DATA_DATA 0 i) 0 i)

/-- A write of SC_EXT_CTL. -/
def execMeasurementExtend (value : W64) (s : State) : Outcome State Fault Refusal := .next <| s.perform (extCtlPlan value.toNat)

/-- The extend ends: the slot holds its new value and BUSY clears. -/
def extDone : Plan := fun s =>
  if s.rd .SC_EXT_CTL_BUSY = 0 then [] else
  plans [extendMeas (s.vr .EXT_SLOT) ((List.range 4).flatMap fun i => leBytes 8 (s.vr .EXT_VAL 0 i)),
    fun _ => [wr .SC_EXT_CTL_BUSY 0]] s

/-- The end of an extend. -/
def execMeasurementExtendDone (s : State) : Outcome State Fault Refusal := .next <| s.perform extDone

/-! ### Identity keys (R483) -/

/-- The UDS as the derivation takes it: zeros in RMA. -/
def State.udsUsed (s : State) : List Byte := if s.fuses.lifecycle = 2 then List.replicate 32 0 else Config.uds

/-- The bytes of an ASCII text. -/
def ascii (t : List Nat) : List Byte := t.map (BitVec.ofNat 8)

/-- The seed of the DevID key: SHA3-256 of SHP-DEVID and the UDS. -/
def State.devSeed (s : State) : List Byte := sha3_256 (ascii [83, 72, 80, 45, 68, 69, 86, 73, 68] ++ s.udsUsed)

/-- The seed of the Alias key: SHA3-256 of SHP-ALIAS, the UDS and slot 0. -/
def State.aliasSeed (s : State) : List Byte := sha3_256 (ascii [83, 72, 80, 45, 65, 76, 73, 65, 83] ++ s.udsUsed ++ s.meas 0)

/-! ### Boundary scan (R489) -/

/-- The code of an instruction in TAP. -/
def tapCode : TapInstr → Nat
  | .idcode => 0
  | .bypass => 1
  | .samplePreload => 2
  | .extest => 3
  | .extestPulse => 4
  | .extestTrain => 5
  | .priv => 6

/-- The instruction that the TAP serves for the one loaded: EXTEST and its kin only in AUX_ONLY or BOOT_WAIT, a private one only while debug is
unlocked, and BYPASS otherwise. -/
def State.tapServed (s : State) : Nat :=
  let c := s.vr .TAP
  if 3 ≤ c ∧ c ≤ 5 then (if s.rd .PM_STAT_PSTATE ≤ 1 then c else 1)
  else if c = 6 then (if s.debug then 6 else 1) else c

/-- A boundary-scan instruction is loaded. -/
def execTapInstruction (instr : TapInstr) (s : State) : Outcome State Fault Refusal :=
  .next <| s.perform fun s => if s.domOn 168 then [wv .TAP (tapCode instr)] else []

/-! ### The defect map (R18, R89, R455) -/

/-- KIND, TILE, BANK, ROW and COLUMN of a fuse entry. -/
def fuseKind (w : Nat) : Nat := bitsOf w 3 0
def fuseTile (w : Nat) : Nat := bitsOf w 9 4
def fuseBank (w : Nat) : Nat := bitsOf w 25 22
def fuseRow (w : Nat) : Nat := bitsOf w 40 26
def fuseColumn (w : Nat) : Nat := bitsOf w 50 41

/-- The defective columns of tile t: those that the map retires already, and the fuse entries'. -/
def State.badColumns (s : State) (es : List Nat) (t : Nat) : List Nat :=
  (s.retired t ++ (es.filter fun w => fuseKind w == 2 && fuseTile w == t).map fuseColumn).eraseDups

/-- The rows of a tile-store bank that the entries replace. -/
def badRows (es : List Nat) (t b : Nat) : List Nat :=
  ((es.filter fun w => fuseKind w == 4 && fuseTile w == t && fuseBank w == b).map fuseRow).eraseDups

/-- Tile t is retired: by an entry, by a fifth defective column, or by a second spare row in one bank. -/
def State.retiredTile (s : State) (es : List Nat) (t : Nat) : Bool :=
  es.any (fun w => fuseKind w == 1 && fuseTile w == t) || decide (4 < (s.badColumns es t).length)
    || (List.range 16).any fun b => decide (2 ≤ (badRows es t b).length)

/-- The firmware applies the defect map: NI_MAP in all four NIs, spare columns, tile-store and stack spare rows. -/
def applyDefects (es : List Nat) : Plan := fun s =>
  let good := tiles.filter fun t => !s.retiredTile es t
  let map := (List.range 64).flatMap fun l =>
    match good[l]? with
    | some t => wr .TC_ID_LOGICAL l t :: (List.range 4).flatMap fun f => [wr .NI_MAP_PHYS t f l, wr .NI_MAP_VALID 1 f l]
    | none => (List.range 4).flatMap fun f => [wr .NI_MAP_PHYS 0 f l, wr .NI_MAP_VALID 0 f l]
  let cols := good.flatMap fun t =>
    let cs := (s.badColumns es t).take 4
    wr .MX_CAPS_SPARE_USED cs.length t :: (List.range cs.length).flatMap fun i =>
      [wr .MX_SPARE_MAP_PCOL (cs.getD i 0) t i, wr .MX_SPARE_MAP_VALID 1 t i]
  let ts := good.flatMap fun t => (List.range 16).filterMap fun b =>
    if badRows es t b = [] then none else some (wv .TS_SPARE 1 t b)
  let rows := (es.filter fun w => fuseKind w == 3).eraseDups
  let key := fun (w : Nat) => (bitsOf w 14 10, 16 * bitsOf w 21 15 + fuseBank w)
  let ppr := rows.map fun w =>
    wv .PPR_USED (max (s.vr .PPR_USED (key w).1 (key w).2) (min 2 (rows.filter fun x => key x == key w).length)) (key w).1 (key w).2
  map ++ cols ++ ts ++ ppr

/-- The firmware's part of cold bring-up (steps 4 to 7 of Table 19.1): the defect map, the stacks and the links together, and the tiles and arrays
of the tiles in service in their slots. -/
def bringUp (es : List Nat) : Plan := plans
  [applyDefects es, planAll stackDoms fun d => enableReq (.dom d),
   planAll ((List.finRange 64).map fun l => (⟨100 + l.val, by omega⟩ : Fin 174)) fun d => enableReq (.dom d),
   fun s => planAll (tileDoms.filter fun d => s.inService.contains d.val) (fun d => enableReq (.dom d)) s,
   fun s => planAll (arrayDoms.filter fun d => s.inService.contains (d.val - 40)) (fun d => enableReq (.dom d)) s]

/-! ### BOOT_IMAGE (R452, R453, R479 to R481) -/

/-- The boot ROM runs and may take an image: BOOT_WAIT or RECOVERY, mailbox 0 handed over with BOOT_IMAGE, the crypto engine on, and no EXTEST
current (R489). -/
def State.bootReady (s : State) : Bool :=
  s.domOn 169 && s.domOn 170 && (s.rd .PM_STAT_PSTATE == 1 || s.rd .PM_STAT_PSTATE == 3) && s.mbOwn 0 && s.mbCmd 0 == 0xFF01
    && !(decide (3 ≤ s.vr .TAP ∧ s.vr .TAP ≤ 5))

/-- The status of R480's checks 1 to 5 on the image whose first bytes are `img` and whose mailbox length is `len`, in order; 0 when all pass. -/
def State.bootChecks (s : State) (img : List Byte) (len : Nat) : Nat :=
  let h := leNat (img.take 64)
  let body := bitsOf h 95 64
  let slot := bitsOf h 17 16
  if s.num (mboxBase 0 + 5) 1 ≠ 3 ∨ len ≠ 5108 + body ∨ bitsOf h 15 0 ≠ 1 ∨ 3140620 < body ∨ bitsOf h 23 21 ≠ 0 ∨ bitsOf h 31 28 ≠ 0
      ∨ bitsOf h 63 39 ≠ 0 ∨ bitsOf h 511 96 ≠ 0 then 0x84
  else if testB s.fuses.blank slot ∨ testB s.fuses.revoked slot then 0x8A
  else if leNat (sha3_256 ((img.drop 64).take 1312)) ≠ Config.keyHash slot % 2 ^ 256 then 0x8A
  else if bitsOf h 38 32 < s.fuses.svn then 0x8A
  else if ¬ (s.fuses.lifecycle = 1 ∨ s.fuses.lifecycle = 2) ∨ (testB h 20 ∧ s.fuses.lifecycle ≠ 1) then 0x8A
  else 0

/-- Check 6: the signature verifies over the signed bytes under FW_KEY. -/
def imageSigned (img : List Byte) : Bool :=
  let body := bitsOf (leNat (img.take 64)) 95 64
  Config.mldsaVerify ((img.drop 64).take 1312) (img.take (2688 + body)) ((img.drop (2688 + body)).take 2420)

/-- The fuses after a boot: ENTER_RMA, the revoked slots apart from the image's own, and the SVN when it is committed. -/
def fusesAfterBoot (f : Fuses) (h : Nat) : Fuses :=
  { f with
    lifecycle := if testB h 20 then 2 else f.lifecycle
    revoked := f.revoked ||| clrB (bitsOf h 27 24) (bitsOf h 17 16)
    svn := if testB h 19 then max f.svn (min 64 (bitsOf h 38 32)) else f.svn }

/-- A refused image: a BOOT_REFUSED record, BOOT_FAILS, the window cleared, and recovery. -/
def bootRefused (st : Nat) : Plan := plans
  [fun s => [wr .SC_BOOT_LAST_STATUS st, bump s .PM_STAT_BOOT_FAILS 1],
   fun s => logRind 0x0400 st 0x0007 false (Config.packData 0x0007 [st, s.rd .PM_STAT_BOOT_FAILS]) s,
   enterRecovery, mailboxReturn 0 st [] 0]

/-- A verified image starts: the measurement slots and boot fields, and the firmware, which brings the package up unless a tile has already left
OFF since the package reset. Repairs not yet recorded enter the field fuse bank first (R302, log entry 45). -/
def bootStarts (img : List Byte) (es : List Nat) : Plan := fun s =>
  let h := leNat (img.take 64)
  let dbg := testB h 18 || s.fuses.lifecycle == 2
  plans
   [fun _ => setMeas 0 (sha3_256 (img.take (2688 + bitsOf h 95 64))),
    fun _ => [wr .SC_BOOT_KEY_SLOT (bitsOf h 17 16), wr .SC_BOOT_SVN (bitsOf h 38 32), wr .SC_BOOT_DEBUG_ALLOW (bitOf h 18),
      wr .SC_BOOT_VERIFIED 1, wr .SC_BOOT_LAST_STATUS 0, wr .SC_LC_DEBUG (bitOf h 18)],
    if s.vr .NI_MAP_SHUT = 0 then bringUp es else fun _ => [],
    fun t => setMeas 1 (sha3_256
        ((([s.fuses.lifecycle, s.fuses.svn, s.fuses.revoked, b1 dbg, bitsOf h 17 16, t.inService.length, 0, 0] : List Nat)).map (BitVec.ofNat 8)))
      ++ (List.range 5).flatMap fun k => setMeas (3 + k) (List.replicate 32 0),
    fun _ => [wr .PM_STAT_PSTATE 4, wr .MB_STAT_FW_READY 1, wr .MB_STAT_IFVER_MAJOR 3, wr .MB_STAT_IFVER_MINOR 1,
      .parts fun p => { p with repairs := [] }],
    mailboxReturn 0 0 [] 0] s

/-- BOOT_IMAGE with the bytes that the host has written to the load window: the boot ROM acknowledges mailbox 0, checks the image and starts it or
enters recovery. -/
def execBootImage (image : List Byte) (s : State) : Outcome State Fault Refusal :=
  if ¬ s.bootReady then .next s else
  let len := s.mbArg 0 0 4
  let img := image.take len ++ List.replicate (len - image.length) 0
  let ack : Plan := fun s =>
    putNum (mboxBase 0 + 16) 8 s.gtc ++ [.byte (mboxBase 0) ((s.byte (mboxBase 0)) ||| 2), wr .MB_PEND_PEND (clrB (s.rd .MB_PEND_PEND) 0)]
  let st5 := s.bootChecks img len
  let st := if st5 ≠ 0 then st5 else if imageSigned img then 0 else 0x8A
  let looked : Plan := fun s => if st5 ≠ 0 then [] else [bump s .SC_OPS_VERIFY 1]
  if st ≠ 0 then .next (s.perform (plans [ack, looked, bootRefused st]))
  else
    let h := leNat (img.take 64)
    let es := (s.fuses.entries ++ s.parts.repairs).take 256
    let t : State := { s with fuses := { fusesAfterBoot s.fuses h with entries := es } }
    .next (t.perform (plans [ack, looked, fun _ => clearSram :: putBytes sramBase (img.take sramSize), bootStarts img es]))

/-! ### The rennet image (R457, R458, R482) -/

/-- The bytes that a rennet image's signature covers: its header and both images. -/
def rennetSigned (r : RennetImage) : List Byte :=
  Config.rennetHeader r.format.toNat r.imem.length r.dmem.length r.entry.toNat r.digest ++ r.imem ++ r.dmem

/-- RENNET_KEY of the running firmware image, which the management SRAM holds. -/
def State.rennetKey (s : State) : List Byte := s.bytes (sramBase + 1376) 1312

/-- A rennet image passes: FORMAT, sizes, the digest of both images, and the signature under RENNET_KEY. -/
def State.rennetGood (s : State) (r : RennetImage) : Bool :=
  r.format == 1 && decide (r.imem.length ≤ 65536 ∧ r.dmem.length ≤ 65536) && r.digest == sha3_256 (r.imem ++ r.dmem)
    && Config.mldsaVerify s.rennetKey (rennetSigned r) r.sig

/-- A rennet image is verified: one that passes extends slot 2 and becomes the firmware's verified copy; a refused one is recorded. -/
def takeRennet (r : RennetImage) : Plan := fun s =>
  plans
   [fun s => [bump s .SC_OPS_VERIFY 1],
    if s.rennetGood r then plans [extendMeas 2 (sha3_256 (rennetSigned r)), fun _ =>
      [.parts fun p => { p with rennet := some ⟨r.entry.toNat, r.imem, r.dmem⟩ }]]
    else fun s => queueRind (s.rindRec s.gtc 0x0500 (Config.fwKind 3 % 256) (0x0100 + Config.fwKind 2 % 0x7F00) false false
      (Config.packData 2 [])) s] s

/-- The rennet load: the image of the firmware's own rennet section, if one is given, is verified first; then the verified copy goes to every tile
in service that does not run it, once all their domains are ON. A tile whose check fails stays halted and is retired at the next bring-up. -/
def rennetLoad (image : Option RennetImage) (bad : List Tile) : Plan := plans
  [fun s => match image with | some r => if s.fwReady then takeRennet r s else [] | none => [],
   fun s =>
    let ts := s.inService.filter fun t => s.vr .TILE_HELD t == 0
    match s.parts.rennet with
    | none => []
    | some r =>
      if (s.rd .PM_STAT_PSTATE = 4 ∨ s.rd .PM_STAT_PSTATE = 7) ∧ ts.all fun t => s.domOn t then
        planAll (ts.filter fun t => s.vr .RENNET_RUN t == 0) (fun t =>
          if bad.any (fun b => b.val == t) then fun _ =>
            [.parts fun p => { p with repairs := p.repairs ++ [packFields [(0, 1), (4, t)]] }]
          else loadRennet t r) s
      else []]

/-- The rennet load of the package. -/
def execRennetLoad (image : Option RennetImage) (badTiles : List Tile) (s : State) : Outcome State Fault Refusal :=
  .next <| s.perform (rennetLoad image badTiles)

/-! ### Lifecycle (R487) -/

/-- A write of SC_LC.SCRAP: in RMA the lifecycle becomes SCRAPPED. -/
def execLifecycleScrap (s : State) : Outcome State Fault Refusal :=
  if s.fuses.lifecycle = 2 ∧ s.dom 170 ≠ 0 then .next { s with fuses := { s.fuses with lifecycle := 3 } } else .next s

/-! ### The I3C sideband (R500, R522) -/

/-- Bus activity, and a change of state. -/
def i3c (p : Plan) : Plan := fun s => if ¬ s.domOn 168 then [] else plans [fun s => [wv .I3C_BUS_AT s.clock, wv .I3C_SEEN 1], p] s

/-- A private write of 4 bytes: the pointer. -/
def execI3cPointerWrite (pointer : BitVec 32) (s : State) : Outcome State Fault Refusal :=
  .next <| s.perform <| i3c fun _ => [wv .I3C_PTR pointer.toNat]

/-- A private write of 5 bytes: with P = 0x0400_0008 and byte 4 equal to 2 it writes PM_CTL.WAKE; any other is NACKed. -/
def execI3cWakeWrite (pointer : BitVec 32) (data : Byte) (s : State) : Outcome State Fault Refusal :=
  .next <| s.perform <| i3c fun s =>
    if pointer = 0x04000008 ∧ data = 2 then
      wv .I3C_PTR pointer.toNat :: wake 3 (s.rd .PM_DORM_WAKE_I3C_EN == 1) s
    else []

/-- The byte at pointer P: the MRAM records, the PM_ and the BB_ block, and 0xFF elsewhere. -/
def State.i3cByte (s : State) (p : Nat) : Byte :=
  if p < 0x04000000 then (s.recordBytes (p / 64)).getD (p % 64) 0
  else
    let o := p % 0x1000
    let word := fun (base : Nat) => BitVec.ofNat 8 (s.readMmio (base + o / 8 * 8) >>> (8 * (o % 8)))
    if p < 0x04001000 then word 0x018000000000
    else if p < 0x04002000 then word 0x018000040000
    else 0xFF

/-- A private read of n bytes. -/
def execI3cPrivateRead (count : BitVec 16) (s : State) : Outcome State Fault Refusal :=
  .next <| s.perform <| i3c fun s =>
    let n := count.toNat
    let p := s.vr .I3C_PTR
    [.parts fun x => { x with i3cOut := (List.range n).map fun k => s.i3cByte ((p + k) % 2 ^ 32) }, wv .I3C_PTR (p + n)]

/-- ENTDAA or SETDASA assigns the dynamic address. -/
def execI3cDynamicAddress (address : BitVec 7) (s : State) : Outcome State Fault Refusal :=
  .next <| s.perform <| i3c fun _ => [wv .I3C_DYN (address.toNat + 1)]

/-- GETSTATUS: bit 8 is the swap; the other bits are those of MIPI I3C Basic, which the spec does not give: free. -/
def execI3cGetstatus (s : State) : Outcome State Fault Refusal :=
  .next <| s.perform <| i3c fun s =>
    let x := s.fresh 60
    [takeFresh s, .parts fun p => { p with i3cOut := leBytes 2 (putBits (x % 65536) 8 1 (s.vr .I3C_SWAP)) }]

/-- At the start of domain 168 and after 1,048,576 cycles of silence the target watches the lines: 16 or more edges on SDA with SCL steady are swapped
lines, which it exchanges. -/
def execI3cSwapDetect (edges : BitVec 16) (s : State) : Outcome State Fault Refusal :=
  .next <| s.perform fun s =>
    if s.domOn 168 ∧ (s.vr .I3C_SEEN = 0 ∨ s.vr .I3C_BUS_AT + 1048576 ≤ s.clock) ∧ 16 ≤ edges.toNat then
      [wv .I3C_SWAP 1, wv .I3C_SEEN 1, wv .I3C_BUS_AT s.clock]
    else []

end Sys2Proof.Machine
end

