-- ==== Sys2Proof/Machine/Tree.lean ====
section
/-! DEFINITION. The tree broadcast (R459 to R462) as the firmware of one package takes part in it: rennet images, launch arms and cancels. -/
namespace Sys2Proof.Machine
open Host

/-- The broadcast of an identifier, if the package holds it. -/
def State.bcast (s : State) (ident : BitVec 32) : Option BState := s.parts.bcasts.find? fun b => b.msg.ident == ident

/-- The broadcast of an identifier changes. -/
def bcastSet (ident : BitVec 32) (f : BState → BState) : Act :=
  .parts fun p => { p with bcasts := p.bcasts.map fun b => if b.msg.ident = ident then f b else b }

/-- The firmware sends a message to another package in class 3. -/
def fwSend (dst : BitVec 16) (w : FwWhat) : Act := .parts fun p => { p with fwOut := p.fwOut ++ [⟨dst, w⟩] }

/-- The lowest free launch slot. -/
def State.freeSlot (s : State) : Option Nat := (List.range 4).find? fun k => s.rd .GT_LAUNCH_CTL_STATE 0 k == 0

/-- The firmware loads an arm message into a free slot and arms it, with its frame schedule in the same write (R60). -/
def armSlot (job depth l k : Nat) (sched : Option SchedMsg) (slot : Nat) : Plan := plans
  [fun s => if s.domOn 171 then
      (match sched with
       | some x => [wr .GT_FRAME_LEN_LEN x.len.toNat, wr .GT_FRAME_BASE_BASE x.base.toNat, wr .GT_FRAME_NUM_BASE_NUM x.number.toNat]
       | none => [])
      ++ [wr .GT_LAUNCH_AT_L l 0 slot, wr .GT_LAUNCH_CUTOFF_K k 0 slot]
    else [],
   launchArmPlan slot (packFields [(0, job), (11, 1), (15, if sched.isSome then 1 else 0)]) depth]

/-- A cancel of a job: every slot of it that is not Idle takes it (R62, R443). -/
def cancelJob (job node : Nat) : Plan :=
  planAll (List.range 4) fun k => fun s =>
    if s.rd .GT_LAUNCH_CTL_STATE 0 k ≠ 0 ∧ s.rd .GT_LAUNCH_CTL_JOB 0 k = job then launchCancelPlan k node s else []

/-- What a broadcast does on the package that receives it. -/
def takeContent : BContent → Plan
  | .rennet r => takeRennet r
  | .arm job depth l k sched => fun s =>
    match s.freeSlot with
    | some slot => armSlot job depth.toNat l.toNat k.toNat sched slot s
    | none => []
  | .cancel job node => cancelJob job node.toNat

/-- The own node ID. -/
def State.self16 (s : State) : BitVec 16 := BitVec.ofNat 16 (s.node 0)

/-- A rennet image that the package refused goes into its report. -/
def refusedHere (s : State) (c : BContent) : List (BitVec 16) :=
  match c with
  | .rennet r => if s.rennetGood r then [] else [s.self16]
  | _ => []

/-- A message enters the list of broadcasts held, and is forwarded to the children of the package in the tree and to those that it has adopted. -/
def holdBcast (m : BMsg) (parent : Option (BitVec 16)) (children : List (BitVec 16)) (refused : List (BitVec 16)) : Plan := fun s =>
  let adopted := (s.parts.adoptWait.filter fun x => x.1 == m.ident).map (·.2)
  let cs := (children ++ adopted).eraseDups
  [.parts fun p => { p with
      adoptWait := p.adoptWait.filter fun x => x.1 != m.ident
      bcasts := p.bcasts ++ [⟨m, parent, cs.map fun c => ⟨c, s.gtc, 0⟩, [], ⟨[], [], refused⟩, false⟩] }]
  ++ cs.map fun c => fwSend c (.bcast m)

/-- A message that the root has to broadcast starts at it: the oldest of those that wait, or a rennet image. -/
def rootStarts (m : BMsg) (children : List (BitVec 16)) : Plan := fun s =>
  match m.content with
  | .rennet _ => holdBcast m none children [] s
  | _ =>
    if s.parts.bcastOut.head? = some m.content then
      plans [fun _ => [.parts fun p => { p with bcastOut := p.bcastOut.drop 1 }], holdBcast m none children []] s
    else []

/-- The last piece of a broadcast is in: a hop acknowledgement goes to the sender, and a message not yet held is forwarded and processed (R460).
With no sender the package is the root and starts it. `children` are its children in the tree that the firmware builds (R459). -/
def treeBroadcast (src : Option (BitVec 16)) (m : BMsg) (children : List (BitVec 16)) : Plan := fun s =>
  if ¬ s.fwReady then [] else
  match src with
  | none => if (s.bcast m.ident).isSome then [] else rootStarts m children s
  | some f =>
    let held := s.parts.bcasts.any fun b => b.msg.ident == m.ident && b.msg.digest == m.digest
    plans [fun _ => [fwSend f (.hopAck m.ident)],
      if held then fun _ => [] else plans [holdBcast m (some f) children (refusedHere s m.content), takeContent m.content]] s

/-- A tree broadcast reaches the package, or starts at it. -/
def execTreeBroadcast (src : Option (BitVec 16)) (msg : BMsg) (children : List (BitVec 16)) (s : State) : Outcome State Fault Refusal :=
  .next <| s.perform (treeBroadcast src msg children)

/-- A hop acknowledgement from a child, or from an alternate parent for the ADOPT that named a package. -/
def execHopAck (sender : BitVec 16) (ident : BitVec 32) (named : Option (BitVec 16)) (s : State) : Outcome State Fault Refusal :=
  .next <| s.perform fun s =>
    if ¬ s.fwReady then [] else
    match named with
    | none => [bcastSet ident fun b => { b with
        children := b.children.map fun c => if c.node = sender ∧ c.state = 0 then { c with state := 1 } else c }]
    | some y => [bcastSet ident fun b => { b with adopts := b.adopts.filter fun a => !(a.node == y && a.parent == sender) }]

/-- A failure is known at the root in the decision window of an arm message: the root cancels the slot and broadcasts the cancel (R63). -/
def rootCancel (b : BState) (node : BitVec 16) : Plan := fun s =>
  match b.parent, b.msg.content with
  | none, .arm job _ _ _ _ =>
    (planAll (List.range 4) fun k => fun s =>
      if s.domOn 171 ∧ s.rd .GT_LAUNCH_CTL_STATE 0 k = 1 ∧ s.rd .GT_LAUNCH_CTL_JOB 0 k = job.val
          ∧ gtcBefore s.gtc (s.rd .GT_LAUNCH_CUTOFF_K 0 k) then
        cancelSlot k node.toNat s ++ [.parts fun p => { p with bcastOut := p.bcastOut ++ [.cancel job node] }]
      else []) s
  | _, _ => []

/-- No hop acknowledgement within T_ack: the child is failed, which is recorded and reported; each child of it is named to its alternate parent by
ADOPT, or is unreached where it has none (R461). -/
def hopTimeout (child : BitVec 16) (ident : BitVec 32) (orphans : List Orphan) : Plan := fun s =>
  match s.bcast ident with
  | none => []
  | some b =>
    if ¬ s.fwReady ∨ ¬ b.children.any (fun c => c.node == child && c.state == 0 && decide (c.sentAt + s.tAck ≤ s.gtc)) then [] else
    plans
     [fun s => bcastSet ident (fun b => { b with
          children := b.children.map fun c => if c.node = child then { c with state := 3 } else c
          adopts := b.adopts ++ orphans.filterMap fun o => o.alternate.map fun a => ⟨o.node, a, s.gtc⟩
          report := { b.report with
            failed := b.report.failed ++ [child]
            unreached := b.report.unreached ++ (orphans.filter fun o => o.alternate.isNone).map (·.node) } })
        :: orphans.filterMap fun o => o.alternate.map fun a => fwSend a (.adopt ident o.node),
      fun s => queueRind (s.rindRec s.gtc 0x0500 (Config.fwKind 5 % 256) (0x0100 + Config.fwKind 4 % 0x7F00) false false
        (Config.packData 4 [child.toNat])) s,
      rootCancel b child] s

/-- The hop-acknowledgement timeout of a child. `orphans` are the child's children with their alternate parents, as the tree gives them. -/
def execHopAckTimeout (child : BitVec 16) (ident : BitVec 32) (orphans : List Orphan) (s : State) : Outcome State Fault Refusal :=
  .next <| s.perform (hopTimeout child ident orphans)

/-- ADOPT names a package to its alternate parent, which acknowledges it, sends the broadcast there and becomes its parent for this broadcast; one
that does not hold the broadcast yet does so when it arrives. -/
def adopt (sender : BitVec 16) (ident : BitVec 32) (named : BitVec 16) : Plan := fun s =>
  if ¬ s.fwReady then [] else
  fwSend sender (.adoptAck ident named) ::
    match s.bcast ident with
    | none => [.parts fun p => { p with adoptWait := p.adoptWait ++ [(ident, named)] }]
    | some b =>
      if b.children.any fun c => c.node == named then []
      else [bcastSet ident fun b => { b with children := b.children ++ [⟨named, s.gtc, 0⟩], reported := false }, fwSend named (.bcast b.msg)]

/-- An ADOPT arrives. -/
def execAdopt (sender : BitVec 16) (ident : BitVec 32) (named : BitVec 16) (s : State) : Outcome State Fault Refusal :=
  .next <| s.perform (adopt sender ident named)

/-- An ADOPT goes unacknowledged for T_ack: the named package's subtree is unreached. -/
def execAdoptTimeout (ident : BitVec 32) (named : BitVec 16) (s : State) : Outcome State Fault Refusal :=
  .next <| s.perform fun s =>
    let due := fun (a : Adopt) => a.node == named && decide (a.since + s.tAck ≤ s.gtc)
    if ¬ s.fwReady then [] else
    [bcastSet ident fun b => if b.adopts.any due then { b with
        adopts := b.adopts.filter fun a => !due a
        report := { b.report with unreached := b.report.unreached ++ [named] } } else b]

/-- Every child has reported or failed, and every ADOPT is settled. -/
def BState.settled (b : BState) : Bool := b.children.all (fun c => decide (2 ≤ c.state)) && b.adopts.isEmpty

/-- A child's report registers, if one is given; once every child has reported or failed, the package's own report goes to its parent, and at the root
the broadcast is complete (R462). -/
def subtreeReport (ident : BitVec 32) (child : Option (BitVec 16)) (rep : SubReport) : Plan := plans
  [fun s =>
    match child, s.bcast ident with
    | some c, some b =>
      if ¬ s.fwReady ∨ ¬ b.children.any (fun x => x.node == c && decide (x.state ≤ 1)) then [] else
      plans [fun _ => [bcastSet ident fun b => { b with
          children := b.children.map fun x => if x.node = c then { x with state := 2 } else x
          report := ⟨b.report.failed ++ rep.failed, b.report.unreached ++ rep.unreached, b.report.refused ++ rep.refused⟩ }],
        match rep.failed with | n :: _ => rootCancel b n | [] => fun _ => []] s
    | _, _ => [],
   fun s =>
    match s.bcast ident with
    | none => []
    | some b =>
      if ¬ s.fwReady ∨ b.reported ∨ ¬ b.settled then [] else
      bcastSet ident (fun b => { b with reported := true })
        :: (match b.parent with | some p => [fwSend p (.report ident b.report)] | none => [])]

/-- A subtree report. -/
def execSubtreeReport (ident : BitVec 32) (child : Option (BitVec 16)) (report : SubReport) (s : State) : Outcome State Fault Refusal :=
  .next <| s.perform (subtreeReport ident child report)

end Sys2Proof.Machine
end

