-- ==== Sys2Proof/Machine/Manage.lean ====
section
/-! DEFINITION. The firmware's work: host mailboxes, management periods, telemetry, and the commands that name no job (R422 to R441, R499, R509,
R510). -/
namespace Sys2Proof.Machine
open Host

/-! ### Handing a mailbox over (R427, R429, R435) -/

/-- What the host stores to a mailbox before OWN = 1. -/
def mailboxWrite (m seq cmd ifver reqLen tag : Nat) (payload : List Byte) : List Act :=
  let b := mboxBase m
  putBytes (b + 64) (payload.take 4032) ++ putNum (b + 8) 8 reqLen ++ putNum (b + 16) 16 0 ++ putNum (b + 32) 8 tag
    ++ putNum b 8 (packFields [(0, 1), (8, seq), (16, cmd), (40, ifver)])

/-- A host store of OWN = 1 from an Aqord port: while domain 169 is off it is discarded and may wake the package; it is discarded and counted from
the port that does not own the mailbox, or while the firmware holds it; otherwise the mailbox is handed over. -/
def handover (m port : Nat) (writes : List Act) : Plan := fun s =>
  if ¬ s.domOn (172 + port) then []
  else if ¬ s.domOn 169 then wake 1 (s.rd .PM_DORM_WAKE_HOST_EN == 1 && s.dom 169 == 0) s
  else if bitOf (s.rd .MB_PORT_MAP_PORT) m ≠ port then [bump s .MB_VIOL_PORT 1]
  else if s.mbOwn m then [bump s .MB_VIOL_HOST_WR 1]
  else writes ++ [wr .MB_OWN_OWN (setB (s.rd .MB_OWN_OWN) m), wr .MB_PEND_PEND (setB (s.rd .MB_PEND_PEND) m), wv .MB_AT s.clock 0 m,
    wv .MB_BEGUN 0 0 m]

/-- The host hands mailbox m over with a command and its payload. -/
def execMailboxHandover (mailbox : Fin 64) (port : Fin 2) (seq : BitVec 8) (cmd : BitVec 16) (ifver : BitVec 8) (reqLen : BitVec 16) (tag : W64)
    (payload : List Byte) (s : State) : Outcome State Fault Refusal :=
  .next <| s.perform
    (handover mailbox port (mailboxWrite mailbox seq.toNat cmd.toNat ifver.toNat reqLen.toNat tag.toNat payload))

/-! ### Functions by FUNC code (Table 18.6) -/

/-- The tile of a logical number below N. -/
def State.tileAt (s : State) (l : Nat) : Option Tile := (s.physOf l).bind fun t => if h : t < 40 then some ⟨t, h⟩ else none

/-- The function that a FUNC code names. -/
def State.funcOf (s : State) (code : Nat) : Option Func :=
  let n := code % 256
  match code / 256 with
  | 0 => if h : n < 174 then some (.dom ⟨n, h⟩) else none
  | 1 => (s.tileAt n).map .vx
  | 2 => (s.tileAt n).map .sv
  | 3 => (s.tileAt n).map .fs
  | 4 => (s.tileAt n).map .dm
  | 5 => (s.tileAt n).map .ce
  | 6 => some .scrub
  | _ => none

/-- FUNC_SET does not serve domains 164 to 169 and 171 (R469). -/
def funcRefused (code : Nat) : Bool := decide (164 ≤ code ∧ code ≤ 169) || code == 171

/-! ### Acknowledgement (R430, R433) -/

/-- The cycles of 8 frames, or of 8 × 2^20 without a schedule (R426). -/
def State.eightFrames (s : State) : Nat := 8 * (if s.scheduled then s.rd .GT_FRAME_CUR_LEN else 2 ^ 20)

/-- The commands of Table 18.6. -/
def cmdKnown (c : Nat) : Bool :=
  [0x0001, 0x0002, 0x0003, 0x0101, 0x0102, 0x0103, 0x0104, 0x0201, 0x0202, 0x0203, 0x0204, 0x0205, 0x0206, 0x0301, 0x0302, 0x0303, 0x0304, 0x0305,
   0x0306, 0x0307, 0x0308, 0x0309, 0x0401, 0x0402, 0x0403, 0x0501].contains c

/-- A telemetry counter group of Table 21.7. -/
def State.groupKnown (s : State) (g : Nat) : Bool := decide (g ≤ 5) || (g / 256 == 1 && decide (g % 256 < s.inService.length))

/-- A mask names logical tiles below N only. -/
def State.maskFits (s : State) (mask : Nat) : Bool := decide (mask < 2 ^ s.inService.length)

/-- A GTC value is a tick of the schedule in force. -/
def State.isTick (s : State) (v : Nat) : Bool :=
  s.scheduled && ((v + 2 ^ 64 - s.rd .GT_TICK_NEXT_VALUE) % 2 ^ 64) % s.rd .GT_FRAME_CUR_LEN == 0

/-- A job context that is set up. -/
def State.jobAt (s : State) (j : Nat) : Option Job := if j < 64 then s.parts.jobs.find j else none

/-- A request field of the command in mailbox m lies outside its range, or it names a job context that is not set up (R433). -/
def State.reqBad (s : State) (m : Nat) : Bool :=
  let a := s.mbArg m
  match s.mbCmd m with
  | 0x0101 => (s.funcOf (a 0 2)).isNone || funcRefused (a 0 2) || decide (1 < a 2 1)
  | 0x0102 => (s.funcOf (a 0 2)).isNone
  | 0x0103 => decide (a 0 2 < 400 ∨ 1600 < a 0 2)
  | 0x0202 => decide (a 0 2 < 1 ∨ 251 < a 0 2)
  | 0x0203 => decide (3 < a 0 1 ∨ 15 < a 1 1 ∨ 3 < a 2 1) || (a 2 1 == 1 && decide (15 < a 4 4))
      || (a 2 1 == 2 && decide (a 4 4 < 1 ∨ 4 < a 4 4))
  | 0x0204 => decide (3 < a 0 1 ∨ 1 < a 1 1)
  | 0x0205 => decide (63 < a 0 1 ∨ 65535 < a 8 2 ∨ 1 < a 20 1)
  | 0x0206 => decide (63 < a 0 1) || !s.isTick (a 8 8) || decide ((a 8 8 + 2 ^ 64 - s.gtc) % 2 ^ 64 < 52500)
  | 0x0301 => decide (63 < a 16 1 ∨ 1 < a 17 1 ∨ a 18 2 = 0) || (s.jobAt (a 16 1)).isSome
  | 0x0302 => (s.jobAt (a 0 1)).isNone || decide (1 < a 2 1) || (match s.jobAt (a 0 1) with | some j => gtcBefore s.gtc j.readyAt | none => false)
  | 0x0303 => (s.jobAt (a 0 1)).isNone
  | 0x0304 => (s.jobAt (a 0 1)).isNone
  | 0x0305 => !s.maskFits (a 0 8) || a 16 4 % 0x1000 != 0
  | 0x0306 => !s.maskFits (a 0 8) || decide (1 < a 8 1)
  | 0x0307 => (s.jobAt (a 0 1)).isNone || (a 8 8 != 0 && decide (a 8 8 < s.eightFrames)) || a 16 1 == 0 || decide (1 < a 17 1)
      || decide (a 18 1 < 1 ∨ 4 < a 18 1)
  | 0x0401 => !s.groupKnown (a 0 2)
  | 0x0402 => decide (a 4 2 < 1 ∨ 62 < a 4 2 ∨ 2 ^ 20 ≤ a 0 4)
  | 0x0501 => decide (s.mbReqLen m < 4)
  | _ => false

/-- DONE_BY at acknowledgement: the latest GTC of completion; where the table states none it is free. -/
def State.doneBy (s : State) (m : Nat) : Nat :=
  match s.mbCmd m with
  | 0x0001 | 0x0002 | 0x0102 | 0x0309 => s.gtc
  | 0x0003 | 0x0103 | 0x0201 | 0x0202 | 0x0203 | 0x0204 | 0x0205 | 0x0206 | 0x0401 | 0x0402 => s.gtc + 52500
  | 0x0301 | 0x0302 | 0x0303 | 0x0304 | 0x0305 | 0x0306 | 0x0307 | 0x0308 | 0x0501 => s.gtc + s.eightFrames
  | _ => s.fresh 61

/-- Mailbox m is acknowledged, and returned with 0x84 where R433 says so. -/
def ackMailbox (m : Nat) : Plan := plans
  [fun s => putNum (mboxBase m + 16) 8 s.gtc ++ putNum (mboxBase m + 24) 8 (s.doneBy m)
      ++ [.byte (mboxBase m) ((s.byte (mboxBase m)) ||| 2), wr .MB_PEND_PEND (clrB (s.rd .MB_PEND_PEND) m),
          wr .MB_ACK_MAX_CYCLES (max (s.rd .MB_ACK_MAX_CYCLES) (s.clock - s.vr .MB_AT 0 m)), takeFresh s],
   fun s =>
    if ¬ cmdKnown (s.mbCmd m) ∨ 4032 < s.mbReqLen m ∨ s.num (mboxBase m + 5) 1 ≠ 3 ∨ s.reqBad m then mailboxReturn m 0x84 [] s.gtc s else []]

/-! ### Management periods (R422 to R426) -/

/-- A management period starts in this cycle: at a tick and every 26,250 cycles after it, or at every multiple of 26,250 without a schedule. -/
def State.periodDue (s : State) : Bool :=
  s.fwReady && s.vr .PERIOD_AT != s.gtc + 1
    && (if s.scheduled then
          s.atTick || ((s.gtc + s.rd .GT_FRAME_CUR_LEN + 2 ^ 64 - s.rd .GT_TICK_NEXT_VALUE) % 2 ^ 64) % 26250 == 0
        else s.gtc % 26250 == 0)

/-- Mailbox m holds a telemetry command that was acknowledged before the period that ends and has not been returned. -/
def State.telemWaits (s : State) (m since : Nat) : Bool :=
  s.mbOwn m && s.mbAck m && (s.mbCmd m == 0x0401 || s.mbCmd m == 0x0402) && decide (s.num (mboxBase m + 16) 8 < since)

/-- The end of a period: telemetry that was ready at its start and has not started raises TELEM_SHIFT; 64 calm periods lower it (R425). -/
def periodEnd : Plan := fun s =>
  if s.vr .PERIOD_AT = 0 then [] else
  let start := s.vr .PERIOD_AT - 1
  let old := s.parts.work.filter fun w => decide (w.since ≤ start)
  let overload := old.any (fun w => w.cls == .telemetry) || mboxes.any (fun m => s.telemWaits m start)
    || decide (8 * 2 ^ s.rd .MB_STAT_TELEM_SHIFT < s.vr .PERIOD_CNT)
  let calm := if old.isEmpty && !overload then s.vr .CALM + 1 else 0
  let sh := s.rd .MB_STAT_TELEM_SHIFT
  let sh' := if overload then min 10 (sh + 1) else if calm = 64 then sh - 1 else sh
  [wr .MB_STAT_TELEM_SHIFT sh', wr .MB_STAT_BUSY (if sh' = 0 then 0 else 1), wv .CALM (if calm = 64 then 0 else calm)]

/-- The order in which the cores take work. -/
def classOrder (w : WorkItem) : Nat := match w.cls with | .safety => 0 | .fabric => 1 | .job => 2 | .telemetry => 3

/-- The first n items in class order, oldest first in a class, have started. -/
def startItems (n : Nat) : Plan := fun s =>
  let sorted := (List.range 4).flatMap fun c => s.parts.work.filter fun w => classOrder w == c
  [.parts fun p => { p with work := sorted.drop n }]

/-- A management period starts: the end of the one before, the acknowledgement pass in ascending order, and the work that the cores start in it. -/
def managementPeriod (started : Nat) : Plan := fun s =>
  if ¬ s.periodDue then [] else
  plans
   [periodEnd, fun s => [wv .PERIOD_AT (s.gtc + 1), wv .PERIOD_CNT (s.vr .PERIOD_CNT + 1)],
    planAll (mboxes.filter fun m => testB (s.rd .MB_PEND_PEND) m) ackMailbox, startItems started] s

/-- A management period, in which the cores start `started` items of the work that waits. -/
def execManagementPeriod (started : BitVec 16) (s : State) : Outcome State Fault Refusal := .next <| s.perform (managementPeriod started.toNat)

/-- The firmware serves an acknowledged command in mailbox m. -/
def State.serves (s : State) (m cmd : Nat) : Bool := s.fwReady && s.mbOwn m && s.mbAck m && s.mbCmd m == cmd

/-- A command that is carried out and returned in one step: its work, and its status and response from the state the work leaves. -/
def command (m cmd : Nat) (work : Plan) (answer : State → Nat × List Byte) : Plan := fun s =>
  if ¬ s.serves m cmd then [] else
  plans [work, fun s => mailboxReturn m (answer s).1 (answer s).2 s.gtc s] s

/-! ### Telemetry (R509, R510, R499) -/

/-- The word of a named register. -/
def State.regWord (s : State) (b : Blk) (n : Nat) (name : String) (j : Nat := 0) : Nat :=
  match regTable.find? fun r => r.blk == b && r.name == name with
  | some r => s.readRow r n j
  | none => 0

/-- The registers of a counter group, in the order of Table 21.7. -/
def State.groupWords (s : State) (g : Nat) : List Nat :=
  let w := fun (b : Blk) (n : Nat) (l : List String) => l.map fun x => s.regWord b n x
  match g with
  | 0 => w .pm 0 ["PM_READY", "PM_STAT"]
  | 1 => w .pm 0 ["PM_POWER", "PM_THROT", "PM_TEMP", "PM_CAP"]
  | 2 => w .gt 0 ["GT_STAT", "GT_FSTAT", "GT_OVR_CNT", "GT_OVR_MASK", "GT_FRAME_NUM", "GT_REF_STALL"]
  | 3 => links.flatMap fun l => w .link l ["FL_STAT", "FL_RETRY", "FL_FEC_UNCORR"]
  | 4 => stackDies.flatMap (fun c => w .ls c ["LS_STAT", "LS_TEMP", "LS_REF"]) ++ w .ec 0 ["EC_BKT_OVF", "EC_SCRUB_STAT"]
  | 5 => w .bb 0 ["BB_STAT", "BB_HEAD", "BB_SEQ"] ++ w .mb 0 ["MB_STAT", "MB_ACK_MAX", "MB_VIOL"]
  | _ =>
    match s.physOf (g % 256) with
    | none => []
    | some t => w .tile t ["MX_BUSY_CYC", "MX_MAC_CNT", "VX_BUSY_CYC", "SV_BUSY_CYC", "DM_BYTES", "CE_STALL", "CE_CNT", "FS_RES"]
        ++ [s.regWord .tile t "CV_CNT" 0, s.regWord .tile t "CV_CNT" 1]

/-- Every counter group is sampled, 8 × 2^TELEM_SHIFT management periods after the last time. -/
def telemetrySample : Plan := fun s =>
  if ¬ s.fwReady ∨ s.vr .PERIOD_CNT < 8 * 2 ^ s.rd .MB_STAT_TELEM_SHIFT then [] else
  let gs := List.range 6 ++ (List.range s.inService.length).map (256 + ·)
  wv .PERIOD_CNT 0 :: gs.map fun g => .parts fun p => { p with telem := p.telem.put g (some ⟨s.groupWords g, s.gtc⟩) }

/-- A telemetry sample. -/
def execTelemetrySample (s : State) : Outcome State Fault Refusal := .next <| s.perform telemetrySample

/-- TELEM_READ: the latest sample of a group and its GTC; a group not sampled yet answers zeros. -/
def execTelemRead (mailbox : Fin 64) (s : State) : Outcome State Fault Refusal :=
  .next <| s.perform <| command mailbox 0x0401 (fun _ => []) fun s =>
    let g := s.mbArg mailbox 0 2
    let x := (s.parts.telem.find g).getD ⟨(s.groupWords g).map fun _ => 0, 0⟩
    (0, x.words.flatMap (leBytes 8) ++ leBytes 8 x.gtc)

/-- RIND_READ: consecutive records in index order, 1,048,575 followed by 4,096. -/
def execRindRead (mailbox : Fin 64) (s : State) : Outcome State Fault Refusal :=
  .next <| s.perform <| command mailbox 0x0402 (fun _ => []) fun s =>
    (0, (List.range (s.mbArg mailbox 4 2)).flatMap fun k =>
      let i := s.mbArg mailbox 0 4 + k
      s.recordBytes (if i < 1048576 then i else 4096 + (i - 1048576)))

/-! ### Status commands -/

/-- The beat count of a logical tile, 0 where there is none. -/
def State.vbeatsOf (s : State) (l : Nat) : Nat := match s.physOf l with | some t => s.rd .TC_CAPS_VBEATS t | none => 0

/-- The running firmware image, as the management SRAM holds it. -/
def State.fwImage (s : State) : List Byte := s.bytes sramBase (5108 + bitsOf (s.num sramBase 64) 95 64)

/-- GET_VERSION. -/
def execGetVersion (mailbox : Fin 64) (s : State) : Outcome State Fault Refusal :=
  .next <| s.perform <| command mailbox 0x0001 (fun _ => []) fun s =>
    (0, leBytes 2 0x0301 ++ leBytes 2 s.inService.length ++ sha3_256 s.fwImage ++ (List.range 64).flatMap fun l => leBytes 1 (s.vbeatsOf l))

/-- GET_STATUS. -/
def execGetStatus (mailbox : Fin 64) (s : State) : Outcome State Fault Refusal :=
  .next <| s.perform <| command mailbox 0x0002 (fun _ => []) fun s =>
    (0, leBytes 8 (s.regWord .mb 0 "MB_STAT") ++ (List.range 174).flatMap fun d =>
      leBytes 1 (packFields [(0, s.dom d), (2, s.rd .PM_DOM_PEND_EN 0 d), (3, s.rd .PM_DOM_PEND_DIS 0 d)]))

/-- GET_FABRIC_MAP. -/
def execGetFabricMap (mailbox : Fin 64) (s : State) : Outcome State Fault Refusal :=
  .next <| s.perform <| command mailbox 0x0003 (fun _ => []) fun s =>
    (0, leBytes 8 (s.node 0) ++ links.flatMap fun l =>
      leBytes 1 (s.rd .FL_STAT_STATE l) ++ leBytes 1 (s.rd .FL_STAT_WIDTH l) ++ leBytes 1 (s.rd .FL_LAT_CLASS l)
        ++ leBytes 1 (s.rd .FL_STAT_CAUSE l) ++ leBytes 2 (s.rd .FL_PEER_NODE l) ++ leBytes 1 (s.rd .FL_PEER_FDIE l)
        ++ leBytes 1 (s.rd .FL_PEER_PORT l))

/-! ### Functions and power (R434, R469, R470, R473) -/

/-- DONE_BY of a FUNC_SET that meets a transition: its end plus the duration of the latched one, free where the table fixes no duration. -/
def State.latchDoneBy (s : State) (f : Func) (enable : Bool) : Nat :=
  if s.fstate f = 1 ∧ enable then s.gtc + (s.funcAt f + s.startCycles f - s.clock) else s.fresh 62

/-- FUNC_SET: in STARTING or DRAINING the request is latched and the mailbox returns with 0x83; otherwise the mailbox returns with FSTATE at the end of
the transition, at once where there is none. -/
def funcSet (m : Nat) : Plan := fun s =>
  if ¬ s.serves m 0x0101 ∨ s.vr .MB_BEGUN 0 m = 1 then [] else
  let code := s.mbArg m 0 2
  let on := s.mbArg m 2 1 == 1
  match s.funcOf code with
  | none => mailboxReturn m 0x84 [] s.gtc s
  | some f =>
    if s.fstate f = 1 ∨ s.fstate f = 3 then
      plans [enWrite f on, fun t => [takeFresh t, .parts fun p => { p with funcWait := p.funcWait ++ [⟨f, code, none⟩] }],
        mailboxReturn m 0x83 (leBytes 1 (s.fstate f)) (s.latchDoneBy f on)] s
    else
      plans
       [enWrite f on,
        fun t => if t.fstate f = 1 ∨ t.fstate f = 3 ∨ t.pendEn f = 1 ∨ t.pendDis f = 1 then
            [wv .MB_BEGUN 1 0 m, .parts fun p => { p with funcWait := p.funcWait ++ [⟨f, code, some m⟩] }]
          else mailboxReturn m 0 (leBytes 1 (t.fstate f)) t.gtc t] s

/-- FUNC_SET. -/
def execFuncSet (mailbox : Fin 64) (s : State) : Outcome State Fault Refusal := .next <| s.perform (funcSet mailbox)

/-- FUNC_GET. -/
def execFuncGet (mailbox : Fin 64) (s : State) : Outcome State Fault Refusal :=
  .next <| s.perform <| command mailbox 0x0102 (fun _ => []) fun s =>
    match s.funcOf (s.mbArg mailbox 0 2) with
    | some f => (0, leBytes 1 (s.fstate f) ++ leBytes 1 (s.pendEn f + 2 * s.pendDis f))
    | none => (0x84, [])

/-- POWER_CAP. -/
def execPowerCap (mailbox : Fin 64) (s : State) : Outcome State Fault Refusal :=
  .next <| s.perform <| command mailbox 0x0103 (fun s => [wr .PM_CAP_WATTS (s.mbArg mailbox 0 2)]) fun s =>
    (0, leBytes 2 (s.rd .PM_CAP_WATTS))

/-- DORMANT: refused while a job is set up; otherwise entry begins, and the mailbox returns on the way (R473). -/
def execDormant (mailbox : Fin 64) (s : State) : Outcome State Fault Refusal :=
  .next <| s.perform fun s =>
    if ¬ s.serves mailbox 0x0104 ∨ s.vr .MB_BEGUN 0 mailbox = 1 then []
    else if s.jobActive then mailboxReturn mailbox 0x8C [] s.gtc s
    else plans [fun _ => [wv .MB_BEGUN 1 0 mailbox], dormantBegin mailbox] s

/-! ### Fabric commands (R330, R355, R357) -/

/-- The same in all four F-dies. -/
def allF (p : Nat → Plan) : Plan := planAll (List.range 4) p

/-- NODE_SET: 0x8C while a link is in ACTIVE or RETRAIN. -/
def execNodeSet (mailbox : Fin 64) (s : State) : Outcome State Fault Refusal :=
  .next <| s.perform fun s =>
    let m : Nat := mailbox
    let up := s.linksUp
    command m 0x0201 (if up then fun _ => [] else allF fun f => fun s => niCtlPlan f (s.mbArg m 0 2) s)
      (fun _ => (if up then 0x8C else 0, [])) s

/-- SHA3-256 of F-die 0's routing table (R396). -/
def State.routesDigest (s : State) : List Byte := sha3_256 ((List.range 65536).flatMap fun i => leBytes 8 (s.vr .RT 0 i))

/-- Routing entries are written to all four F-dies; the set-up record, where one is kept, takes the new ROUTES (R396). -/
def routeWrites (m : Nat) : Plan := plans
  [fun s => (List.range (s.mbArg m 0 2)).flatMap fun i =>
      (List.range 4).map fun f => wv .RT (s.mbArg m (16 + 16 * i + 8) 8 % 2 ^ 49) f (s.mbArg m (16 + 16 * i) 2),
   fun s => match s.parts.setup with
     | some r => [.parts fun p => { p with setup := some { r with routes := s.routesDigest } }]
     | none => []]

/-- ROUTE_WRITE. -/
def execRouteWrite (mailbox : Fin 64) (s : State) : Outcome State Fault Refusal :=
  .next <| s.perform <| command mailbox 0x0202 (routeWrites mailbox) fun s => (0, leBytes 2 (s.mbArg mailbox 0 2))

/-- LINK_CTL. -/
def linkCtl (m : Nat) : Plan := fun s =>
  let l := 16 * s.mbArg m 0 1 + s.mbArg m 1 1
  let v := s.mbArg m 4 4
  match s.mbArg m 2 1 with
  | 0 => flCtlPlan l (setB (s.regWord .link l "FL_CTL") 0) s
  | 1 => [wr .FL_CTL_LANE_MASK v l]
  | 2 => [wr .FL_CTL_MAX_W v l]
  | _ => [wr .FL_PEER_EXP_NODE (bitsOf v 15 0) l, wr .FL_PEER_EXP_FDIE (bitsOf v 17 16) l, wr .FL_PEER_EXP_PORT (bitsOf v 21 18) l]

/-- LINK_CTL restarts a link, or sets its lane mask, its largest width or its expected peer. -/
def execLinkCtl (mailbox : Fin 64) (s : State) : Outcome State Fault Refusal :=
  .next <| s.perform <| command mailbox 0x0203 (linkCtl mailbox) fun s =>
    (0, leBytes 1 (s.linkState (16 * s.mbArg mailbox 0 1 + s.mbArg mailbox 1 1)))

/-- TIME_CTL. -/
def execTimeCtl (mailbox : Fin 64) (s : State) : Outcome State Fault Refusal :=
  .next <| s.perform <| command mailbox 0x0204
    (plans [fun s => gtCtlPlan (packFields [(0, s.mbArg mailbox 0 1), (2, s.mbArg mailbox 1 1), (3, s.rd .GT_CTL_OVR_IRQ)]) s,
      fun s => if s.domOn 171 then [wr .GT_CABLE_DLY_DLY (s.mbArg mailbox 2 2)] else []])
    fun s => (0, leBytes 8 (s.regWord .gt 0 "GT_STAT"))

/-- REPL_SET writes an entry to all four NIs. -/
def execReplSet (mailbox : Fin 64) (s : State) : Outcome State Fault Refusal :=
  .next <| s.perform <| command mailbox 0x0205
    (allF fun f => fun s =>
      let a := s.mbArg mailbox
      let r := a 0 1
      if ¬ s.domOn (164 + f) then [] else
      [wr .NI_REPL_HOME_NODE (a 2 2) f r, wr .NI_REPL_HOME_BASE (a 4 4) f r, wr .NI_REPL_SIZE_UNITS (a 8 2) f r,
       wr .NI_REPL_BUF_BUF0 (a 12 4) f r, wr .NI_REPL_BUF_BUF1 (a 16 4) f r, wr .NI_REPL_SIZE_VALID (a 20 1) f r])
    fun _ => (0, [])

/-- REPL_FLIP arms a flip on all four NIs. -/
def execReplFlip (mailbox : Fin 64) (s : State) : Outcome State Fault Refusal :=
  .next <| s.perform <| command mailbox 0x0206
    (allF fun f => fun s => replFlipPlan f (s.mbArg mailbox 0 1) (s.mbArg mailbox 8 8) s) fun _ => (0, [])

/-! ### Events (R436, R437) -/

/-- The 32 bytes of an event record (Table 18.3). -/
def Event.bytes (e : Event) : List Byte :=
  leBytes 8 e.gtc ++ leBytes 2 e.kind ++ leBytes 1 e.status ++ leBytes 1 e.job
    ++ (Config.packData (0x10000 + e.kind) e.data ++ List.replicate 20 0).take 20

/-- Mailbox m is held for events. -/
def State.waitsEvents (s : State) (m : Nat) : Bool := s.serves m 0x0403

/-- ACK_GTC of mailbox m. -/
def State.ackGtc (s : State) (m : Nat) : Nat := s.num (mboxBase m + 16) 8

/-- Mailbox m is the first held for events: by ACK_GTC, then by number. -/
def State.firstWaiter (s : State) (m : Nat) : Bool :=
  mboxes.all fun k => !s.waitsEvents k || decide (s.ackGtc m < s.ackGtc k ∨ (s.ackGtc m = s.ackGtc k ∧ m ≤ k))

/-- A held mailbox returns with the events queued, up to 125 records, an EVENTS_LOST record first where events were discarded. -/
def eventReturn (m : Nat) : Plan := fun s =>
  let lost := s.vr .EVENTS_LOST
  let head := if lost = 0 then [] else [(⟨s.gtc, 0x000D, 0, 0xFF, [lost]⟩ : Event)]
  let es := (head ++ s.parts.events).take 125
  plans
   [fun _ => [wv .EVENTS_LOST 0, .parts fun p => { p with events := p.events.drop (es.length - head.length) }],
    mailboxReturn m 0 (leBytes 32 es.length ++ es.flatMap Event.bytes) s.gtc] s

/-- EVENT_WAIT: the first mailbox held for events is filled when one is queued. -/
def execEventWait (mailbox : Fin 64) (s : State) : Outcome State Fault Refusal :=
  .next <| s.perform fun s =>
    if s.waitsEvents mailbox ∧ s.firstWaiter mailbox ∧ (s.parts.events ≠ [] ∨ s.vr .EVENTS_LOST ≠ 0) then eventReturn mailbox s else []

/-- TIMEOUT cycles after its acknowledgement a held mailbox returns. -/
def execEventWaitTimeout (mailbox : Fin 64) (s : State) : Outcome State Fault Refusal :=
  .next <| s.perform fun s =>
    let limit := s.mbArg mailbox 0 8
    if s.waitsEvents mailbox ∧ limit ≠ 0 ∧ s.ackGtc mailbox + limit ≤ s.gtc then eventReturn mailbox s else []

/-! ### Firmware to tile messages (R438, R439) -/

/-- The firmware stores F2T with OWN = 1: the tile's mailbox interrupt becomes pending. -/
def f2tPost (t kind len seq : Nat) : Plan := fun s =>
  if ¬ s.domOn t ∨ s.rd .MB_F2T_CTL_OWN t = 1 then [] else
  plans [fun _ => [wr .MB_F2T_CTL_KIND kind t, wr .MB_F2T_CTL_LEN len t, wr .MB_F2T_CTL_SEQ seq t, wr .MB_F2T_CTL_STATUS 0 t,
      wr .MB_F2T_CTL_OWN 1 t], ipend t 0] s

/-- A firmware message to a tile, whose data words the firmware has stored. -/
def execF2tPost (tile : Tile) (kind : BitVec 8) (len : BitVec 8) (seq : BitVec 8) (s : State) : Outcome State Fault Refusal :=
  .next <| s.perform fun s => if s.fwReady then f2tPost tile kind.toNat len.toNat seq.toNat s else []

/-- What a store of MB_F2T_CTL by the tile does: with OWN = 0 it returns the slot. -/
def f2tReturnPlan (t v : Nat) : Plan := fun s =>
  if ¬ s.domOn t ∨ s.rd .MB_F2T_CTL_OWN t = 0 then [] else
  [wr .MB_F2T_CTL_STATUS (bitsOf v 39 32) t] ++ (if testB v 0 then [] else [wr .MB_F2T_CTL_OWN 0 t])

/-- The tile returns the F2T slot. -/
def execF2tReturn (tile : Tile) (value : W64) (s : State) : Outcome State Fault Refusal :=
  .next <| s.perform (f2tReturnPlan tile value.toNat)

/-- What a store of MB_T2F_CTL by the tile does: with OWN = 1 the message is handed to the firmware and the tile's bit in MB_TILE_PEND sets. -/
def t2fPostPlan (t v : Nat) : Plan := fun s =>
  if ¬ s.domOn t ∨ s.rd .MB_T2F_CTL_OWN t = 1 then [] else
  [wr .MB_T2F_CTL_KIND (bitsOf v 15 8) t, wr .MB_T2F_CTL_LEN (bitsOf v 23 16) t, wr .MB_T2F_CTL_SEQ (bitsOf v 31 24) t,
   wr .MB_T2F_CTL_STATUS (bitsOf v 39 32) t]
  ++ (if testB v 0 then
        [wr .MB_T2F_CTL_OWN 1 t, wr .MB_TILE_PEND_TILES (setB (s.rd .MB_TILE_PEND_TILES) (s.logicalOf t))]
          ++ raise .job .tileMessage t s
      else [])

/-- A tile hands a message to the firmware. -/
def execTileMessagePost (tile : Tile) (value : W64) (s : State) : Outcome State Fault Refusal :=
  .next <| s.perform (t2fPostPlan tile value.toNat)

end Sys2Proof.Machine
end

