-- ==== Sys2Proof/Machine/Attest.lean ====
section
/-! DEFINITION. The SPDM responder (R484, R490, Table 20.4). The spec names the requests and the choices; the layout of the messages is that of SPDM 1.2
(log entry 60). -/
namespace Sys2Proof.Machine
open Host

/-! ### Messages -/

/-- A message header: version 1.2, code and two parameters. -/
def spdmHead (code p1 p2 : Nat) : List Byte := leBytes 1 0x12 ++ leBytes 1 code ++ leBytes 1 p1 ++ leBytes 1 p2

/-- An ERROR response. -/
def spdmError (code data : Nat) : List Byte := spdmHead 0x7F code data

/-- The responder's measurement blocks of the given slots: index, DMTF specification, size, and the digest as a DMTF block. -/
def State.measBlocks (s : State) (slots : List Nat) : List Byte :=
  slots.flatMap fun k => leBytes 1 (k + 1) ++ leBytes 1 1 ++ leBytes 2 35 ++ leBytes 1 (Config.measType k % 128) ++ leBytes 2 32 ++ s.meas k

/-- The chain of SPDM slot 0. -/
def State.chain (s : State) : List Byte := Config.certChain (s.meas 0) (s.meas 1) (Config.mldsaPublic s.aliasSeed)

/-- "dmtf-spdm-v1.2.*" four times, zeros, and a context, 100 bytes in all. -/
def signPrefix (context : List Nat) : List Byte :=
  (List.replicate 4 (ascii [100, 109, 116, 102, 45, 115, 112, 100, 109, 45, 118, 49, 46, 50, 46, 42])).flatten ++ List.replicate (36 - context.length) 0 ++ ascii context

/-- The Alias key's signature of a transcript. -/
def State.spdmSign (s : State) (context : List Nat) (transcript : List Byte) : List Byte :=
  (Config.mldsaSign s.aliasSeed (signPrefix context ++ sha3_256 transcript) ++ List.replicate 2420 0).take 2420

/-- The context of a signed CHALLENGE_AUTH. -/
def chalContext : List Nat :=
  [114, 101, 115, 112, 111, 110, 100, 101, 114, 45, 99, 104, 97, 108, 108, 101, 110, 103, 101, 95, 97, 117, 116, 104, 32,
   115, 105, 103, 110, 105, 110, 103]

/-- The context of signed MEASUREMENTS. -/
def measContext : List Nat :=
  [114, 101, 115, 112, 111, 110, 100, 101, 114, 45, 109, 101, 97, 115, 117, 114, 101, 109, 101, 110, 116, 115, 32, 115, 105,
   103, 110, 105, 110, 103]

/-! ### The requests of Table 20.4 -/

/-- What a request does: the response, the responder's state after it, and whether it was signed. -/
structure Answer where
  rsp : List Byte
  next : Spdm
  signed : Bool
deriving DecidableEq, Repr

/-- An error leaves the responder as it is. -/
def refuse (x : Spdm) (code data : Nat) : Answer := ⟨spdmError code data, x, false⟩

/-- GET_VERSION lists 1.2 only and starts the exchange anew. -/
def spdmVersion (req : List Byte) : Answer :=
  let rsp := leBytes 1 0x10 ++ leBytes 1 0x04 ++ leBytes 2 0 ++ leBytes 1 0 ++ leBytes 1 1 ++ leBytes 2 0x1200
  ⟨rsp, { stage := 1, vca := req.take 4 ++ rsp }, false⟩

/-- GET_CAPABILITIES: CERT_CAP, CHAL_CAP and MEAS_CAP with signature, CTExponent 10 and 4,032-byte transfers. -/
def spdmCapabilities (x : Spdm) (req : List Byte) : Answer :=
  if x.stage ≠ 1 then refuse x 4 0
  else if req.length < 20 then refuse x 1 0
  else
    let rsp := spdmHead 0x61 0 0 ++ leBytes 1 0 ++ leBytes 1 10 ++ leBytes 2 0 ++ leBytes 4 0x16 ++ leBytes 4 4032 ++ leBytes 4 4032
    ⟨rsp, { x with stage := 2, vca := x.vca ++ req.take 20 ++ rsp }, false⟩

/-- NEGOTIATE_ALGORITHMS selects SHA3-256 and the one extended entry of ML-DSA-44; a request that does not offer them is malformed. -/
def spdmAlgorithms (x : Spdm) (req : List Byte) : Answer :=
  let n := fun (o k : Nat) => leNat ((req.drop o).take k)
  let ext := (List.range (n 28 1)).any fun i => n (32 + 4 * i) 1 == 0 && n (34 + 4 * i) 2 == 0x44
  if x.stage ≠ 2 then refuse x 4 0
  else if req.length < 32 ∨ req.length < n 4 2 ∨ n 4 2 < 32 + 4 * n 28 1 + 4 * n 29 1 ∨ ¬ testB (n 6 1) 0 ∨ ¬ testB (n 12 4) 3 ∨ ¬ ext then refuse x 1 0
  else
    let rsp := spdmHead 0x63 0 0 ++ leBytes 2 40 ++ leBytes 1 1 ++ leBytes 1 0 ++ leBytes 4 0x10 ++ leBytes 4 0 ++ leBytes 4 8 ++ leBytes 12 0
      ++ leBytes 1 1 ++ leBytes 3 0 ++ leBytes 2 0 ++ leBytes 2 0x44
    ⟨rsp, { x with stage := 3, vca := x.vca ++ req.take (n 4 2) ++ rsp }, false⟩

/-- GET_DIGESTS: slot 0 only. -/
def spdmDigests (s : State) (req : List Byte) : Answer :=
  let x := s.parts.spdm
  let rsp := spdmHead 0x01 0 1 ++ sha3_256 s.chain
  ⟨rsp, { x with chal := x.chal ++ req.take 4 ++ rsp, meas := [] }, false⟩

/-- GET_CERTIFICATE: a portion of at most 4,000 bytes of slot 0's chain. -/
def spdmCertificate (s : State) (req : List Byte) : Answer :=
  let x := s.parts.spdm
  let n := fun (o k : Nat) => leNat ((req.drop o).take k)
  let c := s.chain
  if req.length < 8 ∨ n 2 1 ≠ 0 ∨ c.length ≤ n 4 2 then refuse x 1 0
  else
    let part := (c.drop (n 4 2)).take (min (n 6 2) 4000)
    let rsp := spdmHead 0x02 0 0 ++ leBytes 2 part.length ++ leBytes 2 (c.length - n 4 2 - part.length) ++ part
    ⟨rsp, { x with chal := x.chal ++ req.take 8 ++ rsp, meas := [] }, false⟩

/-- A fresh nonce of 32 bytes. -/
def State.nonce (s : State) : List Byte := leBytes 32 (s.fresh 64)

/-- CHALLENGE: slot 0, a measurement summary over all slots or none, signed. -/
def spdmChallenge (s : State) (req : List Byte) : Answer :=
  let x := s.parts.spdm
  let n := fun (o k : Nat) => leNat ((req.drop o).take k)
  if req.length < 36 ∨ n 2 1 ≠ 0 ∨ (n 3 1 ≠ 0 ∧ n 3 1 ≠ 0xFF) then refuse x 1 0
  else
    let sum := if n 3 1 = 0 then [] else sha3_256 (s.measBlocks (List.range 8))
    let body := spdmHead 0x03 0 1 ++ sha3_256 s.chain ++ s.nonce ++ sum ++ leBytes 2 0
    ⟨body ++ s.spdmSign chalContext (x.vca ++ x.chal ++ req.take 36 ++ body), { x with chal := [], meas := [] }, true⟩

/-- GET_MEASUREMENTS: indices 1 to 8, 0xFF for all, 0 for their number; signed when requested. A response carries 2 opaque bytes, free ones, which make
the signed response of all eight slots 2,776 B. -/
def spdmMeasurements (s : State) (req : List Byte) : Answer :=
  let x := s.parts.spdm
  let n := fun (o k : Nat) => leNat ((req.drop o).take k)
  let sign := testB (n 2 1) 0
  let op := n 3 1
  if (sign ∧ (req.length < 37 ∨ n 36 1 ≠ 0)) ∨ (8 < op ∧ op ≠ 0xFF) then refuse x 1 0
  else
    let slots := if op = 0 then [] else if op = 0xFF then List.range 8 else [op - 1]
    let blocks := s.measBlocks slots
    let body := spdmHead 0x60 (if op = 0 then 8 else 0) 0 ++ leBytes 1 slots.length ++ leBytes 3 blocks.length ++ blocks ++ s.nonce ++ leBytes 2 2
      ++ leBytes 2 (s.fresh 65)
    let l := x.meas ++ req.take (if sign then 37 else 4) ++ body
    if sign then ⟨body ++ s.spdmSign measContext (x.vca ++ l), { x with chal := [], meas := [] }, true⟩ else ⟨body, { x with chal := [], meas := l }, false⟩

/-- The answer to a request: the version first, then the order, then the request itself; a code outside Table 20.4 is unsupported. -/
def State.spdm (s : State) (req : List Byte) : Answer :=
  let x := s.parts.spdm
  let code := leNat ((req.drop 1).take 1)
  let ready := fun (a : Answer) => if leNat (req.take 1) ≠ 0x12 then refuse x 1 0 else if x.stage < 3 then refuse x 4 0 else a
  match code with
  | 0x84 => if leNat (req.take 1) ≠ 0x10 then refuse x 1 0 else spdmVersion req
  | 0xE1 => if leNat (req.take 1) ≠ 0x12 then refuse x 1 0 else spdmCapabilities x req
  | 0xE3 => if leNat (req.take 1) ≠ 0x12 then refuse x 1 0 else spdmAlgorithms x req
  | 0x81 => ready (spdmDigests s req)
  | 0x82 => ready (spdmCertificate s req)
  | 0x83 => ready (spdmChallenge s req)
  | 0xE0 => ready (spdmMeasurements s req)
  | c => refuse x 7 c

/-- ATTEST: one request, one response; the mailbox status is 0x00 whatever the response. -/
def attest (m : Nat) : Plan := fun s =>
  if ¬ s.serves m 0x0501 then [] else
  let a := s.spdm (s.bytes (mboxBase m + 64) (min 4032 (s.mbReqLen m)))
  plans
   [fun s => (if a.signed then [bump s .SC_OPS_SIGN 1] else []) ++ [takeFresh s, .parts fun p => { p with spdm := a.next }],
    mailboxReturn m 0 a.rsp s.gtc] s

/-- ATTEST. -/
def execAttest (mailbox : Fin 64) (s : State) : Outcome State Fault Refusal := .next <| s.perform (attest mailbox)

end Sys2Proof.Machine
end

