-- ==== Sys2Proof/Machine/CoreMem.lean ====
section
/-! DEFINITION. The control core's accesses through global addresses: ld.g, st.g, st.gf and amo (R69, R77, R214, R240 to R243, R341 to R344), and
what a core store to its tile's control-register block does. -/
namespace Sys2Proof.Machine
open Host

/-! ### Where a global address leads -/

/-- The target of a core's access: its own store or control-register block, other MMIO of the package, a hole of the package's own map, or
anything that takes a tracker entry. -/
inductive CoreAt where
  | own (off : Nat) | block (off : Nat) | mmio | hole | far
deriving DecidableEq, Repr

/-- Where `n` bytes from global address `a` on lead for the core of tile t (R240, R241, R243). -/
def State.coreAt (s : State) (t a n : Nat) : CoreAt :=
  if a / 2 ^ 48 % 65536 ≠ s.node (homeF t) then .far
  else
    let b := 0x018001000000 + s.logicalOf t * 0x10000
    let x := a % 2 ^ 48
    match targetOf x n with
    | .hole => .hole
    | .mmio => if b ≤ x ∧ x + n ≤ b + 0x10000 then .block (x - b) else .mmio
    | .tile l off => if l = s.logicalOf t then .own off else .far
    | .stack => .far

/-- A misaligned access: MMIO takes a multiple of the size only (R242). -/
def badAlign (w : CoreAt) (n a : Nat) : Bool :=
  match w with
  | .block _ => a % n != 0
  | .mmio => a % n != 0
  | _ => misalignedAt n a

/-! ### The tile's control-register block -/

/-- The summary slot of a TC_SUM offset whose SPEC bit is 1 (R77, R202). -/
def State.specSum (s : State) (t o : Nat) : Bool := decide (0x400 ≤ o ∧ o < 0x800) && s.rd .TC_SUM0_SPEC t ((o - 0x400) / 32) == 1

/-- A word of tile t's block; an offset that no table names reads 0 (R242). -/
def State.blockWord (s : State) (t o : Nat) : Nat :=
  match findReg .tile o regTable with
  | some (r, j) => s.readRow r t j
  | none => 0

/-- What a core store does to the fields of its block that have steps of their own. -/
def blockSteps (t o v : Nat) (h : t < 40) : Plan :=
  let tile : Tile := ⟨t, h⟩
  if 0x100 ≤ o ∧ o < 0x200 then tcCntPlan t ((o - 0x100) / 8) v
  else if 0x1510 ≤ o ∧ o < 0x1590 ∧ o % 32 = 0x18 then rnSlotCtlPlan t ((o - 0x1518) / 32) v
  else match o with
  | 0x010 => plans [tcRunPlan t v, if testB v 1 then tcStepPlan t else fun _ => []]
  | 0xF80 => if testB v 0 then planIf (fun s => s.domOn t) (tileDonePlan t) else fun _ => []
  | 0x1038 => if testB v 0 then bistStart t else fun _ => []
  | 0x1208 => tileEn (.vx tile) (testB v 0)
  | 0x1218 => vxVtypePlan t v
  | 0x1220 => vxFcsrPlan t v
  | 0x1228 => vxRnselPlan t v
  | 0x1308 => tileEn (.sv tile) (testB v 0)
  | 0x1318 => svThreshPlan t v
  | 0x1408 => plans [tileEn (.fs tile) (testB v 0), if testB v 1 then forceSquash t else fun _ => []]
  | 0x1418 => calderaWrite t v
  | 0x1598 => rnFillPlan t v
  | 0x1608 => tileEn (.dm tile) (testB v 0)
  | 0x1618 => recWrite t false v
  | 0x1620 => recWrite t true v
  | 0x1708 => plans [tileEn (.ce tile) (testB v 0), fun s => match s.ceRun t with
      | some r => if testB v 1 then ceAbort t 4 r.member s else []
      | none => []]
  | 0x1800 => t2fPostPlan t v
  | 0x1900 => f2tReturnPlan t v
  | 0x1A08 => plans [tileEn (.cv tile 0) (testB v 0), tileEn (.cv tile 1) (testB v 1),
      if testB v 2 then cvFinish t 0 2 else fun _ => [], if testB v 3 then cvFinish t 1 2 else fun _ => []]
  | _ => fun _ => []

/-- An aligned 8-byte core store to its block: the plain fields of the register, then the steps of the others. -/
def blockStore (t o v : Nat) (h : t < 40) : Plan := plans
  [fun s =>
    if ¬ s.takesWrite .tile t ∨ ¬ s.slotHeld t o true then []
    else match findReg .tile o regTable with
      | some (r, j) => writeReg r t j v s
      | none => [],
   blockSteps t o v h]

/-! ### Loads -/

/-- A load whose answer is known when it issues. -/
def answeredLoad (t : Nat) (d : Dest) (a n status data : Nat) (mark : Bool) : Plan := fun s =>
  [addLoad t ⟨d, s.pc t, a, n, false, true, status, a, data, mark, 0⟩]

/-- An MMIO load of the core outside its block: an aligned 8-byte one returns the word, a speculative summary slot of another tile refuses it and
counts it, and any other size is refused (R202, R242). -/
def mmioLoad (t : Nat) (d : Dest) (a n : Nat) : Plan := fun s =>
  let x := a % 2 ^ 48
  if n ≠ 8 then answeredLoad t d a n 0x8A 0 false s
  else match s.mmioAt x with
    | some (.tile, o, off) =>
      if s.specSum o off then plans [fun s => [bump s .FS_FENCE_REFUSED 1 o], answeredLoad t d a n 0x88 0 false] s
      else answeredLoad t d a n 0 (s.readMmio x) false s
    | _ => answeredLoad t d a n 0 (s.readMmio x) false s

/-- The ld.g loads of tile t that are outstanding (Table 3.2). -/
def State.loadsOut (s : State) (t : Nat) : Nat := ((s.tracker t).filter fun e => e.owner == .coreLoad).length

/-- A tracked load of the core. -/
def trackedLoad (t : Nat) (d : Dest) (a n : Nat) : Plan := plans
  [fun s => [addLoad t ⟨d, s.pc t, a, n, false, false, 0, 0, 0, false, s.vr .TRK_SEQ t + 1⟩],
   issueReq t .coreLoad 0x01 0 a n 0 [] 0 0 false]

/-- ld.g: it waits while its address register is marked (R214), and while eight are outstanding or the tracker is full. -/
def remoteLoadPlan (t : Nat) (d : Dest) (base off n : Nat) : Plan :=
  instr t [rgOf d, .gp base] (fun s => s.marked t (.gp base)) fun s =>
    let a := s.ea t base off
    let w := s.coreAt t a n
    if badAlign w n a then except t 0x02 0 (some a) false s
    else match w with
      | .hole => except t 0x03 0x64 (some a) false s
      | .own o => plans [ownLoad t d a o n false, advance t] s
      | .block o =>
        plans [if n = 8 then answeredLoad t d a n 0 (s.blockWord t o) (s.specSum t o) else answeredLoad t d a n 0x8A 0 false, advance t] s
      | .mmio => plans [mmioLoad t d a n, advance t] s
      | .far =>
        if s.trackerFull t ∨ 8 ≤ s.loadsOut t then [wv .STALLED 1 t] else plans [trackedLoad t d a n, advance t] s

/-- ld.g. -/
def execStackRemoteLoad (tile : Tile) (dest : Dest) (base : RegNo) (off : W64) (size : Fin 32) (s : State) : Outcome State Fault Refusal :=
  .next <| s.perform (remoteLoadPlan tile dest base off.toNat (size + 1))

/-! ### Stores -/

/-- st.g: it waits while a source is marked (R77, R214). A store that MMIO refuses has no effect (R242). -/
def remoteStorePlan (t : Tile) (src : Dest) (base off n : Nat) : Plan :=
  instr t [rgOf src, .gp base] (fun s => s.anyMarked t [rgOf src, .gp base]) fun s =>
    let a := s.ea t base off
    let v := s.regVal t src
    let w := s.coreAt t a n
    if badAlign w n a then except t 0x02 0 (some a) false s
    else match w with
      | .hole => except t 0x03 0x64 (some a) false s
      | .own o => plans [writeTs t o (leBytes n v) [], advance t] s
      | .block o => plans [advance t, if n = 8 then blockStore t o (v % 2 ^ 64) t.isLt else fun _ => []] s
      | .mmio => advance t s
      | .far => if s.trackerFull t then [wv .STALLED 1 t] else plans [issueReq t .coreStore 0x02 0 a n 0 (leBytes n v) 0 0 false, advance t] s

/-- st.g. -/
def execStackRemoteStore (tile : Tile) (src : Dest) (base : RegNo) (off : W64) (size : Fin 32) (s : State) : Outcome State Fault Refusal :=
  .next <| s.perform (remoteStorePlan tile src base off.toNat (size + 1))

/-- st.gf: the flag waits in the tracker for the tile's earlier stores, flags and atomics, to its own store as to any other (R243, R344); one with
bit 63 set is refused at issue and takes no entry. -/
def flaggedStorePlan (t : Nat) (src : Dest) (base off : Nat) : Plan :=
  instr t [rgOf src, .gp base] (fun s => s.anyMarked t [rgOf src, .gp base]) fun s =>
    let a := s.ea t base off
    let v := s.regVal t src % 2 ^ 64
    let w := s.coreAt t a 8
    let queue : Plan := fun s =>
      if testB v 63 then advance t s
      else if s.trackerFull t then [wv .STALLED 1 t]
      else plans [issueReq t .coreStore 0x03 0 a 8 0 (leBytes 8 v) 0 0 false, advance t] s
    if badAlign w 8 a then except t 0x02 0 (some a) false s
    else match w with
      | .hole => except t 0x03 0x64 (some a) false s
      | .block _ => advance t s
      | .mmio => advance t s
      | .own _ => queue s
      | .far => queue s

/-- st.gf. -/
def execFlaggedStore (tile : Tile) (src : Dest) (base : RegNo) (off : W64) (s : State) : Outcome State Fault Refusal :=
  .next <| s.perform (flaggedStorePlan tile src base off.toNat)

/-! ### Atomics (R341) -/

/-- The operation code of an atomic (Table 14.4). -/
def amoCode : AmoOp → Nat
  | .add => 0x10 | .min => 0x11 | .max => 0x12 | .cas => 0x13

/-- An atomic on the core's own store, by pool agent 1 (R243): a misaligned one is refused. -/
def ownAmo (t : Nat) (op : AmoOp) (ty : AType) (d : Dest) (a o x cmp : Nat) : Plan := fun s =>
  let n := atypeSize ty
  if o % n ≠ 0 then answeredLoad t d a n 0x8A 0 false s
  else
    let r := amoTs (storeBase t + o) op ty x cmp s
    let mark := s.window t && s.touchesCaldera t o n
    plans
     [fun s => [addLoad t ⟨d, s.pc t, a, n, false, true, r.1.1, s.ownGlobal t (o / 64 * 64), leNat r.1.2, mark, 0⟩], r.2] s

/-- A tracked atomic of the core; AMO_CAS sends the compare value before the swap value. -/
def trackedAmo (t : Nat) (op : AmoOp) (ty : AType) (d : Dest) (a x cmp : Nat) : Plan :=
  let n := atypeSize ty
  plans
   [fun s => [addLoad t ⟨d, s.pc t, a, n, false, false, 0, 0, 0, false, s.vr .TRK_SEQ t + 1⟩],
    issueReq t (.coreAmo d) (amoCode op) 0 a n (atypeCode ty)
      (match op with | .cas => leBytes n cmp ++ leBytes n x | _ => leBytes n x) 0 0 false]

/-- The registers an atomic reads; amo.cas alone reads the compare value. -/
def amoRegs (op : AmoOp) (base : Nat) (x cmp : Dest) : List Rg :=
  [.gp base, rgOf x] ++ (match op with | .cas => [rgOf cmp] | _ => [])

/-- amo: it waits while a source is marked (R77). -/
def amoPlan (t : Nat) (op : AmoOp) (ty : AType) (d : Dest) (base off : Nat) (x cmp : Dest) : Plan :=
  instr t (rgOf d :: amoRegs op base x cmp) (fun s => s.anyMarked t (amoRegs op base x cmp)) fun s =>
    let n := atypeSize ty
    let a := s.ea t base off
    let m := 2 ^ (8 * n)
    let xv := s.regVal t x % m
    let cv := s.regVal t cmp % m
    let w := s.coreAt t a n
    if badAlign w n a then except t 0x02 0 (some a) false s
    else match w with
      | .hole => except t 0x03 0x64 (some a) false s
      | .block _ => plans [answeredLoad t d a n 0x8A 0 false, advance t] s
      | .mmio => plans [answeredLoad t d a n 0x8A 0 false, advance t] s
      | .own o => plans [ownAmo t op ty d a o xv cv, advance t] s
      | .far => if s.trackerFull t then [wv .STALLED 1 t] else plans [trackedAmo t op ty d a xv cv, advance t] s

/-- amo.add, amo.min, amo.max or amo.cas. -/
def execRemoteAtomic (tile : Tile) (op : AmoOp) (ty : AType) (dest : Dest) (base : RegNo) (off : W64) (operand compare : Dest) (s : State) :
    Outcome State Fault Refusal :=
  .next <| s.perform (amoPlan tile op ty dest base off.toNat operand compare)

end Sys2Proof.Machine
end

