-- ==== Sys2Proof/Machine/Context.lean ====
section
/-! DEFINITION. Context save and restore (R81 to R83, R160, R170, R199, R231, Table 3.6). -/
namespace Sys2Proof.Machine
open Host

/-! ### The image (Table 3.6) -/

/-- The end of a section of `n` bytes from `a` on, rounded up to 4 KiB (R82). -/
def sectionEnd (a n : Nat) : Nat := (a + n + 4095) / 4096 * 4096

/-- The offset of the tile registers in an image whose registers have `regBits` bits. -/
def ctxTregs (regBits : Nat) : Nat := sectionEnd 0x1000 (32 * (regBits / 8))

/-- The offset of data memory in an image. -/
def ctxDmem (regBits tregBytes : Nat) : Nat := sectionEnd (ctxTregs regBits) (8 * tregBytes)

/-- The length of an image. -/
def ctxSize (regBits tregBytes : Nat) : Nat := ctxDmem regBits tregBytes + 131072

/-- The poison marks of the vector and tile registers as bits, one for each 64 B. -/
def State.vxPoisWord (s : State) (t : Nat) : Nat := (List.range 2560).foldl (fun m j => if s.vr .VX_POIS t j = 1 then setB m j else m) 0

/-- The marks of gp, sv and the vector engine's registers as bits, in that order. -/
def State.specMarks (s : State) (t : Nat) : Nat :=
  (List.range 108).foldl (fun m j =>
    let b := if j < 32 then s.vr .MARK_GP t j else if j < 64 then s.vr .MARK_SV t (j - 32) else s.vr .MARK_VX t (j - 64)
    if b = 1 then setB m j else m) 0

/-- The 512 B control section: PC, TC_FCSR, TC_IEN, TC_TVEC, VX_VTYPE, VX_FCSR and VX_RNSEL as 8-byte words in that order, then the
speculation marks in 16 bytes and the poison marks in 320 (log entry 50). -/
def State.ctxControl (s : State) (t : Nat) : List Byte :=
  leBytes 8 (s.pc t)
  ++ leBytes 8 (packFields [(0, s.rd .TC_FCSR_RM t), (2, s.rd .TC_FCSR_FLAGS t), (7, s.rd .TC_FCSR_TRAPEN t)])
  ++ leBytes 8 (s.rd .TC_IEN_SRC t) ++ leBytes 8 (4 * s.rd .TC_TVEC_VEC t)
  ++ leBytes 8 (packFields [(0, s.rd .VX_VTYPE_VL t), (12, s.rd .VX_VTYPE_SEW t)])
  ++ leBytes 8 (packFields [(0, s.rd .VX_FCSR_RM t), (2, s.rd .VX_FCSR_FLAGS t)]) ++ leBytes 8 (s.rd .VX_RNSEL_STREAM t)
  ++ leBytes 16 (s.specMarks t) ++ leBytes 320 (s.vxPoisWord t) ++ List.replicate 120 0

/-- The sections after the header. -/
def State.ctxBody (s : State) (t : Nat) : List Byte :=
  (List.range 32).flatMap (fun r => leBytes 8 (s.gp t r)) ++ (List.range 32).flatMap (fun r => leBytes 32 (s.sv t r))
  ++ s.ctxControl t ++ (List.range 32).flatMap (fun c => leBytes 4 (s.rd .TC_CNT_VALUE t c))
  ++ (List.range 32).flatMap (fun k => (List.range 4).flatMap fun w => leBytes 8 (s.sumWord t k w))
  ++ List.replicate 1088 0 ++ s.bytes (vregBase t) 163840 ++ s.bytes (dmemBase t) 65536 ++ s.bytes (imemBase t) 65536

/-- The context image of tile t; its CRC covers every byte after the header (log entry 51). -/
def State.ctxImage (s : State) (t : Nat) : List Byte :=
  let body := s.ctxBody t
  leBytes 64 (packFields [(0, 1), (16, s.rd .VX_VTYPE_VL t), (32, sewBits (s.rd .VX_VTYPE_SEW t)), (40, s.rd .TC_CAPS_VBEATS t), (48, 8192),
    (64, 16384), (96, s.jobOf t % 64), (128, s.rd .GT_FRAME_NUM_NUM), (192, crc32c body)]) ++ body

/-! ### Save (R81) -/

/-- Every descriptor and vx instruction that the tile has issued has completed, and every load is answered. -/
def State.drainedCore (s : State) (t : Nat) : Bool :=
  !s.earlierOpen t (s.vr .ISSUE_SEQ t) && s.vxIdle t && (s.parts.loads.at t).isEmpty

/-- The context is saved. -/
def saveDone (t : Nat) : List Act :=
  [wr .TC_PREEMPT_DONE 1 t, wv .SAVE_OUT 0 t,
   .parts fun p => { p with trkDone := p.trkDone.set t ((p.trkDone.at t).filter fun x => x.owner != .save) }]

/-- The image goes to TC_CTX_ADDR: inside the package at once, to another package as stores of 4 KiB through the tracker. -/
def saveContext (t : Nat) : Plan := fun s =>
  let img := s.ctxImage t
  let a := 4096 * s.rd .TC_CTX_ADDR_ADDR t
  let x := a % 2 ^ 48
  match s.coreAt t a img.length with
  | .own o => plans [writeTs t o img [], fun _ => saveDone t] s
  | .far =>
    if a / 2 ^ 48 = s.node (homeF t) then plans [writeMem (s.flatOf x img.length) img [] true, fun _ => saveDone t] s
    else if 1024 < (s.tracker t).length + 73 then []
    else plans
      [planAll (List.range 73) fun k => issueReq t .save 0x02 0 (a + 4096 * k) 4096 0 ((img.drop (4096 * k)).take 4096) 0 0 false,
       fun _ => [wv .SAVE_OUT 1 t]] s
  | _ => saveDone t

/-- A stopped tile whose engines have completed everything saves its context; DONE sets when the image is out. -/
def contextSavePlan (t : Nat) : Plan := fun s =>
  if ¬ s.domOn t ∨ s.vr .STOPPED t = 0 ∨ s.rd .TC_PREEMPT_DONE t = 1 then []
  else if s.vr .SAVE_OUT t = 1 then (if (s.tracker t).any fun e => e.owner == .save then [] else saveDone t)
  else if ¬ s.drainedCore t then [] else saveContext t s

/-- The context is saved and TC_PREEMPT.DONE sets. -/
def execContextSaveDone (tile : Tile) (s : State) : Outcome State Fault Refusal :=
  .next <| s.perform (contextSavePlan tile)

/-! ### Restore (R83) -/

/-- Register image number `k` of `len` bytes from offset `o` on, cut or zero-filled to `want` bytes. -/
def imageReg (img : List Byte) (o len k want : Nat) : List Byte :=
  (((img.drop (o + len * k)).take len) ++ List.replicate want 0).take want

/-- The status of a restore: 0x82 when the CRC fails or the image cannot be read whole and clean, 0x80 when an active vector or a tile register
does not fit, else 0. -/
def restoreStatus (img : List Byte) (clean : Bool) : Nat :=
  let h := leNat (img.take 64)
  let rb := bitsOf h 63 48
  let tb := bitsOf h 95 64
  let n := ctxSize rb tb
  if ¬ clean ∨ img.length < n ∨ crc32c ((img.take n).drop 64) ≠ bitsOf h 223 192 then 0x82
  else if 8192 < bitsOf h 31 16 * bitsOf h 39 32 ∧ (8192 < rb ∨ 16384 < tb) then 0x80
  else 0

/-- The core's part of a restore. -/
def restoreCore (t : Nat) (img : List Byte) : Plan := fun _ =>
  let num := fun (o n : Nat) => leNat ((img.drop o).take n)
  let marks := num 0x578 16
  (List.range 32).flatMap (fun r => [wv .GP (num (0x40 + 8 * r) 8) t r, wv .SV (num (0x140 + 32 * r) 32) t r,
    wv .MARK_GP (bitOf marks r) t r, wv .MARK_SV (bitOf marks (32 + r)) t r, wr .TC_CNT_VALUE (num (0x740 + 4 * r) 4) t r,
    wr .TC_SUM0_STATUS (num (0x7C0 + 32 * r) 1) t r, wr .TC_SUM0_ENGINE (num (0x7C1 + 32 * r) 1 % 8) t r,
    wr .TC_SUM0_SPEC (bitOf (num (0x7C1 + 32 * r) 1) 3) t r, wr .TC_SUM0_TAG (num (0x7C2 + 32 * r) 2) t r,
    wr .TC_SUM0_GTC_LO (num (0x7C4 + 32 * r) 4) t r, wr .TC_SUM1_VAL0 (num (0x7C8 + 32 * r) 8) t r,
    wr .TC_SUM2_VAL1 (num (0x7D0 + 32 * r) 8) t r, wr .TC_SUM3_CYCLES (num (0x7D8 + 32 * r) 8) t r])
  ++ [wv .PC (num 0x540 8 / 4 * 4) t, wr .TC_FCSR_RM (bitsOf (num 0x548 8) 1 0) t, wr .TC_FCSR_FLAGS (bitsOf (num 0x548 8) 6 2) t,
      wr .TC_FCSR_TRAPEN (bitsOf (num 0x548 8) 11 7) t, wr .TC_IEN_SRC (num 0x550 8) t, wr .TC_TVEC_VEC (num 0x558 8 / 4) t,
      .clear fun l => match l with
        | .var .DMEM_BAD i _ => i == t
        | .var .IMEM_BAD i _ => i == t
        | _ => false]

/-- The vector engine's part of a restore: each register takes the first 8,192 bits or 16,384 bytes, or is zero-filled. -/
def restoreVector (t : Nat) (img : List Byte) : Plan := fun _ =>
  let h := leNat (img.take 64)
  let rl := bitsOf h 63 48 / 8
  let tl := bitsOf h 95 64
  let num := fun (o n : Nat) => leNat ((img.drop o).take n)
  let pois := num 0x588 320
  let marks := num 0x578 16
  let vtype := num 0x560 8
  (List.range 32).flatMap (fun r => putBytes (vreg t r) (imageReg img 0x1000 rl r 1024)
    ++ (List.range 16).map fun g => wv .VX_POIS (if 64 * g < rl then bitOf pois (rl / 64 * r + g) else 0) t (16 * r + g))
  ++ (List.range 8).flatMap (fun r => putBytes (treg t r) (imageReg img (ctxTregs (8 * rl)) tl r 16384)
    ++ (List.range 256).map fun g =>
      wv .VX_POIS (if 64 * g < tl then bitOf pois (rl / 64 * 32 + tl / 64 * r + g) else 0) t (512 + 256 * r + g))
  ++ (List.range 44).map (fun j => wv .MARK_VX (bitOf marks (64 + j)) t j)
  ++ [wr .VX_VTYPE_VL (bitsOf vtype 10 0) t, wr .VX_VTYPE_SEW (bitsOf vtype 15 12) t, wr .VX_FCSR_RM (bitsOf (num 0x568 8) 1 0) t,
      wr .VX_FCSR_FLAGS (bitsOf (num 0x568 8) 6 2) t, wr .VX_RNSEL_STREAM (num 0x570 8) t,
      .clear fun l => match l with | .var .VX_BAD i _ => i == t | _ => false]

/-- A context starts: the core runs on at the image's PC and takes part in the frame schedule from the next tick; solver handles are invalid
(R199). -/
def restoreStart (t : Nat) : Plan := fun s =>
  (List.range 4).flatMap (svDrop t)
  ++ [wv .STALLED 0 t, wv .SPEC_STALL 0 t, wv .STOPPED 0 t, wv .IN_FRAMES 1 t, wv .WDOG_FRAMES 0 t, wr .TC_STAT_INEXC 0 t,
      .parts fun p => { p with waits := p.waits.put t none, loads := p.loads.set t [] },
      wr .TC_CTL_RUN 1 t, wr .TC_STAT_RUNNING 1 t, wv .RUN_AT s.clock t]

/-- The image at TC_CTX_ADDR: read inside the package, or as the tile's loads from another package brought it. -/
def State.ctxRead (s : State) (t : Nat) (remote : List Byte) : List Byte × Bool :=
  let a := 4096 * s.rd .TC_CTX_ADDR_ADDR t
  let x := a % 2 ^ 48
  if a / 2 ^ 48 ≠ s.node (homeF t) then (remote, true)
  else
    let head := leNat (s.bytes (s.flatOf x 64) 64)
    let n := ctxSize (bitsOf head 63 48) (bitsOf head 95 64)
    match targetOf x n with
    | .stack => let r := s.readMem x n; (r.data, r.bad.isEmpty)
    | .tile l _ => (match s.physOf l with
      | some _ => let r := s.readMem (s.flatOf x n) n; (r.data, r.bad.isEmpty)
      | none => ([], false))
    | _ => ([], false)

/-- A restore: the status, and when it is 0 the whole context; otherwise the tile keeps its state. -/
def contextRestorePlan (t : Nat) (remote : List Byte) : Plan := fun s =>
  if ¬ s.domOn t then [] else
  let r := s.ctxRead t remote
  let st := restoreStatus r.1 r.2
  if st ≠ 0 then [wv .CTX_STATUS st t]
  else
    let h := leNat (r.1.take 64)
    let dm := ctxDmem (bitsOf h 63 48) (bitsOf h 95 64)
    plans
     [restoreCore t r.1, restoreVector t r.1,
      fun _ => putBytes (dmemBase t) ((r.1.drop dm).take 65536) ++ putBytes (imemBase t) ((r.1.drop (dm + 65536)).take 65536),
      restoreStart t, fun _ => [wv .CTX_STATUS 0 t]] s

/-- Tile restores the context image that TC_CTX_ADDR names; `remote` is the image as read, where it lies on another package. -/
def execContextRestore (tile : Tile) (remote : List Byte) (s : State) : Outcome State Fault Refusal :=
  .next <| s.perform (contextRestorePlan tile remote)

end Sys2Proof.Machine
end

