-- ==== Sys2Proof/Machine/Seeds.lean ====
section
/-! DEFINITION. The starting states of a job's random streams (R224 to R227) and their images (Table 9.2). -/
namespace Sys2Proof.Machine

/-- The origin words of a seed: the low 64 bits of SHA3-256 over the seed and the word's number, and bit 0 of the first set (R226). -/
def originWord (seed i : Nat) : Nat :=
  let w := leNat ((sha3_256 (leBytes 8 seed ++ leBytes 4 i)).take 8)
  if i = 0 then setB w 0 else w

/-- `n` more words of a sequence whose last 607 words are given newest first, by the recurrence of R224. -/
def extendWords : Nat → List Nat → List Nat
  | 0, ws => ws
  | n + 1, ws => extendWords n ((ws.getD 606 0 + ws.getD 272 0) % 2 ^ 64 :: ws)

/-- The words x(0) to x(1212) of a seed. -/
def originWords (seed : Nat) : List Nat := (extendWords 606 ((List.range 607).map (originWord seed)).reverse).reverse

/-- A polynomial modulo z^607 − z^334 − 1 with coefficients modulo 2^64, lowest first: z times it. -/
def polyShift (p : List Nat) : List Nat :=
  let top := p.getD 606 0
  (0 :: p.take 606).mapIdx fun i c => if i = 0 ∨ i = 334 then (c + top) % 2 ^ 64 else c

/-- A multiple of one polynomial added to another. -/
def polyAdd (p : List Nat) (c : Nat) (q : List Nat) : List Nat := List.zipWith (fun a b => (a + c * b) % 2 ^ 64) p q

/-- The polynomial 0. -/
def polyZero : List Nat := List.replicate 607 0

/-- The polynomial 1. -/
def polyOne : List Nat := 1 :: List.replicate 606 0

/-- A product, by the coefficients of the first factor from the highest down. -/
def polyMul (p q : List Nat) : List Nat := p.reverse.foldl (fun acc c => polyAdd (polyShift acc) c q) polyZero

/-- z to the power that `n` bits of `e` give, highest first. -/
def polyPow : Nat → Nat → List Nat
  | 0, _ => polyOne
  | n + 1, e =>
    let h := polyPow n (e / 2)
    let sq := polyMul h h
    if e % 2 = 1 then polyShift sq else sq

/-- The 607 words from position `pos` of a sequence whose first 1,213 words are given: the jump polynomial z^pos applied to them (R227). -/
def jumpWords (origin : List Nat) (pos : Nat) : List Nat :=
  let c := polyPow 288 pos
  (List.range 607).map fun i => ((c.zip (origin.drop i)).foldl (fun a x => a + x.1 * x.2) 0) % 2 ^ 64

/-- The key of stream `s` of a curd, or of a tile in tile-keyed mode (Table 9.1). -/
def streamKey (mode curd node logical s : Nat) : Nat := if mode = 0 then 4 * curd + s else 2 ^ 24 + 4 * (64 * node + logical) + s

/-- The image of a stream at its start: header and 32 lanes of 607 words (R227, R230). -/
def streamImage (origin : List Nat) (mode key job : Nat) : List Byte :=
  let body := (List.range 32).flatMap fun l => (jumpWords origin ((32 * key + l) * 2 ^ 256)).flatMap (leBytes 8)
  leBytes 64 (packFields [(0, 1), (16, mode), (32, key), (128, crc32c body), (160, job)]) ++ body

end Sys2Proof.Machine
end

