-- ==== Sys2Proof/Machine/Jobs.lean ====
section
/-! DEFINITION. Layout tables (R382 to R388) and the commands that set up, arm, cancel and end jobs, pre-empt and reset tiles (R396 to R399, R442,
R443, R464 to R466). -/
namespace Sys2Proof.Machine
open Host

/-! ### Layout tables (Tables 16.1 and 16.2) -/

/-- An entry of a layout table: one curd. -/
structure CurdPlace where
  node : Nat
  tile : Nat
  tsBase : Nat
  tsBytes : Nat
  stkBase : Nat
  stkUnits : Nat
  spillNode : Nat
  spillBase : Nat
  spillUnits : Nat
deriving DecidableEq, Repr

/-- A layout table as it is read. -/
structure Layout where
  format : Nat
  job : Nat
  epoch : Nat
  curds : Nat
  block : Nat
  digest : List Byte
  entries : List CurdPlace
  bytes : List Byte
deriving DecidableEq, Repr

/-- The layout table at a local stack address. -/
def State.layoutAt (s : State) (a : Nat) : Layout :=
  let h := s.num a 64
  let n := bitsOf h 60 48
  { format := bitsOf h 15 0, job := bitsOf h 21 16, epoch := bitsOf h 47 32, curds := n, block := bitsOf h 76 64
    digest := s.bytes (a + 12) 32, bytes := s.bytes a (64 + 32 * n)
    entries := (List.range n).map fun c =>
      let e := s.num (a + 64 + 32 * c) 32
      ⟨bitsOf e 15 0, bitsOf e 21 16, bitsOf e 55 32, bitsOf e 88 64, bitsOf e 119 96, bitsOf e 143 120, bitsOf e 159 144, bitsOf e 183 160,
       bitsOf e 207 184⟩ }

/-- A region of a tile store or of a stack: which memory, its first byte or unit, its length, and the memory's end. -/
structure Region where
  mem : Nat × Nat
  lo : Nat
  n : Nat
  top : Nat
deriving DecidableEq, Repr

/-- The regions of a layout; stacks end at the firmware region (R454). -/
def Layout.regions (y : Layout) : List Region :=
  (y.entries.flatMap fun e => [⟨(e.node, e.tile), e.tsBase, e.tsBytes, 2 ^ 24⟩, ⟨(e.node, 64), e.stkBase, e.stkUnits, 0xEFFC00⟩,
    ⟨(e.spillNode, 64), e.spillBase, e.spillUnits, 0xEFFC00⟩]).filter fun r => r.n != 0

/-- Some two regions of a list overlap. -/
def overlaps : List Region → Bool
  | [] => false
  | r :: rs => rs.any (fun q => q.mem == r.mem && decide (q.lo < r.lo + r.n ∧ r.lo < q.lo + q.n)) || overlaps rs

/-- Some two reduction blocks share a tile, or a block spans two. -/
def Layout.blocksBad (y : Layout) : Bool :=
  let ps := y.entries.mapIdx fun c e => (c / y.block, e.node, e.tile)
  ps.any fun a => ps.any fun b => (a.1 == b.1) != (a.2 == b.2)

/-- R384, for a job on the packages `nodes`, as this package checks it. -/
def State.layoutInvalid (s : State) (y : Layout) (nodes : List Nat) : Bool :=
  y.format != 1 || decide (y.curds < 1 ∨ 4096 < y.curds ∨ y.block < 1 ∨ 4096 < y.block) || y.curds % y.block != 0
    || y.digest != sha3_256 (y.bytes.drop 64)
    || y.entries.any (fun e => !nodes.contains e.node || (e.spillUnits != 0 && (!nodes.contains e.spillNode || e.spillNode == e.node))
        || (e.node == s.node 0 && decide (s.inService.length ≤ e.tile)))
    || y.blocksBad || overlaps y.regions || y.regions.any fun r => decide (r.top < r.lo + r.n)

/-- R388: a tile's or a package's regions exceed a limit. -/
def Layout.overLimit (y : Layout) (ts stack : Nat) : Bool :=
  y.entries.any fun e =>
    decide (ts < ((y.entries.filter fun x => x.node == e.node && x.tile == e.tile).map (·.tsBytes)).sum)
    || [e.node, e.spillNode].any fun n =>
      decide (stack < (y.entries.map fun x => (if x.node = n then x.stkUnits else 0) + (if x.spillNode = n then x.spillUnits else 0)).sum)

/-- The curds that a layout places on a package, with their numbers. -/
def Layout.mine (y : Layout) (node : Nat) : List (Nat × CurdPlace) :=
  (y.entries.mapIdx fun c e => (c, e)).filter fun p => p.2.node == node

/-! ### JOB_SETUP (R396 to R399, R442, Table 18.7) -/

/-- The ascending node IDs of the request. -/
def State.reqNodes (s : State) (m : Nat) : List Nat := (List.range (s.mbArg m 40 2)).map fun i => s.num (s.mbArg m 48 8 % 2 ^ 48 + 2 * i) 2

/-- NODESET of a job. -/
def nodesetOf (nodes : List Nat) : List Byte := sha3_256 (nodes.flatMap (leBytes 2))

/-- The set-up of the job before is reused: the package keeps a record, and the results of R397 agree on every package. -/
def State.reuses (s : State) (agree : Bool) : Bool := s.parts.setup.isSome && agree

/-- A communicator context of a job: rewritten in full, or, where a reused set-up names the same member table and group sizes, kept but for JOB
(R398). It becomes valid in all four interfaces. -/
def writeContext (job c src : Nat) (reused : Bool) : Plan := fun s =>
  (List.range 4).flatMap fun f =>
    let a := ctxAddr f c
    let keep := reused && decide (s.num (a + 40) 8 = s.num (src + 40) 8 ∧ s.num (a + 8) 8 = s.num (src + 8) 8)
    let bs := s.bytes (if keep then a else src) 256
    let w := putBits (setB (leNat (bs.take 8)) 0) 1 6 job
    putBytes a (leBytes 8 w ++ bs.drop 8) ++ contextOpened f c s

/-- The stream images of the curds on this package, each curd's four at the start of its stack region; in tile-keyed mode a tile's four at the region
of its lowest curd (R442). -/
def writeStreams (seed mode job : Nat) (y : Layout) : Plan := fun s =>
  let node := s.node 0
  let mine := y.mine node
  let firsts := if mode = 0 then mine else mine.filter fun p => !mine.any fun q => decide (q.1 < p.1) && q.2.tile == p.2.tile
  let origin := originWords seed
  (planAll firsts fun p => planAll (List.range 4) fun k =>
    writeStack (p.2.stkBase * 65536 + 155456 * k) (streamImage origin mode (streamKey mode p.1 node p.2.tile k) job) [] true) s

/-- The job record of an accepted request. -/
def State.newJob (s : State) (m : Nat) (y : Layout) (reused : Bool) : Job :=
  let a := s.mbArg m
  let mine := y.mine (s.node 0)
  let frame := if s.scheduled then s.rd .GT_FRAME_CUR_LEN else 2 ^ 20
  let c := if a 17 1 = 0 then mine.length else ((mine.map fun p => p.2.tile).eraseDups).length
  { jobId := a 0 8, seed := a 8 8, mode := a 17 1, stepFrames := a 18 2, tsLimit := a 20 4, stackLimit := a 24 4, layoutAddr := a 32 8 % 2 ^ 48
    nodes := s.reqNodes m, commAddr := a 56 8 % 2 ^ 48, commCount := a 64 2, root := a 66 2
    tiles := (mine.filterMap fun p => s.physOf p.2.tile).eraseDups
    readyAt := (s.gtc + (if reused then frame else max (8 * frame) 12600000)) % 2 ^ 64
    streamsAt := (s.gtc + ceilDiv (128 * c) 8 * 60000) % 2 ^ 64, reused := reused }

/-- An accepted JOB_SETUP: the job record, its contexts and streams, the set-up record, and slot 3 of the measurements (R485). -/
def setUpJob (m j : Nat) (y : Layout) (reused : Bool) : Plan := plans
  [fun s => [.parts fun p => { p with
      jobs := p.jobs.put j (some (s.newJob m y reused))
      setup := some ⟨nodesetOf (s.reqNodes m), s.routesDigest⟩ }],
   fun s => (planAll (List.range (min 256 (s.mbArg m 64 2))) fun c => writeContext j c (s.mbArg m 56 8 % 2 ^ 48 + 256 * c) reused) s,
   fun s => writeStreams (s.mbArg m 8 8) (s.mbArg m 17 1) j y s,
   fun s => extendMeas 3 (sha3_256 (s.bytes (mboxBase m + 64) (s.mbReqLen m) ++ y.bytes)) s,
   fun s => match s.parts.jobs.find j with
     | some x => mailboxReturn m 0 (leBytes 8 x.readyAt ++ leBytes 8 x.streamsAt ++ leBytes 1 (if reused then 1 else 0)) s.gtc s
     | none => []]

/-- JOB_SETUP; `agree` is the outcome on the other packages of the two ALLREDUCE operations of R397. -/
def jobSetup (m : Nat) (agree : Bool) : Plan := fun s =>
  if ¬ s.serves m 0x0301 then [] else
  let y := s.layoutAt (s.mbArg m 32 8 % 2 ^ 48)
  if ¬ s.jobReady then mailboxReturn m 0x8C [] s.gtc s
  else if (s.jobAt (s.mbArg m 16 1)).isSome then mailboxReturn m 0x84 [] s.gtc s
  else if s.layoutInvalid y (s.reqNodes m) then mailboxReturn m 0x8E [] s.gtc s
  else if y.overLimit (s.mbArg m 20 4) (s.mbArg m 24 4) then mailboxReturn m 0x8F [] s.gtc s
  else setUpJob m (s.mbArg m 16 1) y (s.reuses agree) s

/-- JOB_SETUP. -/
def execJobSetup (mailbox : Fin 64) (agree : Bool) (s : State) : Outcome State Fault Refusal := .next <| s.perform (jobSetup mailbox agree)

/-- READY_AT and STREAMS_AT of a job have passed: the firmware posts SETUP_READY. -/
def execSetupReady (job : Fin 64) (s : State) : Outcome State Fault Refusal :=
  .next <| s.perform fun s =>
    match s.jobAt job with
    | some x =>
      if s.fwReady ∧ ¬ x.posted ∧ ¬ gtcBefore s.gtc x.readyAt ∧ ¬ gtcBefore s.gtc x.streamsAt then
        .parts (fun p => { p with jobs := p.jobs.put job (some { x with posted := true }) }) :: postEvent 0x0005 0 job [x.readyAt, x.streamsAt] s
      else []
    | none => []

/-! ### Launch commands (R443) -/

/-- The slot that holds a job, if one does. -/
def State.slotOf (s : State) (job : Nat) : Option Nat :=
  (List.range 4).find? fun k => s.rd .GT_LAUNCH_CTL_STATE 0 k != 0 && s.rd .GT_LAUNCH_CTL_JOB 0 k == job

/-- The arm message of a JOB_ARM request. -/
def State.armMsg (s : State) (m : Nat) : BContent :=
  let a := s.mbArg m
  .arm ⟨a 0 1 % 64, by omega⟩ (BitVec.ofNat 8 (a 1 1)) (BitVec.ofNat 64 (a 8 8)) (BitVec.ofNat 64 (a 16 8))
    (if a 2 1 = 1 then some ⟨BitVec.ofNat 64 (a 24 8), BitVec.ofNat 64 (a 32 8), BitVec.ofNat 64 (a 40 8)⟩ else none)

/-- JOB_ARM: the root's lowest free slot is loaded and armed, and an armed message goes out by tree broadcast; with no free slot it returns 0x8C. -/
def jobArm (m : Nat) : Plan := fun s =>
  if ¬ s.serves m 0x0302 then [] else
  match s.freeSlot with
  | none => mailboxReturn m 0x8C [] s.gtc s
  | some k =>
    let msg := s.armMsg m
    plans
     [takeContent msg,
      fun t => if t.rd .GT_LAUNCH_CTL_STATE 0 k = 1 then [.parts fun p => { p with bcastOut := p.bcastOut ++ [msg] }] else [],
      fun t => mailboxReturn m 0 (leBytes 1 k ++ leBytes 1 (t.rd .GT_LAUNCH_CTL_STATE 0 k)) t.gtc t] s

/-- JOB_ARM. -/
def execJobArm (mailbox : Fin 64) (s : State) : Outcome State Fault Refusal := .next <| s.perform (jobArm mailbox)

/-- JOB_CANCEL cancels the job's launch at the root and broadcasts the cancel, which names no failed node. -/
def execJobCancel (mailbox : Fin 64) (s : State) : Outcome State Fault Refusal :=
  .next <| s.perform fun s =>
    let j := s.mbArg mailbox 0 1 % 64
    command mailbox 0x0303
      (plans [cancelJob j 0, fun _ => [.parts fun p => { p with bcastOut := p.bcastOut ++ [.cancel ⟨j % 64, by omega⟩ 0] }]])
      (fun t => (0, leBytes 1 (match t.slotOf j with | some k => t.rd .GT_LAUNCH_CTL_STATE 0 k | none => 0))) s

/-! ### The end of a job -/

/-- A tile of a job stops: its core halts, and it leaves the job and the frame schedule. -/
def stopTile (t : Nat) : Plan := plans
  [tcRunPlan t 0,
   fun _ => [wv .TILE_JOB 0 t, wv .IN_FRAMES 0 t, .parts (fun p => { p with openFrames := p.openFrames.set t [] }), wr .GT_TILE_OPEN 0 t]]

/-- The job's tiles stop and its context is released. -/
def endJob (j : Nat) : Plan := fun s =>
  plans
   [planAll (tiles.filter fun t => s.vr .TILE_JOB t == j + 1) stopTile,
    fun _ => [.parts fun p => { p with jobs := p.jobs.put j none, ck := p.ck.put j none }]] s

/-- JOB_END: the request, and at the next tick, or at once without a schedule, the end. -/
def jobEnd (m : Nat) : Plan := fun s =>
  if ¬ s.serves m 0x0304 then [] else
  let j := s.mbArg m 0 1
  match s.jobAt j with
  | none => mailboxReturn m 0x84 [] s.gtc s
  | some x =>
    let done := plans [endJob j, fun t => mailboxReturn m 0 [] t.gtc t]
    if ¬ s.scheduled then done s
    else if x.ending = 0 then [.parts fun p => { p with jobs := p.jobs.put j (some { x with ending := s.gtc + 1 }) }]
    else if s.atTick ∧ x.ending ≠ s.gtc + 1 then done s
    else []

/-- JOB_END. -/
def execJobEnd (mailbox : Fin 64) (s : State) : Outcome State Fault Refusal := .next <| s.perform (jobEnd mailbox)

/-! ### Tiles -/

/-- The tiles that a mask of logical tiles names, as logical and physical numbers. -/
def State.maskTiles (s : State) (mask : Nat) : List (Nat × Tile) :=
  (List.range 64).filterMap fun l => if testB mask l then (s.tileAt l).map fun t => (l, t) else none

/-- A mask of the logical tiles that satisfy a test. -/
def maskOf (l : List (Nat × Tile)) (p : Tile → Bool) : Nat := l.foldl (fun m x => if p x.2 then setB m x.1 else m) 0

/-- PREEMPT: each named tile gets its context address and the request; the mailbox returns when all have reached DONE, or with 0x12 when one passes its 8
frames. -/
def preempt (m : Nat) : Plan := fun s =>
  if ¬ s.serves m 0x0305 then [] else
  let ts := s.maskTiles (s.mbArg m 0 8)
  let done := fun (s : State) => maskOf ts fun t => s.rd .TC_PREEMPT_DONE t == 1
  if s.vr .MB_BEGUN 0 m = 0 then
    wv .MB_BEGUN 1 0 m :: (planAll ts fun (l, t) => plans
      [fun s => [wr .TC_CTX_ADDR_ADDR ((s.mbArg m 8 8 + s.mbArg m 16 4 * l) % 2 ^ 64 / 4096) t],
       fun s => preemptWrite t 1 s ++ [wr .TC_PREEMPT_REQ 1 t]]) s
  else if ts.all fun x => s.rd .TC_PREEMPT_DONE x.2 == 1 then mailboxReturn m 0 (leBytes 8 (done s)) s.gtc s
  else if ts.any (fun x => s.vr .PREEMPT_LATE x.2 == 1) ∨ s.ackGtc m + s.eightFrames ≤ s.gtc then mailboxReturn m 0x12 (leBytes 8 (done s)) s.gtc s
  else []

/-- PREEMPT. -/
def execPreempt (mailbox : Fin 64) (s : State) : Outcome State Fault Refusal := .next <| s.perform (preempt mailbox)

/-- TILE_RESET resets or releases the named tiles; the response names those in reset. -/
def execTileReset (mailbox : Fin 64) (s : State) : Outcome State Fault Refusal :=
  .next <| s.perform fun s =>
    let ts := s.maskTiles (s.mbArg mailbox 0 8)
    command mailbox 0x0306
      (planAll ts fun x => if s.mbArg mailbox 8 1 = 0 then partitionReset x.2 else partitionRelease x.2)
      (fun t => (0, leBytes 8 (maskOf ts fun x => t.vr .TILE_HELD x == 1))) s

end Sys2Proof.Machine
end

