-- ==== Sys2Proof/Machine/Checkpoint.lean ====
section
/-! DEFINITION. Checkpoint and restore (R401 to R419) as the firmware of one package does its part: policies, cut orders, cuts, shards, manifests,
outcomes, and restores. -/
namespace Sys2Proof.Machine
open Host

/-! ### Steps and triggers (R401, R402, R404) -/

/-- The cycles of one step. -/
def State.stepLen (s : State) (j : Job) : Nat := j.stepFrames * s.rd .GT_FRAME_CUR_LEN

/-- The GTC at which step c opens, while the pause of no later cut moves it. -/
def State.stepOpen (s : State) (j : Job) (c : Nat) : Nat := (j.opened - 1 + (c - j.step) * s.stepLen j) % 2 ^ 64

/-- GTC b lies n cycles after GTC a. -/
def gtcSpan (a b : Nat) : Nat := (b + 2 ^ 64 - a) % 2 ^ 64

/-- The policy in force for step c. -/
def Ck.at (k : Ck) (c : Nat) : Option CkPolicy := if k.policy.first ≤ c then some k.policy else k.old

/-- Step c of a launched job triggers a checkpoint: by count, or because a timer expiry lies at or after the end of the step before it and before its
own end (Table 17.1). -/
def State.triggers (s : State) (j : Job) (k : Ck) (c : Nat) : Bool :=
  match k.at c with
  | none => false
  | some p =>
    let before := if c = j.step then j.prevEnd else s.stepOpen j c
    let off := fun g => gtcSpan (j.lFirst - 1) g
    let m := max 1 (off before)
    (p.interval != 0 && (c + 1) % p.interval == 0)
      || (p.period != 0 && decide (ceilDiv m p.period * p.period < off ((s.stepOpen j c + s.stepLen j) % 2 ^ 64)))

/-- Checkpointing of a job changes. -/
def ckSet (j : Nat) (f : Ck → Ck) : Act := .parts fun p => { p with ck := p.ck.put j ((p.ck.find j).map f) }

/-- A generation of a job changes. -/
def genSet (j gen : Nat) (f : CkGen → CkGen) : Act := ckSet j fun k => { k with gens := k.gens.map fun g => if g.gen = gen then f g else g }

/-- A generation ends: the event, and the generation in progress no more (R415). -/
def endGen (j : Nat) (g : CkGen) (status : Nat) : Plan := fun s =>
  ckSet j (fun k => { k with gens := k.gens.filter fun x => x.gen != g.gen }) :: postEvent 0x0003 status j [g.gen, g.step] s

/-- CKPT_POLICY: the policy takes effect from the first step that opens at least 8 frames later; a change of destinations forgets which slots they
hold. Each destination takes 16 bytes: node (2), base (8), flags, bit 0 HOST (log entry 54). -/
def ckptPolicy (m : Nat) : Plan := fun s =>
  let a := s.mbArg m
  match s.jobAt (a 0 1) with
  | none => []
  | some j =>
    let limit := s.gtc + s.eightFrames
    let open_ := j.opened - 1
    let first := if j.opened = 0 then j.s0 else if limit ≤ open_ then j.step else j.step + ceilDiv (limit - open_) (max 1 (s.stepLen j))
    let dests := (List.range (a 18 1)).map fun i => (⟨a (24 + 16 * i) 2, a (26 + 16 * i) 8 % 2 ^ 48, testB (a (34 + 16 * i) 1) 0⟩ : CkDest)
    let pol : CkPolicy := ⟨a 4 4, a 8 8, a 16 1, a 17 1 == 1, dests, first⟩
    let old := s.parts.ck.find (a 0 1)
    let next := match old with
      | some k => k.next
      | none => (match s.parts.restore with | some r => if r.jobId = j.jobId then r.gen + 1 else 1 | none => 1)
    let newest := match old with
      | some k => if k.policy.dests = dests then k.newest else dests.map fun _ => none
      | none => dests.map fun _ => none
    let k : Ck := { policy := pol, old := old.bind fun k => k.at (first - 1), next := next
                    gens := (match old with | some k => k.gens | none => []), newest := newest }
    [.parts fun p => { p with ck := p.ck.put (a 0 1) (some k) }]

/-- CKPT_POLICY. -/
def execCkptPolicy (mailbox : Fin 64) (s : State) : Outcome State Fault Refusal :=
  .next <| s.perform <| command mailbox 0x0307 (ckptPolicy mailbox) fun t =>
    (0, leBytes 8 (match t.parts.ck.find (t.mbArg mailbox 0 1) with | some k => k.policy.first | none => 0))

/-! ### Cut orders (R403, R411, Table 18.5) -/

/-- A destination of a policy, by number. -/
def CkPolicy.dest (p : CkPolicy) (i : Nat) : CkDest := p.dests.getD (i % max 1 p.dests.length) ⟨0, 0, false⟩

/-- The slot a generation takes at each destination: the one that does not hold the newest valid generation. -/
def Ck.slots (k : Ck) : List Nat := k.newest.map fun n => match n with | some 0 => 1 | _ => 0

/-- A cut order goes to a tile: the table of its curds' destinations in its store, and the F2T message. A tile whose slot is not free gets none. -/
def postOrder (p : CkPolicy) (g : CkGen) (o : TileOrder) : Plan := fun s =>
  let t : Nat := o.tile
  if ¬ s.domOn t ∨ s.rd .MB_F2T_CTL_OWN t = 1 then [] else
  let table := o.curds.flatMap fun c =>
    let d := p.dest c.2.dest
    leBytes 16 (packFields [(0, c.1.toNat), (16, if d.host then 0 else d.node), (32, g.slots.getD c.2.dest 0), (40, if d.host then 1 else 0),
      (64, c.2.addr.toNat)])
  plans
   [landRemote t o.table.toNat table [],
    fun _ => [wr .MB_F2T_DATA_DATA g.step t 0, wr .MB_F2T_DATA_DATA g.gen t 1, wr .MB_F2T_DATA_DATA o.trailer.toNat t 2,
      wr .MB_F2T_DATA_DATA (packFields [(0, o.table.toNat), (32, o.curds.length)]) t 3],
    f2tPost t 1 4 (g.gen % 256)] s

/-- A triggering step gets its generation number; the orders are posted, unless the manifest of the generation before is not yet written. -/
def cutOrder (job step : Nat) (orders : List TileOrder) : Plan := fun s =>
  match s.jobAt job, s.parts.ck.find job with
  | some j, some k =>
    if ¬ s.fwReady ∨ j.opened = 0 ∨ ¬ s.scheduled ∨ step < j.step ∨ gtcBefore (s.stepOpen j step) s.gtc ∨ ¬ s.triggers j k step
        ∨ k.gens.any (fun g => g.step == step) then []
    else
      let g : CkGen := { gen := k.next, step := step, slots := k.slots, ordered := k.gens.isEmpty, cut := 0, shards := []
                         places := orders.flatMap fun o => o.curds.map fun c => (c.1.toNat, o.tile.val, c.2.dest.val, c.2.addr.toNat) }
      plans
       [fun _ => [ckSet job fun k => { k with next := (k.next + 1) % 2 ^ 32, gens := k.gens ++ [g] }],
        match k.at step with
        | some p => if g.ordered then planAll orders (postOrder p g) else fun _ => []
        | none => fun _ => []] s
  | _, _ => []

/-- The firmware assigns the generation of a triggering step and posts its cut orders; where the shards go is its choice. -/
def execCutOrder (job : Fin 64) (step : W64) (orders : List TileOrder) (s : State) : Outcome State Fault Refusal :=
  .next <| s.perform (cutOrder job step.toNat orders)

/-! ### The cut (R404, R408, R412) -/

/-- The header of a shard that the firmware writes (Table 17.2). -/
def shardHeader (kind epoch jobId step gen node len tCut : Nat) : List Byte :=
  leBytes 2 1 ++ leBytes 1 kind ++ leBytes 1 0 ++ leBytes 2 epoch ++ leBytes 2 0 ++ leBytes 8 jobId ++ leBytes 8 step ++ leBytes 4 gen
    ++ leBytes 2 node ++ leBytes 1 63 ++ leBytes 1 0 ++ leBytes 8 len ++ leBytes 24 0 ++ leBytes 8 tCut ++ leBytes 56 0

/-- Bytes padded with zeros to a multiple of 64. -/
def pad64 (bs : List Byte) : List Byte := bs ++ List.replicate ((64 - bs.length % 64) % 64) 0

/-- A digest record (R251). -/
def digestRecord (bs : List Byte) : List Byte := sha3_256 bs ++ leBytes 4 (crc32c bs) ++ leBytes 4 0 ++ leBytes 8 bs.length ++ leBytes 16 0

/-- The firmware's bytes reach a destination: its own stack, or another package's as stores. -/
def sendTo (d : CkDest) (addr : Nat) (bs : List Byte) (bad : List Nat) : Plan := fun s =>
  if d.host ∨ d.node = s.node 0 then writeStack addr bs bad true s
  else [fwSend (BitVec.ofNat 16 d.node) (.store addr bs)]

/-- The firmware writes a shard of KIND 1 or 2 and posts it; a payload that carries poison is written with it, and so is the trailer (R408, R410). -/
def firmwareShard (job : Nat) (j : Job) (p : CkPolicy) (g : CkGen) (epoch tCut kind : Nat) (place : Place) (payload : Rd) (src : Nat) : Plan := fun s =>
  let node := s.node 0
  let d := p.dest place.dest
  let addr := place.addr.toNat
  let body := shardHeader kind epoch j.jobId g.step g.gen node payload.data.length tCut ++ pad64 payload.data
  let poison := !payload.bad.isEmpty
  let bad := payload.bad.map (fun x => (addr + 128 + (x - src)) / 64 * 64) ++ (if poison then [addr + body.length] else [])
  let rec_ := digestRecord body
  let sh : Shard := { kind := kind, curd := 0, writer := node, step := g.step, epoch := epoch, status := 0, poison := poison, node := d.node
                      host := d.host, addr := addr, len := body.length, sha := rec_.take 32, crc := crc32c body, stored := false }
  plans [sendTo d addr (body ++ rec_) bad, fun _ => [genSet job g.gen fun g => { g with shards := g.shards ++ [sh] }]] s

/-- The root's firmware adds the entry image and the layout table. -/
def rootShards (job : Nat) (j : Job) (p : CkPolicy) (g : CkGen) (tCut : Nat) (entry : Nat) (places : Place × Place) : Plan := fun s =>
  if s.node 0 ≠ j.root then [] else
  let y := s.layoutAt j.layoutAddr
  let h := s.num entry 64
  plans
   [firmwareShard job j p g y.epoch tCut 1 places.1 (s.readMem entry (ctxSize (bitsOf h 63 48) (bitsOf h 95 64))) entry,
    firmwareShard job j p g y.epoch tCut 2 places.2 (s.readMem j.layoutAddr y.bytes.length) j.layoutAddr] s

/-- The tick that ends a triggering step: the cut and its pause, or, while the manifest of the generation before is unwritten, a skipped generation
with no pause. -/
def checkpointCut (job entry : Nat) (places : Place × Place) : Plan := fun s =>
  match s.jobAt job, s.parts.ck.find job with
  | some j, some k =>
    let d := gtcSpan (j.opened - 1) s.gtc
    let f := s.stepLen j
    let c := j.step + d / max 1 f - 1
    if j.opened = 0 ∨ ¬ s.scheduled ∨ ¬ gtcBefore (j.opened - 1) s.gtc ∨ d % max 1 f ≠ 0 ∨ d = 0 ∨ ¬ s.atTick ∨ ¬ s.triggers j k c then [] else
    match k.at c with
    | none => []
    | some p =>
      let new := (k.gens.find? fun g => g.step == c).isNone
      let g := (k.gens.find? fun g => g.step == c).getD ⟨k.next, c, k.slots, [], false, 0, []⟩
      let assign : Act := ckSet job fun k => if new then { k with next := (k.next + 1) % 2 ^ 32, gens := k.gens ++ [g] } else k
      let goOn := fun (pause : Nat) => Act.parts fun x => { x with jobs := x.jobs.put job (some { j with
        step := c + 1
        opened := (s.gtc + pause) % 2 ^ 64 + 1
        prevEnd := s.gtc }) }
      if k.gens.any fun x => x.step != c then plans [fun _ => [assign, goOn 0], endGen job g 0x17] s
      else
        plans
         [fun _ => [assign, goOn (p.ckFrames * s.rd .GT_FRAME_CUR_LEN), genSet job g.gen fun g => { g with cut := s.gtc + 1 }],
          rootShards job j p g s.gtc entry places] s
  | _, _ => []

/-- A triggering step ends. At the root `entry` is the stack address of the entry image, and `places` those of the firmware's two shards. -/
def execCheckpointCut (job : Fin 64) (entry : BitVec 48) (entryPlace layoutPlace : Place) (s : State) : Outcome State Fault Refusal :=
  .next <| s.perform (checkpointCut job entry.toNat (entryPlace, layoutPlace))

/-! ### Shards posted (R407, R409, R410, R415) -/

/-- The generation of a job that has been cut. -/
def State.cutGen (s : State) (job : Nat) : Option CkGen := (s.parts.ck.find job).bind fun k => k.gens.find? fun g => g.cut != 0

/-- Two shards record different steps or epochs. -/
def mixed (l : List Shard) : Bool := l.any fun a => l.any fun b => a.step != b.step || a.epoch != b.epoch

/-- A tile posts a digest record, or a failure status. -/
def shardPosted (t job step epoch : Nat) : Plan := fun s =>
  match s.cutGen job, s.parts.ck.find job with
  | some g, some k =>
    let w := fun (i : Nat) => s.rd .MB_T2F_DATA_DATA t i
    let curd := bitsOf (w 0) 15 0
    let status := bitsOf (w 0) 23 16
    let place := (g.places.find? fun x => x.1 == curd).getD (curd, t, 0, 0)
    let d := match k.at g.step with | some p => p.dest place.2.2.1 | none => ⟨0, 0, false⟩
    let rec_ := (List.range 8).flatMap fun i => leBytes 8 (w (i + 1))
    let sh : Shard := { kind := 0, curd := curd, writer := s.node 0, step := step, epoch := epoch, status := status, poison := testB (w 0) 24
                        node := d.node, host := d.host, addr := place.2.2.2, len := leNat ((rec_.drop 40).take 8), sha := rec_.take 32
                        crc := leNat ((rec_.drop 32).take 4), stored := false }
    if status ≠ 0 then endGen job g 0x82 s
    else if mixed (g.shards ++ [sh]) then endGen job g 0x81 s
    else [genSet job g.gen fun g => { g with shards := g.shards.filter (fun x => !(x.kind == 0 && x.curd == curd)) ++ [sh] }]
  | _, _ => []

/-- A tile's message by its kind: the status it goes back with, and what the firmware does (R439, R440, Table 18.5). -/
def takeMessage (t step epoch : Nat) : Plan := fun s =>
  let w := fun (i : Nat) => s.rd .MB_T2F_DATA_DATA t i
  let job := s.jobOf t
  let give := fun (st : Nat) (s : State) =>
    [wr .MB_T2F_CTL_STATUS st t, wr .MB_T2F_CTL_OWN 0 t, wr .MB_TILE_PEND_TILES (clrB (s.rd .MB_TILE_PEND_TILES) (s.logicalOf t))]
  if ¬ s.fwReady ∨ ¬ s.domOn t ∨ s.rd .MB_T2F_CTL_OWN t = 0 then [] else
  match s.rd .MB_T2F_CTL_KIND t with
  | 2 => plans [shardPosted t job step epoch, give 0] s
  | 3 => plans [postEvent 0x000A 0 job [s.logicalOf t, bitsOf (w 0) 7 0, w 1],
      fun s => match s.cutGen job with | some g => endGen job g 0x82 s | none => [], give 0] s
  | 4 => plans [postEvent 0x000B 0 job [s.logicalOf t, w 0, w 1], give 0] s
  | _ => give 0x84 s

/-- The firmware takes a tile's message; `step` and `epoch` are what the header of a posted shard records. -/
def execTileMessageTake (tile : Tile) (step : W64) (epoch : BitVec 16) (s : State) : Outcome State Fault Refusal :=
  .next <| s.perform (takeMessage tile step.toNat epoch.toNat)

/-- A posted shard goes from the staging region to host storage (R411). -/
def hostTransfer (job kind curd : Nat) : Plan := fun s =>
  match s.jobAt job, s.cutGen job with
  | some j, some g =>
    match g.shards.find? fun x => x.kind == kind && x.curd == curd && x.host && !x.stored with
    | some x =>
      if ¬ s.fwReady then [] else
      [genSet job g.gen fun g => { g with shards := g.shards.map fun y => if y.kind = kind ∧ y.curd = curd then { y with stored := true } else y },
       .parts fun p => { p with hostOut := p.hostOut ++ [⟨j.jobId, g.gen, kind, curd, x.addr, x.len + 64⟩] }]
    | none => []
  | _, _ => []

/-- A shard is stored by the host. -/
def execHostShardTransfer (job : Fin 64) (kind : Fin 3) (curd : BitVec 16) (s : State) : Outcome State Fault Refusal :=
  .next <| s.perform (hostTransfer job kind curd.toNat)

/-! ### The manifest (R413, Tables 17.3 and 17.4) -/

/-- Every shard of a generation of `curds` curds is among those posted, clean of failure, and stored where the host is its destination. -/
def complete_ (curds : Nat) (l : List Shard) : Bool :=
  (List.range curds).all (fun c => l.any fun x => x.kind == 0 && x.curd == c && x.status == 0 && (!x.host || x.stored))
    && [1, 2].all fun k => l.any fun x => x.kind == k && x.status == 0 && (!x.host || x.stored)

/-- A manifest entry of a shard. -/
def shardEntry (x : Shard) : List Byte :=
  leBytes 1 x.kind ++ leBytes 1 ((if x.poison then 1 else 0) + (if x.host then 2 else 0)) ++ leBytes 2 x.curd ++ leBytes 2 x.writer
    ++ leBytes 2 (if x.host then 0 else x.node) ++ leBytes 8 x.addr ++ leBytes 8 x.len ++ x.sha ++ leBytes 4 x.crc ++ leBytes 4 0

/-- The shards in the manifest's order: curds ascending, then KIND 1 and KIND 2 (log entry 55). -/
def manifestOrder (curds : Nat) (l : List Shard) : List Shard :=
  (List.range curds).filterMap (fun c => l.find? fun x => x.kind == 0 && x.curd == c) ++ [1, 2].filterMap fun k => l.find? fun x => x.kind == k

/-- The manifest of a generation. -/
def State.manifest (s : State) (j : Job) (y : Layout) (g : CkGen) (sign : Bool) (l : List Shard) : List Byte :=
  let es := manifestOrder y.curds l
  let pub := Config.mldsaPublic s.devSeed
  let head := leBytes 2 1 ++ leBytes 1 ((if sign then 1 else 0) + (if es.any (·.poison) then 2 else 0)) ++ leBytes 1 0 ++ leBytes 4 g.gen
    ++ leBytes 8 j.jobId ++ leBytes 8 g.step ++ leBytes 2 y.epoch ++ leBytes 2 y.curds ++ leBytes 4 es.length ++ leBytes 8 (g.cut - 1)
    ++ leBytes 8 (j.lFirst - 1) ++ (if sign then sha3_256 pub else leBytes 32 0) ++ y.digest ++ leBytes 2 (s.node 0) ++ leBytes 142 0
  let body := head ++ es.flatMap shardEntry
  let signed := body ++ sha3_256 body ++ leBytes 32 0
  if sign then signed ++ (Config.mldsaSign s.devSeed signed ++ List.replicate 2432 0).take 2432 ++ (pub ++ List.replicate 1312 0).take 1312 else signed

/-- The root writes the manifest to its slot at each destination the policy names; one for the host also goes to host storage. -/
def writeManifest (j : Job) (p : CkPolicy) (g : CkGen) (bs : List Byte) (places : List (BitVec 48)) : Plan :=
  planAll (p.dests.zip places) fun (d, a) => plans
    [sendTo d a.toNat bs [],
     fun _ => if d.host then [.parts fun x => { x with hostOut := x.hostOut ++ [⟨j.jobId, g.gen, 255, 0, a.toNat, bs.length⟩] }] else []]

/-- The end of a generation: at the root, once every shard is posted and stored, the manifest unless the shards are mixed; on any other package, what the
root reports. A clean manifest makes the generation's slots the newest valid ones. -/
def manifestWrite (job : Nat) (others : List Shard) (places : List (BitVec 48)) (rootStatus : Nat) : Plan := fun s =>
  match s.jobAt job, s.parts.ck.find job, s.cutGen job with
  | some j, some k, some g =>
    if ¬ s.fwReady then [] else
    let valid : Act := ckSet job fun k => { k with newest := g.slots.map some }
    if s.node 0 ≠ j.root then (if rootStatus = 0 then [valid] else []) ++ endGen job g rootStatus s
    else
      let y := s.layoutAt j.layoutAddr
      let l := g.shards ++ others
      match k.at g.step with
      | none => []
      | some p =>
        if ¬ complete_ y.curds l then []
        else if mixed l then endGen job g 0x81 s
        else
          let poison := l.any (·.poison)
          let status := if poison then 0x40 else 0
          plans
           [writeManifest j p g (s.manifest j y g p.sign l) places,
            fun s => (if p.sign then [bump s .SC_OPS_SIGN 1] else []) ++ (if poison then [] else [valid]),
            endGen job g status] s
  | _, _, _ => []

/-- The manifest of a cut generation. `others` are the shards that other packages posted, `places` the manifest's addresses, and `rootStatus` what the
root reports to another package. -/
def execManifestWrite (job : Fin 64) (others : List Shard) (places : List (BitVec 48)) (rootStatus : Byte) (s : State) : Outcome State Fault Refusal :=
  .next <| s.perform (manifestWrite job others places rootStatus.toNat)

/-- CK_FRAMES + 8 frames after the cut a generation with a shard that is not posted is incomplete (Table 17.5). -/
def execCheckpointDeadline (job : Fin 64) (others : List Shard) (s : State) : Outcome State Fault Refusal :=
  .next <| s.perform fun s =>
    match s.jobAt job, s.parts.ck.find job, s.cutGen job with
    | some j, some k, some g =>
      match k.at g.step with
      | none => []
      | some p =>
        let due := (g.cut - 1 + (p.ckFrames + 8) * s.rd .GT_FRAME_CUR_LEN) % 2 ^ 64
        let l := (g.shards ++ others).map fun x => { x with stored := true }
        if ¬ s.fwReady ∨ gtcBefore s.gtc due ∨ complete_ (s.layoutAt j.layoutAddr).curds l then [] else endGen job g 0x82 s
    | _, _, _ => []

/-! ### Restore (R414, R416 to R419) -/

/-- A manifest copy as it is read. -/
structure Manifest where
  flags : Nat
  gen : Nat
  jobId : Nat
  step : Nat
  epoch : Nat
  curds : Nat
  lFirst : Nat
  tCut : Nat
  entries : List ManEntry
  sound : Bool
deriving DecidableEq, Repr

/-- A manifest copy: its fields, and whether FORMAT, MDIGEST and SHARDS hold and, where a signer is required (nonzero), its signature (R414). -/
def readManifest (bs : List Byte) (signer : Nat) : Manifest :=
  let n := fun (o k : Nat) => leNat ((bs.drop o).take k)
  let shards := n 28 4
  let body := bs.take (256 + 64 * shards)
  let tail := bs.drop (256 + 64 * shards)
  let key := (tail.drop 2496).take 1312
  let signedOk := testB (n 2 1) 0 && n 48 32 == signer && leNat (sha3_256 key) == signer
    && Config.mldsaVerify key (body ++ tail.take 64) ((tail.drop 64).take 2420)
  { flags := n 2 1, gen := n 4 4, jobId := n 8 8, step := n 16 8, epoch := n 24 2, curds := n 26 2, lFirst := n 40 8, tCut := n 32 8
    sound := n 0 2 == 1 && sha3_256 body == tail.take 32 && shards == n 26 2 + 2 && (signer == 0 || signedOk)
    entries := (List.range shards).map fun i =>
      let o := 256 + 64 * i
      ⟨n o 1, testB (n (o + 1) 1) 0, testB (n (o + 1) 1) 1, n (o + 2) 2, n (o + 4) 2, n (o + 6) 2, n (o + 8) 8, n (o + 16) 8,
       (bs.drop (o + 24)).take 32, n (o + 56) 4⟩ }

/-- A valid copy (R414). -/
def Manifest.valid (x : Manifest) : Bool := x.sound && !testB x.flags 1

/-- The copy a restore selects, or the status it returns (R416). -/
def selectManifest (copies : List Manifest) (jobId gen : Nat) : Manifest ⊕ Nat :=
  let mine := copies.filter fun x => x.jobId == jobId && (gen == 0 || x.gen == gen)
  let best := (mine.filter Manifest.valid).foldl (fun (b : Option Manifest) x => match b with
    | some y => if y.gen < x.gen then some x else some y
    | none => some x) none
  match best with
  | some x => .inl x
  | none => .inr (if gen ≠ 0 ∧ mine ≠ [] ∧ mine.all (fun x => testB x.flags 1) then 0x40 else 0x82)

/-- A curd of the layout has other section sizes than its shard (R417). -/
def sizesDiffer (y : Layout) (headers : List (List Byte)) : Bool :=
  let n := fun (bs : List Byte) (o k : Nat) => leNat ((bs.drop o).take k)
  (y.entries.mapIdx fun c e => headers.any fun h => n h 2 1 == 0 && n h 6 2 == c
    && decide (n h 32 8 ≠ e.tsBytes ∨ n h 40 8 ≠ e.stkUnits * 65536 ∨ n h 48 8 ≠ e.spillUnits * 65536)).any id

/-- RESTORE: refused while a tile of the layout runs a job; then a generation is selected, its layout checked, and loading begins (R416, R417). -/
def restoreCmd (m : Nat) (copies headers : List (List Byte)) : Plan := fun s =>
  if ¬ s.serves m 0x0308 then [] else
  let a := s.mbArg m
  let addr := a 24 8 % 2 ^ 48
  let y := s.layoutAt addr
  let end_ := fun (st : Nat) => mailboxReturn m st [] s.gtc s
  let mine := y.mine (s.node 0)
  if mine.any fun p => match s.physOf p.2.tile with | some t => s.vr .TILE_JOB t != 0 | none => false then end_ 0x8C
  else match selectManifest (copies.map (readManifest · (a 32 32))) (a 0 8) (a 8 4) with
  | .inr st => end_ st
  | .inl x =>
    let job := s.parts.jobs.find y.job
    let invalid : Bool := match job with | some j => s.layoutInvalid y j.nodes | none => false
    let ovr : Bool := match job with | some j => y.overLimit j.tsLimit j.stackLimit | none => false
    if x.curds ≠ y.curds ∨ invalid ∨ sizesDiffer y headers then end_ 0x8E
    else if ovr then end_ 0x8F
    else
      let r : RestoreRun := ⟨x.jobId, y.job, x.gen, x.step, y.epoch, x.epoch, x.lFirst, x.tCut, addr, x.entries, true, 0, []⟩
      plans
      [fun s => [takeFresh s, .parts fun p => { p with restore := some r }],
       mailboxReturn m 0 (leBytes 4 x.gen ++ leBytes 4 0 ++ leBytes 8 (s.fresh 63)) s.gtc] s

/-- RESTORE; `copies` are the manifest copies at the destination and `headers` the shard headers, as the firmware reads them. -/
def execRestore (mailbox : Fin 64) (copies headers : List (List Byte)) (s : State) : Outcome State Fault Refusal :=
  .next <| s.perform (restoreCmd mailbox copies headers)

/-- What is wrong with one shard of a restore: 0 for nothing (R418). -/
def shardFault (r : RestoreRun) (e : ManEntry) (c : Option ShardCheck) : Nat :=
  match c with
  | none => 0x82
  | some x =>
    if x.status.toNat ≠ 0 then x.status.toNat
    else if x.jobId.toNat ≠ r.jobId ∨ x.step.toNat ≠ r.step ∨ x.gen.toNat ≠ r.gen ∨ x.epoch.toNat ≠ r.shardEpoch then 0x81
    else if x.sha ≠ e.sha ∨ x.crc.toNat ≠ e.crc ∨ x.poison then 0x82
    else 0

/-- The shards at fault: KIND, status, CURD and the header's STEP. -/
def offenders (r : RestoreRun) (l : List ShardCheck) : List (Nat × Nat × Nat × Nat) :=
  r.entries.filterMap fun e =>
    let c := l.find? fun x => x.kind.val == e.kind && x.curd.toNat == e.curd
    let st := shardFault r e c
    if st = 0 then none else some (e.kind, st, e.curd, match c with | some x => x.step.toNat | none => 0)

/-- A restored job: its layout, its first step and the launch of its first run (R401, R402, R419). -/
def Job.restored (j : Job) (r : RestoreRun) (tiles : List Nat) : Job :=
  { j with
    layoutAddr := r.layoutAddr
    tiles := tiles
    s0 := r.step + 1
    lFirst := r.lFirst + 1
    step := r.step + 1
    opened := 0
    prevEnd := r.tCut }

/-- Every check has passed: the epoch, the job's contexts and the launch are set (R419). -/
def restorePasses (r : RestoreRun) (l k : W64) (depth : BitVec 8) (sched : Option SchedMsg) : Plan := fun s =>
  let y := s.layoutAt r.layoutAddr
  let ts := ((y.mine (s.node 0)).filterMap fun p => s.physOf p.2.tile).eraseDups
  match s.parts.jobs.find r.job with
  | none => []
  | some j =>
    let msg : BContent := .arm ⟨r.job % 64, by omega⟩ depth l k sched
    plans
     [fun s => ts.flatMap fun t => if s.domOn t then [wr .CE_EPOCH_EPOCH r.epoch t] else [],
      fun _ => [.parts fun p => { p with jobs := p.jobs.put r.job (some (j.restored r ts)) }],
      planAll (List.range (min 256 j.commCount)) fun c => writeContext r.job c (j.commAddr + 256 * c) false,
      if s.node 0 = j.root then plans [takeContent msg, fun _ => [.parts fun p => { p with bcastOut := p.bcastOut ++ [msg] }]] else fun _ => []] s

/-- Loading has ended: the outcome, with every shard at fault, and the RESTORE event; a refused restore arms nothing. -/
def restoreEnd (shards : List ShardCheck) (l k : W64) (depth : BitVec 8) (sched : Option SchedMsg) : Plan := fun s =>
  match s.parts.restore with
  | none => []
  | some r =>
    if ¬ s.fwReady ∨ ¬ r.loading then [] else
    let bad := offenders r shards
    let st := match bad with | x :: _ => x.2.1 | [] => 0
    plans
     [fun _ => [.parts fun p => { p with restore := some { r with loading := false, status := st, bad := bad } }],
      if bad.isEmpty then restorePasses r l k depth sched else fun _ => [],
      postEvent 0x0004 st r.job [r.gen]] s

/-- Restore loading ends: `shards` is what loading found of each shard; `l`, `k`, `depth` and `sched` are those of the launch that the firmware
arms. -/
def execRestoreLoadComplete (shards : List ShardCheck) (l k : W64) (depth : BitVec 8) (sched : Option SchedMsg) (s : State) :
    Outcome State Fault Refusal :=
  .next <| s.perform (restoreEnd shards l k depth sched)

/-- RESTORE_RESULT: the status, the count and up to 64 of the shards at fault; 0x84 where no restore of the job is known. -/
def execRestoreResult (mailbox : Fin 64) (s : State) : Outcome State Fault Refusal :=
  .next <| s.perform <| command mailbox 0x0309 (fun _ => []) fun s =>
    match s.parts.restore with
    | some r =>
      if r.jobId = s.mbArg mailbox 0 8 then
        (0, leBytes 1 r.status ++ leBytes 3 0 ++ leBytes 4 r.bad.length ++ leBytes 8 0 ++ (r.bad.take 64).flatMap fun x =>
          leBytes 1 x.1 ++ leBytes 1 x.2.1 ++ leBytes 2 x.2.2.1 ++ leBytes 8 x.2.2.2 ++ leBytes 4 0)
      else (0x84, [])
    | none => (0x84, [])

end Sys2Proof.Machine
end

