-- ==== Sys2Proof/Machine/Dispatch.lean ====
section
/-! DEFINITION. The dispatch: one arm per command, each one direct call of that command's meaning. -/
namespace Sys2Proof.Machine
open Host

def exec (i : Instr) (s : State) : Host.Outcome State Fault Refusal :=
  match i with
  | .syncMessageSend link => Sys2Proof.Machine.execSyncMessageSend link s
  | .syncMessage link upstream srcTime roundTrip srcHops => Sys2Proof.Machine.execSyncMessage link upstream srcTime roundTrip srcHops s
  | .cableMarker word => Sys2Proof.Machine.execCableMarker word s
  | .syncOutMarker => Sys2Proof.Machine.execSyncOutMarker s
  | .lossOfSource => Sys2Proof.Machine.execLossOfSource s
  | .gtCtlWrite value => Sys2Proof.Machine.execGtCtlWrite value s
  | .frameArm value => Sys2Proof.Machine.execFrameArm value s
  | .scheduleTakesEffect => Sys2Proof.Machine.execScheduleTakesEffect s
  | .geyserTick => Sys2Proof.Machine.execGeyserTick s
  | .gtTileDone tile => Sys2Proof.Machine.execGtTileDone tile s
  | .overrunLateLimit tile => Sys2Proof.Machine.execOverrunLateLimit tile s
  | .frameOverrunRecord => Sys2Proof.Machine.execFrameOverrunRecord s
  | .launchArm slot value depth => Sys2Proof.Machine.execLaunchArm slot value depth s
  | .launchTaken slot => Sys2Proof.Machine.execLaunchTaken slot s
  | .launchCancel slot failedNode => Sys2Proof.Machine.execLaunchCancel slot failedNode s
  | .launchRelease slot => Sys2Proof.Machine.execLaunchRelease slot s
  | .launchDecisionCancel slot bothParentsLost failedNode => Sys2Proof.Machine.execLaunchDecisionCancel slot bothParentsLost failedNode s
  | .integerAlu tile op rd ra b rc => Sys2Proof.Machine.execIntegerAlu tile op rd ra b rc s
  | .integerMultiply tile op rd ra b => Sys2Proof.Machine.execIntegerMultiply tile op rd ra b s
  | .integerDivide tile op rd ra b => Sys2Proof.Machine.execIntegerDivide tile op rd ra b s
  | .branch tile kind target => Sys2Proof.Machine.execBranch tile kind target s
  | .localLoad tile dest base off size => Sys2Proof.Machine.execLocalLoad tile dest base off size s
  | .localStore tile src base off size => Sys2Proof.Machine.execLocalStore tile src base off size s
  | .tileStoreLoad tile dest base off size => Sys2Proof.Machine.execTileStoreLoad tile dest base off size s
  | .tileStoreStore tile src base off size => Sys2Proof.Machine.execTileStoreStore tile src base off size s
  | .stackRemoteLoad tile dest base off size => Sys2Proof.Machine.execStackRemoteLoad tile dest base off size s
  | .stackRemoteStore tile src base off size => Sys2Proof.Machine.execStackRemoteStore tile src base off size s
  | .flaggedStore tile src base off => Sys2Proof.Machine.execFlaggedStore tile src base off s
  | .remoteAtomic tile op ty dest base off operand compare => Sys2Proof.Machine.execRemoteAtomic tile op ty dest base off operand compare s
  | .scalarFp tile op fmt rd ra rb rc => Sys2Proof.Machine.execScalarFp tile op fmt rd ra rb rc s
  | .scalarFpDivide tile op fmt rd ra rb => Sys2Proof.Machine.execScalarFpDivide tile op fmt rd ra rb s
  | .shortVectorArithmetic tile op fmt rd ra rb rc => Sys2Proof.Machine.execShortVectorArithmetic tile op fmt rd ra rb rc s
  | .shortVectorPermute tile op rd ra rb => Sys2Proof.Machine.execShortVectorPermute tile op rd ra rb s
  | .descriptorIssue tile engine form => Sys2Proof.Machine.execDescriptorIssue tile engine form s
  | .vectorEngineInstruction tile word => Sys2Proof.Machine.execVectorEngineInstruction tile word s
  | .counterWait tile counter rv => Sys2Proof.Machine.execCounterWait tile counter rv s
  | .counterWaitDeadline tile counter rv rdl => Sys2Proof.Machine.execCounterWaitDeadline tile counter rv rdl s
  | .waitRelease tile => Sys2Proof.Machine.execWaitRelease tile s
  | .waitDeadline tile => Sys2Proof.Machine.execWaitDeadline tile s
  | .counterRead tile rd counter => Sys2Proof.Machine.execCounterRead tile rd counter s
  | .counterSet tile counter rs => Sys2Proof.Machine.execCounterSet tile counter rs s
  | .summaryRead tile rd slot word => Sys2Proof.Machine.execSummaryRead tile rd slot word s
  | .branchOnSummary tile slot mask target => Sys2Proof.Machine.execBranchOnSummary tile slot mask target s
  | .timeRead tile rd which => Sys2Proof.Machine.execTimeRead tile rd which s
  | .randomDraw tile rd slot => Sys2Proof.Machine.execRandomDraw tile rd slot s
  | .exceptionReturn tile => Sys2Proof.Machine.execExceptionReturn tile s
  | .loadAnswer tile n => Sys2Proof.Machine.execLoadAnswer tile n s
  | .interruptEntry tile => Sys2Proof.Machine.execInterruptEntry tile s
  | .doubleFaultMessage tile => Sys2Proof.Machine.execDoubleFaultMessage tile s
  | .tcRun tile value => Sys2Proof.Machine.execTcRun tile value s
  | .tcStep tile => Sys2Proof.Machine.execTcStep tile s
  | .tcCntWrite tile counter value => Sys2Proof.Machine.execTcCntWrite tile counter value s
  | .contextSaveDone tile => Sys2Proof.Machine.execContextSaveDone tile s
  | .preemptDeferralLimit tile => Sys2Proof.Machine.execPreemptDeferralLimit tile s
  | .tileWatchdog tile => Sys2Proof.Machine.execTileWatchdog tile s
  | .contextRestore tile remote => Sys2Proof.Machine.execContextRestore tile remote s
  | .mma tile => Sys2Proof.Machine.execMma tile s
  | .epi tile => Sys2Proof.Machine.execEpi tile s
  | .mmf tile => Sys2Proof.Machine.execMmf tile s
  | .matrixCompletion tile => Sys2Proof.Machine.execMatrixCompletion tile s
  | .mxBistStart tile => Sys2Proof.Machine.execMxBistStart tile s
  | .mxBistDone tile => Sys2Proof.Machine.execMxBistDone tile s
  | .vxSetvl tile => Sys2Proof.Machine.execVxSetvl tile s
  | .vxBcast tile => Sys2Proof.Machine.execVxBcast tile s
  | .vxLd tile => Sys2Proof.Machine.execVxLd tile s
  | .vxSt tile => Sys2Proof.Machine.execVxSt tile s
  | .vxLds tile => Sys2Proof.Machine.execVxLds tile s
  | .vxSts tile => Sys2Proof.Machine.execVxSts tile s
  | .vxGather tile => Sys2Proof.Machine.execVxGather tile s
  | .vxScatter tile => Sys2Proof.Machine.execVxScatter tile s
  | .vxScatadd tile => Sys2Proof.Machine.execVxScatadd tile s
  | .vxArith tile => Sys2Proof.Machine.execVxArith tile s
  | .vxLogic tile => Sys2Proof.Machine.execVxLogic tile s
  | .vxCmp tile => Sys2Proof.Machine.execVxCmp tile s
  | .vxSel tile => Sys2Proof.Machine.execVxSel tile s
  | .vxCvt tile => Sys2Proof.Machine.execVxCvt tile s
  | .vxWmul tile => Sys2Proof.Machine.execVxWmul tile s
  | .vxDot tile => Sys2Proof.Machine.execVxDot tile s
  | .vxPerm tile => Sys2Proof.Machine.execVxPerm tile s
  | .vxSlide tile => Sys2Proof.Machine.execVxSlide tile s
  | .vxRed tile => Sys2Proof.Machine.execVxRed tile s
  | .vxXclr tile => Sys2Proof.Machine.execVxXclr tile s
  | .vxXdot tile => Sys2Proof.Machine.execVxXdot tile s
  | .vxXsum tile => Sys2Proof.Machine.execVxXsum tile s
  | .vxXrd tile => Sys2Proof.Machine.execVxXrd tile s
  | .vxTld tile => Sys2Proof.Machine.execVxTld tile s
  | .vxTst tile => Sys2Proof.Machine.execVxTst tile s
  | .vxTbc tile => Sys2Proof.Machine.execVxTbc tile s
  | .vxTew tile => Sys2Proof.Machine.execVxTew tile s
  | .vxTred tile => Sys2Proof.Machine.execVxTred tile s
  | .vxTtr tile => Sys2Proof.Machine.execVxTtr tile s
  | .vxTrow tile => Sys2Proof.Machine.execVxTrow tile s
  | .vxTput tile => Sys2Proof.Machine.execVxTput tile s
  | .vxSumm tile => Sys2Proof.Machine.execVxSumm tile s
  | .vxSummaryComplete tile => Sys2Proof.Machine.execVxSummaryComplete tile s
  | .vxMark tile => Sys2Proof.Machine.execVxMark tile s
  | .vxLend tile => Sys2Proof.Machine.execVxLend tile s
  | .vxVtypeWrite tile value => Sys2Proof.Machine.execVxVtypeWrite tile value s
  | .vxFcsrWrite tile value => Sys2Proof.Machine.execVxFcsrWrite tile value s
  | .vxRnselWrite tile value => Sys2Proof.Machine.execVxRnselWrite tile value s
  | .svLoad tile => Sys2Proof.Machine.execSvLoad tile s
  | .svUpdate tile => Sys2Proof.Machine.execSvUpdate tile s
  | .svSolve tile => Sys2Proof.Machine.execSvSolve tile s
  | .svFree tile => Sys2Proof.Machine.execSvFree tile s
  | .solvePhaseEnd tile => Sys2Proof.Machine.execSolvePhaseEnd tile s
  | .solveDeadline tile => Sys2Proof.Machine.execSolveDeadline tile s
  | .solverCompletion tile => Sys2Proof.Machine.execSolverCompletion tile s
  | .svPivThreshWrite tile value => Sys2Proof.Machine.execSvPivThreshWrite tile value s
  | .fsOpen tile form => Sys2Proof.Machine.execFsOpen tile form s
  | .fsOpenStart tile => Sys2Proof.Machine.execFsOpenStart tile s
  | .haloArrival tile => Sys2Proof.Machine.execHaloArrival tile s
  | .compareEnd tile => Sys2Proof.Machine.execCompareEnd tile s
  | .haloLate tile => Sys2Proof.Machine.execHaloLate tile s
  | .forceSquash tile => Sys2Proof.Machine.execForceSquash tile s
  | .fsCalderaWrite tile value => Sys2Proof.Machine.execFsCalderaWrite tile value s
  | .rnSlotLoad tile slot value => Sys2Proof.Machine.execRnSlotLoad tile slot value s
  | .rnSlotSave tile slot value => Sys2Proof.Machine.execRnSlotSave tile slot value s
  | .rnSlotTransferDone tile slot => Sys2Proof.Machine.execRnSlotTransferDone tile slot s
  | .rnOwnerWrite tile slot value => Sys2Proof.Machine.execRnOwnerWrite tile slot value s
  | .rnFillStart tile value => Sys2Proof.Machine.execRnFillStart tile value s
  | .rnFillDone tile => Sys2Proof.Machine.execRnFillDone tile s
  | .copy tile => Sys2Proof.Machine.execCopy tile s
  | .hash tile => Sys2Proof.Machine.execHash tile s
  | .zero tile => Sys2Proof.Machine.execZero tile s
  | .dmaCompletion tile => Sys2Proof.Machine.execDmaCompletion tile s
  | .dmRecWrite tile ctl value => Sys2Proof.Machine.execDmRecWrite tile ctl value s
  | .stackRequest source write long addr len data poison => Sys2Proof.Machine.execStackRequest source write long addr len data poison s
  | .stackAtomic source addr op ty operand compare => Sys2Proof.Machine.execStackAtomic source addr op ty operand compare s
  | .stackReadResponse stack channel entry => Sys2Proof.Machine.execStackReadResponse stack channel entry s
  | .stackWriteAck stack channel => Sys2Proof.Machine.execStackWriteAck stack channel s
  | .refreshWindow => Sys2Proof.Machine.execRefreshWindow s
  | .stackTempSample stack temp => Sys2Proof.Machine.execStackTempSample stack temp s
  | .bandFallCheck => Sys2Proof.Machine.execBandFallCheck s
  | .lsCtlWrite stack value => Sys2Proof.Machine.execLsCtlWrite stack value s
  | .scrubReadDue => Sys2Proof.Machine.execScrubReadDue s
  | .uncorrectableRecord bucket => Sys2Proof.Machine.execUncorrectableRecord bucket s
  | .bucketLeak cls => Sys2Proof.Machine.execBucketLeak cls s
  | .bktCfgWrite cls value => Sys2Proof.Machine.execBktCfgWrite cls value s
  | .bucketClear cls => Sys2Proof.Machine.execBucketClear cls s
  | .scrubPeriodWrite value => Sys2Proof.Machine.execScrubPeriodWrite value s
  | .pprStart value => Sys2Proof.Machine.execPprStart value s
  | .pprDone => Sys2Proof.Machine.execPprDone s
  | .tsRepairStart value => Sys2Proof.Machine.execTsRepairStart value s
  | .tsRepairDone => Sys2Proof.Machine.execTsRepairDone s
  | .rawWrite value => Sys2Proof.Machine.execRawWrite value s
  | .rawRead value => Sys2Proof.Machine.execRawRead value s
  | .rawAccessDone => Sys2Proof.Machine.execRawAccessDone s
  | .linkBlockSend link => Sys2Proof.Machine.execLinkBlockSend link s
  | .linkBlockReceive link block => Sys2Proof.Machine.execLinkBlockReceive link block s
  | .linkDetect link lane0 lane1 lane2 lane3 => Sys2Proof.Machine.execLinkDetect link lane0 lane1 lane2 lane3 s
  | .linkAlign link lane0 lane1 lane2 lane3 => Sys2Proof.Machine.execLinkAlign link lane0 lane1 lane2 lane3 s
  | .linkAlignTimeout link => Sys2Proof.Machine.execLinkAlignTimeout link s
  | .linkConfig link peer => Sys2Proof.Machine.execLinkConfig link peer s
  | .linkQualifyEnd link corr0 corr1 corr2 corr3 uncorrectable => Sys2Proof.Machine.execLinkQualifyEnd link corr0 corr1 corr2 corr3 uncorrectable s
  | .linkProbationEnd link worst uncorrectable => Sys2Proof.Machine.execLinkProbationEnd link worst uncorrectable s
  | .linkRetrainTimeout link noLane => Sys2Proof.Machine.execLinkRetrainTimeout link noLane s
  | .linkDownEnd link => Sys2Proof.Machine.execLinkDownEnd link s
  | .laneShort link lane => Sys2Proof.Machine.execLaneShort link lane s
  | .laneLockLoss link lane => Sys2Proof.Machine.execLaneLockLoss link lane s
  | .linkRestart link value => Sys2Proof.Machine.execLinkRestart link value s
  | .linkDrainTimeout link => Sys2Proof.Machine.execLinkDrainTimeout link s
  | .forwardPacket fdie => Sys2Proof.Machine.execForwardPacket fdie s
  | .packetArrival fdie => Sys2Proof.Machine.execPacketArrival fdie s
  | .packetRelease fdie => Sys2Proof.Machine.execPacketRelease fdie s
  | .load point => Sys2Proof.Machine.execLoad point s
  | .store point => Sys2Proof.Machine.execStore point s
  | .flag point => Sys2Proof.Machine.execFlag point s
  | .ceData point => Sys2Proof.Machine.execCeData point s
  | .amoAdd point => Sys2Proof.Machine.execAmoAdd point s
  | .amoMin point => Sys2Proof.Machine.execAmoMin point s
  | .amoMax point => Sys2Proof.Machine.execAmoMax point s
  | .amoCas point => Sys2Proof.Machine.execAmoCas point s
  | .reconcile point => Sys2Proof.Machine.execReconcile point s
  | .ceToken point => Sys2Proof.Machine.execCeToken point s
  | .trackerResponse tile => Sys2Proof.Machine.execTrackerResponse tile s
  | .trackerTimeout tile => Sys2Proof.Machine.execTrackerTimeout tile s
  | .flagSend tile => Sys2Proof.Machine.execFlagSend tile s
  | .reconcileAnswer link => Sys2Proof.Machine.execReconcileAnswer link s
  | .reconcileTimeout link => Sys2Proof.Machine.execReconcileTimeout link s
  | .heldRequestAnswer link => Sys2Proof.Machine.execHeldRequestAnswer link s
  | .routeEntryWrite fdie value => Sys2Proof.Machine.execRouteEntryWrite fdie value s
  | .routeEntryRead fdie value => Sys2Proof.Machine.execRouteEntryRead fdie value s
  | .niCtlWrite fdie value => Sys2Proof.Machine.execNiCtlWrite fdie value s
  | .niMapWrite fdie logical value => Sys2Proof.Machine.execNiMapWrite fdie logical value s
  | .niReplFlipWrite fdie region value => Sys2Proof.Machine.execNiReplFlipWrite fdie region value s
  | .replFlipAt region => Sys2Proof.Machine.execReplFlipAt region s
  | .allreduce tile => Sys2Proof.Machine.execAllreduce tile s
  | .reduceScatter tile => Sys2Proof.Machine.execReduceScatter tile s
  | .allgather tile => Sys2Proof.Machine.execAllgather tile s
  | .broadcast tile => Sys2Proof.Machine.execBroadcast tile s
  | .barrier tile => Sys2Proof.Machine.execBarrier tile s
  | .permute tile => Sys2Proof.Machine.execPermute tile s
  | .collectivePieceSend agent => Sys2Proof.Machine.execCollectivePieceSend agent s
  | .collectiveTimeout agent => Sys2Proof.Machine.execCollectiveTimeout agent s
  | .collectiveSoftwareAbort tile => Sys2Proof.Machine.execCollectiveSoftwareAbort tile s
  | .collectiveCompletion agent => Sys2Proof.Machine.execCollectiveCompletion agent s
  | .staleHoldEnd tile => Sys2Proof.Machine.execStaleHoldEnd tile s
  | .triggeredGo slot => Sys2Proof.Machine.execTriggeredGo slot s
  | .triggeredAt slot => Sys2Proof.Machine.execTriggeredAt slot s
  | .cutOrder job step orders => Sys2Proof.Machine.execCutOrder job step orders s
  | .checkpointCut job entry entryPlace layoutPlace => Sys2Proof.Machine.execCheckpointCut job entry entryPlace layoutPlace s
  | .manifestWrite job others places rootStatus => Sys2Proof.Machine.execManifestWrite job others places rootStatus s
  | .checkpointDeadline job others => Sys2Proof.Machine.execCheckpointDeadline job others s
  | .hostShardTransfer job kind curd => Sys2Proof.Machine.execHostShardTransfer job kind curd s
  | .restoreLoadComplete shards l k depth sched => Sys2Proof.Machine.execRestoreLoadComplete shards l k depth sched s
  | .managementPeriod started => Sys2Proof.Machine.execManagementPeriod started s
  | .telemetrySample => Sys2Proof.Machine.execTelemetrySample s
  | .mailboxHandover mailbox port seq cmd ifver reqLen tag payload => Sys2Proof.Machine.execMailboxHandover mailbox port seq cmd ifver reqLen tag payload s
  | .getVersion mailbox => Sys2Proof.Machine.execGetVersion mailbox s
  | .getStatus mailbox => Sys2Proof.Machine.execGetStatus mailbox s
  | .getFabricMap mailbox => Sys2Proof.Machine.execGetFabricMap mailbox s
  | .funcSet mailbox => Sys2Proof.Machine.execFuncSet mailbox s
  | .funcGet mailbox => Sys2Proof.Machine.execFuncGet mailbox s
  | .powerCap mailbox => Sys2Proof.Machine.execPowerCap mailbox s
  | .dormant mailbox => Sys2Proof.Machine.execDormant mailbox s
  | .nodeSet mailbox => Sys2Proof.Machine.execNodeSet mailbox s
  | .routeWrite mailbox => Sys2Proof.Machine.execRouteWrite mailbox s
  | .linkCtl mailbox => Sys2Proof.Machine.execLinkCtl mailbox s
  | .timeCtl mailbox => Sys2Proof.Machine.execTimeCtl mailbox s
  | .replSet mailbox => Sys2Proof.Machine.execReplSet mailbox s
  | .replFlip mailbox => Sys2Proof.Machine.execReplFlip mailbox s
  | .jobSetup mailbox agree => Sys2Proof.Machine.execJobSetup mailbox agree s
  | .setupReady job => Sys2Proof.Machine.execSetupReady job s
  | .jobArm mailbox => Sys2Proof.Machine.execJobArm mailbox s
  | .jobCancel mailbox => Sys2Proof.Machine.execJobCancel mailbox s
  | .jobEnd mailbox => Sys2Proof.Machine.execJobEnd mailbox s
  | .preempt mailbox => Sys2Proof.Machine.execPreempt mailbox s
  | .tileReset mailbox => Sys2Proof.Machine.execTileReset mailbox s
  | .ckptPolicy mailbox => Sys2Proof.Machine.execCkptPolicy mailbox s
  | .restore mailbox copies headers => Sys2Proof.Machine.execRestore mailbox copies headers s
  | .restoreResult mailbox => Sys2Proof.Machine.execRestoreResult mailbox s
  | .telemRead mailbox => Sys2Proof.Machine.execTelemRead mailbox s
  | .rindRead mailbox => Sys2Proof.Machine.execRindRead mailbox s
  | .eventWait mailbox => Sys2Proof.Machine.execEventWait mailbox s
  | .eventWaitTimeout mailbox => Sys2Proof.Machine.execEventWaitTimeout mailbox s
  | .attest mailbox => Sys2Proof.Machine.execAttest mailbox s
  | .tileMessagePost tile value => Sys2Proof.Machine.execTileMessagePost tile value s
  | .tileMessageTake tile step epoch => Sys2Proof.Machine.execTileMessageTake tile step epoch s
  | .f2tPost tile kind len seq => Sys2Proof.Machine.execF2tPost tile kind len seq s
  | .f2tReturn tile value => Sys2Proof.Machine.execF2tReturn tile value s
  | .mgmtWatchdog core periods => Sys2Proof.Machine.execMgmtWatchdog core periods s
  | .mgmtSramUe offset => Sys2Proof.Machine.execMgmtSramUe offset s
  | .auxPowerOn reversed => Sys2Proof.Machine.execAuxPowerOn reversed s
  | .railsGood => Sys2Proof.Machine.execRailsGood s
  | .railLoss rails => Sys2Proof.Machine.execRailLoss rails s
  | .pkgResetPin => Sys2Proof.Machine.execPkgResetPin s
  | .pkgReset => Sys2Proof.Machine.execPkgReset s
  | .bootImage image => Sys2Proof.Machine.execBootImage image s
  | .rennetLoad image badTiles => Sys2Proof.Machine.execRennetLoad image badTiles s
  | .treeBroadcast src msg children => Sys2Proof.Machine.execTreeBroadcast src msg children s
  | .hopAck sender ident named => Sys2Proof.Machine.execHopAck sender ident named s
  | .hopAckTimeout child ident orphans => Sys2Proof.Machine.execHopAckTimeout child ident orphans s
  | .adopt sender ident named => Sys2Proof.Machine.execAdopt sender ident named s
  | .subtreeReport ident child report => Sys2Proof.Machine.execSubtreeReport ident child report s
  | .pmDomEnWrite domain enable => Sys2Proof.Machine.execPmDomEnWrite domain enable s
  | .vxCtlEnWrite tile enable => Sys2Proof.Machine.execVxCtlEnWrite tile enable s
  | .svCtlEnWrite tile enable => Sys2Proof.Machine.execSvCtlEnWrite tile enable s
  | .fsCtlEnWrite tile enable => Sys2Proof.Machine.execFsCtlEnWrite tile enable s
  | .dmCtlEnWrite tile enable => Sys2Proof.Machine.execDmCtlEnWrite tile enable s
  | .ceCtlEnWrite tile enable => Sys2Proof.Machine.execCeCtlEnWrite tile enable s
  | .ecScrubCtlEnWrite enable => Sys2Proof.Machine.execEcScrubCtlEnWrite enable s
  | .cvCtlEnWrite tile enable0 enable1 => Sys2Proof.Machine.execCvCtlEnWrite tile enable0 enable1 s
  | .functionStartingEnd func failed => Sys2Proof.Machine.execFunctionStartingEnd func failed s
  | .functionDrainingEnd func => Sys2Proof.Machine.execFunctionDrainingEnd func s
  | .staggerSlotGrant => Sys2Proof.Machine.execStaggerSlotGrant s
  | .powerSample watts dieMax hotDie => Sys2Proof.Machine.execPowerSample watts dieMax hotDie s
  | .dutyStep => Sys2Proof.Machine.execDutyStep s
  | .dieWarning temp die => Sys2Proof.Machine.execDieWarning temp die s
  | .thermalCritical => Sys2Proof.Machine.execThermalCritical s
  | .fuseProgram => Sys2Proof.Machine.execFuseProgram s
  | .fuseProgramDone => Sys2Proof.Machine.execFuseProgramDone s
  | .wakePin => Sys2Proof.Machine.execWakePin s
  | .wakeWrite => Sys2Proof.Machine.execWakeWrite s
  | .wakeAlarm => Sys2Proof.Machine.execWakeAlarm s
  | .wakeComplete => Sys2Proof.Machine.execWakeComplete s
  | .measurementExtend value => Sys2Proof.Machine.execMeasurementExtend value s
  | .lifecycleScrap => Sys2Proof.Machine.execLifecycleScrap s
  | .tapInstruction instr => Sys2Proof.Machine.execTapInstruction instr s
  | .rindRecordWrite => Sys2Proof.Machine.execRindRecordWrite s
  | .lastGasp => Sys2Proof.Machine.execLastGasp s
  | .bbWriteGo value => Sys2Proof.Machine.execBbWriteGo value s
  | .bbRead value => Sys2Proof.Machine.execBbRead value s
  | .bbReadDone => Sys2Proof.Machine.execBbReadDone s
  | .i3cPointerWrite pointer => Sys2Proof.Machine.execI3cPointerWrite pointer s
  | .i3cWakeWrite pointer data => Sys2Proof.Machine.execI3cWakeWrite pointer data s
  | .i3cPrivateRead count => Sys2Proof.Machine.execI3cPrivateRead count s
  | .i3cDynamicAddress address => Sys2Proof.Machine.execI3cDynamicAddress address s
  | .i3cGetstatus => Sys2Proof.Machine.execI3cGetstatus s
  | .i3cSwapDetect edges => Sys2Proof.Machine.execI3cSwapDetect edges s
  | .cvArm tile unit => Sys2Proof.Machine.execCvArm tile unit s
  | .cvRecordDecision tile unit => Sys2Proof.Machine.execCvRecordDecision tile unit s
  | .cvDeadline tile unit => Sys2Proof.Machine.execCvDeadline tile unit s
  | .cvDisarm tile unit => Sys2Proof.Machine.execCvDisarm tile unit s
  | .registerWrite addr value core => Sys2Proof.Machine.execRegisterWrite addr value core s
  | .adoptTimeout ident named => Sys2Proof.Machine.execAdoptTimeout ident named s
  | .measurementExtendDone => Sys2Proof.Machine.execMeasurementExtendDone s

end Sys2Proof.Machine
end

