-- ==== Sys2Proof/Machine/Idle.lean ====
section
/-! DEFINITION. A clock cycle in which no command is taken. -/
namespace Sys2Proof.Machine

/-- One clock cycle passes: the clock advances, and the GTC with it while domain 171 is ON (R34, R36). -/
def idle (s : State) : State :=
  { s with clock := s.clock + 1, gtc := if s.domOn 171 then (s.gtc + 1) % 2 ^ 64 else s.gtc }

end Sys2Proof.Machine
end

