-- ==== Sys2Proof/Safety.lean ====
section
/-! DEFINITION. The terms in which claims are stated: the invariant of the machine, and what a command does to the state and
leaves alone. -/
namespace Sys2Proof.Machine

/-- The numbered state and the memory are in canonical form, every place holds a value of its width, and the GTC is a 64-bit
counter (R34). -/
def State.wf (s : State) : Bool :=
  swf Loc.num Loc.resetVal s.file && s.file.all (fun e => decide (e.2 < 2 ^ e.1.width)) && swf id (fun _ => (0 : Byte)) s.mem
    && decide (s.gtc < 2 ^ 64)

/-- From `s` to `t` the listed places take the listed values, each cut to its width, and the listed bytes of memory theirs; every
other place and byte keeps its value; the typed pieces become `parts`; and the GTC, the clock, the waiting commands, the fuses
and the rind log's MRAM do not change. -/
structure Effect (s t : State) (places : List (Loc × Nat)) (bytes : List (Nat × Byte)) (parts : Parts) : Prop where
  places_new : ∀ e ∈ places, t.get e.1 = e.2 % 2 ^ e.1.width
  places_kept : ∀ l, l ∉ places.map Prod.fst → t.get l = s.get l
  bytes_new : ∀ e ∈ bytes, t.byte e.1 = e.2
  bytes_kept : ∀ a, a ∉ bytes.map Prod.fst → t.byte a = s.byte a
  parts_eq : t.parts = parts
  gtc_eq : t.gtc = s.gtc
  clock_eq : t.clock = s.clock
  pending_eq : t.pending = s.pending
  fuses_eq : t.fuses = s.fuses
  mram_eq : t.mram = s.mram

/-- From `s` to `t` only the places and the bytes of memory that satisfy the tests may change, beside the typed pieces: every
other register, variable and byte, the GTC, the clock, the waiting commands, the fuses and the MRAM stay. -/
structure Within (s t : State) (places : Loc → Prop) (bytes : Nat → Prop) : Prop where
  places_kept : ∀ l, ¬ places l → t.get l = s.get l
  bytes_kept : ∀ a, ¬ bytes a → t.byte a = s.byte a
  gtc_eq : t.gtc = s.gtc
  clock_eq : t.clock = s.clock
  pending_eq : t.pending = s.pending
  fuses_eq : t.fuses = s.fuses
  mram_eq : t.mram = s.mram

/-- A register field of the claims. -/
abbrev R (f : Fld) (i : Nat := 0) (j : Nat := 0) : Loc := .reg f i j

/-- An internal variable of the claims. -/
abbrev V (v : Var) (i : Nat := 0) (j : Nat := 0) : Loc := .var v i j

/-- The places of the rind-log writer's queue (R495). -/
def rindPlaces (l : Loc) : Prop :=
  l = .reg .BB_SEQ_NEXT 0 0 ∨ l = .reg .BB_STAT_QOCC 0 0 ∨ l = .reg .BB_STAT_DROPPED 0 0 ∨ l = .var .BB_DUE 0 0
    ∨ l = .var .DROP_PEND 0 0

/-! ### The control core -/

/-- The core of tile `k` issues the instruction at its program counter: it runs, the instruction reads without error, and no register it reads or writes
awaits a load (R66, R67). -/
structure State.CoreReady (s : State) (k : Nat) (regs : List Rg) : Prop where
  issues : s.issues k = true
  imem : s.vr .IMEM_BAD k (s.pc k / 8) ≠ 1
  regs : regs.any (s.awaited k) = false

/-- What an instruction that completes leaves of the core's progress: it goes on at `pc` and shows that it runs. -/
def State.coreAtPc (s : State) (k pc : Nat) : List (Loc × Nat) :=
  [(V .PC k, pc % 65536), (V .STALLED k, 0), (V .SPEC_STALL k, 0), (V .STEPPING k, 0)]
    ++ if s.rd .TC_CTL_RUN k = 1 then [(R .TC_STAT_RUNNING k, 1)] else []

/-- What a destination register takes: gp0 takes nothing, and fpN is the low 64 bits of svN, whose mark stays (R65, R77). -/
def State.regTakes (s : State) (k : Nat) (d : Dest) (v : Nat) (mark : Bool) : List (Loc × Nat) :=
  let m := fun (b : Bool) => if b then 1 else 0
  match d with
  | .gp r => if r.val = 0 then [] else [(V .GP k r, v), (V .MARK_GP k r, m mark)]
  | .sv r => [(V .SV k r, v), (V .MARK_SV k r, m mark)]
  | .fp r => [(V .SV k r, putBits (s.sv k r) 0 64 v), (V .MARK_SV k r, m (mark || s.marked k (.sv r)))]

/-- An exception taken while INEXC is 0: the return point, the fault and the handler's address (R78). -/
def State.excTaken (s : State) (k ret : Nat) (x : Fault_) : List (Loc × Nat) :=
  [(R .TC_EXC_CAUSE k, x.cause), (R .TC_EXC_STATUS k, x.status), (R .TC_EXC_DEFERRED k, if x.deferred then 1 else 0), (R .TC_EXC_FPC k, x.fpc / 4),
   (R .TC_EPC_PC k, ret / 4), (R .TC_STAT_INEXC k, 1), (V .PC k, 4 * s.rd .TC_TVEC_VEC k), (V .STALLED k, 0), (V .SPEC_STALL k, 0), (V .STEPPING k, 0)]
    ++ match x.addr with | some a => [(R .TC_EXC_ADDR_ADDR k, a), (V .EXC_MARK k, if x.mark then 1 else 0)] | none => []

/-- The typed pieces after an exception is taken: no wait goes on, and the loads in flight were issued before the entry (R75, R530). -/
def Parts.excTaken (p : Parts) (k : Nat) : Parts :=
  { p with
    waits := p.waits.put k none
    loads := p.loads.set k ((p.loads.at k).map fun l => { l with preExc := true }) }

/-- Bytes stored from `a` on. -/
def storedAt (a : Nat) (bs : List Byte) : List (Nat × Byte) := bs.mapIdx fun i b => (a + i, b)

/-- A summary slot of tile `k` takes a record (R73, R76). -/
def State.sumTakes (s : State) (k slot status engine tag val0 val1 cycles : Nat) (spec : Bool) : List (Loc × Nat) :=
  [(R .TC_SUM0_STATUS k slot, status), (R .TC_SUM0_ENGINE k slot, engine), (R .TC_SUM0_SPEC k slot, if spec then 1 else 0), (R .TC_SUM0_TAG k slot, tag),
   (R .TC_SUM0_GTC_LO k slot, s.gtc % 2 ^ 32), (R .TC_SUM1_VAL0 k slot, val0), (R .TC_SUM2_VAL1 k slot, val1), (R .TC_SUM3_CYCLES k slot, cycles)]

/-- A register or variable of tile `k`. -/
def ofTile (k : Nat) : Loc → Prop
  | .reg f i _ => f.blk = .tile ∧ i = k
  | .var v i _ => v.scope = .tile ∧ i = k

/-- What error counting changes: the fields of the error-counting block and the firmware's event count (R293 to R296). -/
def errorCounts : Loc → Prop
  | .reg f _ _ => f.blk = .ec
  | .var v _ _ => v = .UE_PEND ∨ v = .EVENTS_LOST

/-! ### Engines -/

/-- The named fields and variables of tile `k` (or of the instance `k` of another block). -/
def placesOf (k : Nat) (fs : List Fld) (vs : List Var) : Loc → Prop
  | .reg f i _ => i = k ∧ f ∈ fs
  | .var v i _ => i = k ∧ v ∈ vs

/-- The fields that a completion in tile `k` may write (R73). -/
def completionFields : List Fld :=
  [.TC_SUM0_STATUS, .TC_SUM0_ENGINE, .TC_SUM0_SPEC, .TC_SUM0_TAG, .TC_SUM0_GTC_LO, .TC_SUM1_VAL0, .TC_SUM2_VAL1, .TC_SUM3_CYCLES, .TC_CNT_VALUE, .TC_IPEND_SRC]

/-- What the completion of descriptor `d` of engine `e` writes: its summary record where SUM_EN is 1, its counter, and ENG_DONE where IRQ is 1 (R73, R74, R76). -/
def State.completes (s : State) (k e : Nat) (d : Desc) (status val0 val1 cycles : Nat) (spec : Bool) : List (Loc × Nat) :=
  (if d.b 21 then s.sumTakes k (d.f 20 16) status e (d.f 47 32) val0 val1 cycles spec else [])
    ++ [(R .TC_CNT_VALUE k (d.f 12 8), (s.rd .TC_CNT_VALUE k (d.f 12 8) + 1) % 2 ^ 32)]
    ++ if d.b 22 then [(R .TC_IPEND_SRC k, setB (s.rd .TC_IPEND_SRC k) 0)] else []

/-- TC_QSTAT as the head of an engine's queue leaves it. -/
def State.popTakes (s : State) (k e : Nat) (rest : List Desc) : Loc × Nat :=
  (R .TC_QSTAT_OCC k, occWith (s.rd .TC_QSTAT_OCC k) e rest.length)

/-- The queue of an engine after its head left it. -/
def Parts.pops (p : Parts) (k e : Nat) (rest : List Desc) : Parts := { p with queues := p.queues.set (eKey k e) rest }

/-- The head `d` of the matrix queue of tile `k` may be taken: no other matrix descriptor is unfinished, no self-test runs, and its issue and fence let it start (R72, R98). -/
def State.MatrixHead (s : State) (k : Nat) (d : Desc) (rest : List Desc) : Prop :=
  s.domOn k = true ∧ ((s.parts.mx.at k).find? fun r => !r.fin) = none ∧ s.queue k 0 = d :: rest ∧ d.note = 0 ∧ s.ready k d = true ∧ s.vr .BIST_RUN k ≠ 1

/-- What a matrix command of tile `k` may change beside its typed pieces: the engine's registers and its recurrence, the queue's occupancy, and the marks of its tile store. -/
def matrixPlaces (k : Nat) : Loc → Prop := placesOf k
  [.TC_QSTAT_OCC, .MX_STAT_BUSY, .MX_STAT_BANK_HELD, .MX_STAT_BANK_SPEC, .MX_STAT_PIECE_WAIT, .MX_STAT_SPEC_HOLD, .MX_STALL_PIECE, .MX_STALL_SPEC, .MX_STALL_BANK_BANK, .MX_BUSY_CYC_COUNT, .MX_ACC_ERR_CORR,
   .MX_ACC_ERR_UNCORR, .SL_STAT_PHASE, .SL_PASSES_COUNT, .SL_PREP_CYC_COUNT, .SL_DMAX_DMAX, .SL_RS_ERR_CORR, .SL_RS_ERR_UNCORR]
  [.MX_LOAD, .MX_STREAM, .MX_EPI, .MX_BUF, .MX_NBUF, .MX_BANK, .MX_ACC, .MX_DONE, .MX_BAD, .MX_ROWP, .MX_COLP, .RS_BAD, .TS_CHK, .TS_POIS, .CALD_W]

/-- The memories of tile `k`'s matrix engine, and its tile store. -/
def matrixBytes (k x : Nat) : Prop := (mxBase k ≤ x ∧ x < mxBase k + 0x800000) ∨ (storeBase k ≤ x ∧ x < storeBase k + 0x1000000)

/-- The head `d` of an engine's queue may be taken: the tile is ON, the engine has no descriptor in progress and its last one completed before this cycle, no squash has ended `d`, its issue and fence
let it start, and its function answers whether it serves (R72, R170, R198). -/
structure State.EngineHead (s : State) (k e : Nat) (d : Desc) (rest : List Desc) (last : Nat) (serves : Option Bool) (on : Bool) : Prop where
  tileOn : s.domOn k = true
  idle : s.running k e = none
  head : s.queue k e = d :: rest
  note : d.note = 0
  ready : s.ready k d = true
  later : last < s.clock
  func : serves = some on

/-- The head of the solver's queue may be taken. -/
abbrev State.SolverHead (s : State) (k : Nat) (d : Desc) (rest : List Desc) (on : Bool) : Prop :=
  s.EngineHead k 1 d rest (s.vr .SV_LAST k) (funcServes (s.rd .SV_STAT_FSTATE k) (s.rd .SV_STAT_PEND_EN k) (s.vr .FUNC_DIS_AT k 1) d.issued) on

/-- The head of the DMA engine's queue may be taken. -/
abbrev State.DmaHead (s : State) (k : Nat) (d : Desc) (rest : List Desc) (on : Bool) : Prop :=
  s.EngineHead k 3 d rest (s.vr .ENG_LAST k 3) (funcServes (s.rd .DM_STAT_FSTATE k) (s.rd .DM_STAT_PEND_EN k) (s.vr .FUNC_DIS_AT k 3) d.issued) on

/-- The typed pieces with the head of an engine's queue in progress. -/
def Parts.starts (p : Parts) (k e : Nat) (rest : List Desc) (r : Running) : Parts :=
  { p.pops k e rest with running := p.running.put (eKey k e) (some r) }

/-- No matrix, solver or vector completion of tile `k` is due. -/
def State.NoneDue (s : State) (k : Nat) : Prop :=
  (∀ r ∈ (s.parts.mx.at k).head?, r.fin = false ∨ s.clock < r.done)
  ∧ (∀ q ∈ s.running k 1, s.clock < match (s.parts.sv.find k).filter (fun r => r.phase == 6) with | some r => r.phaseEnd | none => q.done)
  ∧ ∀ d ∈ s.parts.vxDone.at k, s.clock < d.done

/-- The generator's shadow holds places of tile `k`'s generator alone (R235). -/
def State.ShadowOwn (s : State) (k : Nat) : Prop := ∀ l ∈ s.parts.rnShadow.find k, ∀ e ∈ l, rnPlace k e.1 = true

/-- What a squash of tile `k` leaves: the window closed, every marked register 0, every granule written in the window zero without poison, the core at `resume` unless it handles an exception, and nothing changed beside the tile's own
registers and variables, its written granules and its engines' memories (R203, R208, R217 to R219). -/
structure State.Squashed (s t : State) (k resume : Nat) : Prop where
  window : t.rd .FS_STAT_WIN k = 0
  pending : testB (t.rd .TC_IPEND_SRC k) 6 = true
  gp_marked : ∀ r < 32, s.vr .MARK_GP k r = 1 → t.vr .GP k r = 0
  gp_kept : ∀ r < 32, s.vr .MARK_GP k r ≠ 1 → t.vr .GP k r = s.vr .GP k r
  sv_marked : ∀ r < 32, s.vr .MARK_SV k r = 1 → t.vr .SV k r = 0
  sv_kept : ∀ r < 32, s.vr .MARK_SV k r ≠ 1 → t.vr .SV k r = s.vr .SV k r
  no_marks : ∀ r, t.vr .MARK_GP k r = 0 ∧ t.vr .MARK_SV k r = 0 ∧ t.vr .MARK_VX k r = 0
  granules : ∀ a, storeBase k ≤ a → a < storeBase (k + 1) → s.vr .CALD_W k ((a - storeBase k) / 64) = 1 → t.byte a = 0 ∧ t.vr .TS_POIS k ((a - storeBase k) / 64) = 0
  core : s.rd .TC_CTL_RUN k = 1 → s.rd .TC_STAT_INEXC k ≠ 1 → t.pc k = resume % 65536
  frame : Within s t (fun l => ofTile k l ∨ errorCounts l) (fun x => (storeBase k ≤ x ∧ x < storeBase (k + 1) ∧ s.vr .CALD_W k ((x - storeBase k) / 64) = 1)
    ∨ (mxBase k ≤ x ∧ x < mxBase k + 0x800000) ∨ (vregBase k ≤ x ∧ x < vregBase k + 0x40000))

/-! ### Stacks -/

/-- What requests to stack memory change beside their queues: the stacks' traffic counts, the error counts, the round-robin pointers and the check symbols of the granules they write (R264, R266, R284, R293). -/
def stackPlaces (granule : Nat → Prop) (l : Loc) : Prop :=
  errorCounts l ∨ (∃ c, l = R .LS_TRAFFIC_BURSTS c ∨ l = R .LS_NARROW_SECTORS c ∨ l = R .LS_NARROW_RMW c) ∨ (∃ c j, l = V .RR_SRC c j) ∨ ∃ c, l = V .STK_CHK c ∧ granule (c / 4)

/-! ### Links and the fabric -/

/-- What a change of state of link `l`, or its loss, may change beside the typed pieces (R320, R327, R348, R349). -/
def linkPlaces (l : Nat) (x : Loc) : Prop :=
  placesOf l [.FL_STAT_STATE, .FL_STAT_CAUSE, .FL_STAT_CHG, .FL_STAT_TRAINS, .FL_STAT_WIDTH, .FL_STAT_PROBATION]
      [.LINK_AT, .DETECT_AT, .RECON_AT, .LINK_DRAIN, .TX_RESEND, .TX_EVENT, .RX_NAK, .RX_EVENT, .TX_MSG, .LINK_ALIGNED] x
    ∨ x ∈ [V .FR_LINK_CHG, R .FL_UP_ACTIVE (l / 16), R .FL_UP_HELD (l / 16), R .PM_READY_LINKS_ACTIVE, R .PM_READY_LINKS_HELD,
        R .NI_RECON_SEQ_SEQ (l / 16) (l % 16), R .NI_RECON_SEQ_VALID (l / 16) (l % 16), R .NI_STAT_HELD (l / 16), R .NI_STAT_RECON_PEND (l / 16),
        V .EVENTS_LOST]

/-- Link `l` has entered a state with a cause: FL_STAT shows both with CHG, and FL_UP whether it is ACTIVE or HELD (R320, Table 13.2). -/
structure LinkIs (t : State) (l st cause : Nat) : Prop where
  state : t.rd .FL_STAT_STATE l = st
  cause : t.rd .FL_STAT_CAUSE l = cause
  chg : t.rd .FL_STAT_CHG l = 1
  active : testB (t.rd .FL_UP_ACTIVE (l / 16)) (l % 16) = decide (st = 5)
  held : testB (t.rd .FL_UP_HELD (l / 16)) (l % 16) = decide (st = 8)

/-- The response to `p` leaves serving point `pt`: through its NI, stamped, or inside the package straight to the requester's tracker (R335, R338). -/
def State.Answered (s t : State) (pt : Nat) (p : Packet) (status : Nat) (data : List Byte) (poison : Nat) : Prop :=
  let r := p.response status data poison
  if pt < 4 then
    t.parts.fdiePkts.at pt = s.parts.fdiePkts.at pt ++ [⟨{ r with ttl := 31, stamp := s.gtc % 2 ^ 32, d := bitsOf (s.vr .RT pt r.dstNode) 47 28 }, none⟩]
  else
    let k := (s.physOf p.srcTile).getD 63
    t.parts.responses.at k = s.parts.responses.at k ++ [r]

/-- The first request at serving point `pt` is `p`, which its checks let through and whose target can serve it (R338, R339). -/
structure State.Served (s : State) (pt : Nat) (p : Packet) (rest : List Packet) : Prop where
  first : s.parts.serving.at pt = p :: rest
  allowed : pt = 4 → s.refusal 0 false p = none
  target : targetOf p.addr p.span = .stack ∧ s.rangeAvail p.addr p.span ≠ .waits
    ∨ ∃ l off k, targetOf p.addr p.span = .tile l off ∧ s.physOf l = some k

/-- What a request served at its target may change beside its bytes: the error counts, the stacks' traffic, the check symbols and marks of what it writes, and the destination's counter (R284, R289, R291, R293, R340). -/
def servePlaces (x : Loc) : Prop :=
  errorCounts x ∨ (∃ c, x = R .LS_TRAFFIC_BURSTS c ∨ x = R .LS_NARROW_SECTORS c ∨ x = R .LS_NARROW_RMW c) ∨ (∃ c, x = V .STK_CHK c)
    ∨ (∃ k j, x = V .TS_CHK k j ∨ x = V .TS_POIS k j ∨ x = V .CALD_W k j) ∨ ∃ k c, x = R .TC_CNT_VALUE k c

/-! ### Collectives -/

/-- What the collective engine of agent `a` may change beside the typed pieces: its tile's registers and variables, its SEQ and abort state, the matrix array that a gated abort ends, the error counts, the stacks' traffic, and a slot's
registers of the triggered agent (R360 to R380). -/
def collPlaces (a : Nat) (x : Loc) : Prop :=
  ofTile a x ∨ errorCounts x ∨ x = V .MX_DONE a ∨ (∃ m, x ∈ [V .CE_SEQ (ceHome a) m, V .CE_STALE (ceHome a) m, V .CE_LATE (ceHome a) m, V .CE_REM (ceHome a) m, V .CE_ABSEQ (ceHome a) m])
    ∨ (∃ c, x ∈ [R .LS_TRAFFIC_BURSTS c, R .LS_NARROW_SECTORS c, R .LS_NARROW_RMW c])
    ∨ (40 ≤ a ∧ ∃ j, x = R .CE_TRIG_CTL_STATUS 0 (a - 40) ∨ x = R .CE_TRIG_CTL_STATE 0 (a - 40) ∨ x = R .CE_TRIG_DATA_DATA 0 j)

/-- No answer waits for agent `a`, no token waits to go out, and no READY for its run `r` names another plan (R370, R374). -/
structure State.CeCalm (s : State) (a : Nat) (r : CeRun) : Prop where
  run : s.ceRun a = some r
  out : s.parts.ceOut.at a = []
  answers : a < 40 → ∀ x ∈ s.parts.trkDone.at a, x.owner ≠ .collective
  slotAnswers : 40 ≤ a → ∀ p ∈ s.parts.responses.at 63, p.tag ≠ a - 40
  plan : ∀ x ∈ s.parts.ceTok.at (ceHome a), x.kind = 1 → x.comm = r.desc.f 295 288 → x.seq = r.seq → x.digest = r.desc.digest

/-- The run `r` of agent `a` has aborted: status 0x66, its SEQ kept for the next collective, the stale time begun, and the reason shown (R374, R375, R380). -/
structure State.CeAborted (s t : State) (a : Nat) (r : CeRun) (reason det : Nat) : Prop where
  ended : t.ceRun a = none
  seq : t.vr .CE_SEQ (ceHome a) (r.desc.f 295 288) = r.seq % 65536
  stale : t.vr .CE_STALE (ceHome a) (r.desc.f 295 288) = (s.clock + s.tStale (ceFdie a)) % 2 ^ 64
  shown : a < 40 → t.rd .CE_ABORT_REASON a = reason ∧ t.rd .CE_ABORT_SEQ a = r.seq % 65536 ∧ t.rd .CE_ABORT_MEMBER a = det % 65536 ∧ t.rd .CE_STAT_BUSY a = 0
    ∧ t.rd .CE_STAT_LAST_STATUS a = 0x66 ∧ t.rd .CE_CNT_ABORTS a = satAdd Fld.CE_CNT_ABORTS.width (s.rd .CE_CNT_ABORTS a) 1 ∧ t.running a 2 = none
    ∧ (r.desc.b 21 = true → t.rd .TC_SUM0_STATUS a (r.desc.f 20 16) = 0x66 ∧ t.rd .TC_SUM1_VAL0 a (r.desc.f 20 16) = r.val0 reason det % 2 ^ 64)
    ∧ t.rd .TC_CNT_VALUE a (r.desc.f 12 8) = (s.rd .TC_CNT_VALUE a (r.desc.f 12 8) + 1) % 2 ^ 32
  slot : 40 ≤ a → t.rd .CE_TRIG_CTL_STATUS 0 (a - 40) = 0x66 ∧ t.rd .CE_TRIG_CTL_STATE 0 (a - 40) = 3
  frame : Within s t (collPlaces a) (fun _ => False)

/-! ### Host mailboxes -/

/-- The places that the return of mailbox `m` writes: OWN and the pending bit, and the port's notifications where HOST_NOTIFY is 1 (R431). -/
def State.returnPlaces (s : State) (m : Nat) : List (Loc × Nat) :=
  [(R .MB_OWN_OWN, clrB (s.rd .MB_OWN_OWN) m), (R .MB_PEND_PEND, clrB (s.rd .MB_PEND_PEND) m)]
    ++ if s.rd .MB_CTL_HOST_NOTIFY = 1 then [(V .MB_NOTIFY 0 (bitOf (s.rd .MB_PORT_MAP_PORT) m), satAdd Var.MB_NOTIFY.width (s.vr .MB_NOTIFY 0 (bitOf (s.rd .MB_PORT_MAP_PORT) m)) 1)] else []

/-- The bytes that the return of mailbox `m` writes: the response, its length, DONE_BY, STATUS and OWN = 0 (Table 18.2). -/
def State.returnBytes (s : State) (m status : Nat) (rsp : List Byte) (doneBy : Nat) : List (Nat × Byte) :=
  storedAt (mboxBase m + 64) rsp ++ storedAt (mboxBase m + 10) (leBytes 2 rsp.length) ++ storedAt (mboxBase m + 24) (leBytes 8 doneBy)
    ++ storedAt (mboxBase m + 4) (leBytes 1 status) ++ [(mboxBase m, s.byte (mboxBase m) &&& 0xFE)]

/-- From `s` to `t` mailbox `m` returns with a status and response at the GTC of `s`, the listed places take their values and the typed pieces become `parts`; nothing else changes. -/
abbrev State.Returns (s t : State) (m status : Nat) (rsp : List Byte) (places : List (Loc × Nat)) (parts : Parts) : Prop :=
  Effect s t (places ++ s.returnPlaces m) (s.returnBytes m status rsp s.gtc) parts

/-- The bytes of mailbox `m`. -/
def mboxBytes (m x : Nat) : Prop := mboxBase m ≤ x ∧ x < mboxBase m + 0x1000

/-- The places that a mailbox command may change beside its own: the mailbox registers (R427 to R431). -/
def mboxPlaces (x : Loc) : Prop := x ∈ [R .MB_OWN_OWN, R .MB_PEND_PEND, V .MB_NOTIFY 0 0, V .MB_NOTIFY 0 1]

/-- Mailbox `m` stands returned in `t` with a status and response. -/
structure State.IsReturned (t : State) (m status : Nat) (rsp : List Byte) : Prop where
  own : t.mbOwn m = false
  status : t.num (mboxBase m + 4) 1 = status
  length : t.num (mboxBase m + 10) 2 = rsp.length % 65536
  response : t.bytes (mboxBase m + 64) rsp.length = rsp

/-- A triggering step `c` of job `n` ends at this tick, under policy `p` (R402, R404). -/
structure State.CutDue (s : State) (n : Nat) (j : Job) (k : Ck) (p : CkPolicy) (c : Nat) : Prop where
  job : s.jobAt n = some j
  ck : s.parts.ck.find n = some k
  launched : j.opened ≠ 0
  scheduled : s.scheduled = true
  tick : s.atTick = true
  later : gtcBefore (j.opened - 1) s.gtc = true
  whole : gtcSpan (j.opened - 1) s.gtc ≠ 0 ∧ gtcSpan (j.opened - 1) s.gtc % max 1 (s.stepLen j) = 0
  step : c = j.step + gtcSpan (j.opened - 1) s.gtc / max 1 (s.stepLen j) - 1
  triggers : s.triggers j k c = true
  policy : k.at c = some p

/-- A generation `g` of job `n` has ended with a status: it is no longer in progress and its event is queued (R415). -/
structure State.GenEnded (s t : State) (n : Nat) (g : CkGen) (status : Nat) : Prop where
  gone : ∀ k, t.parts.ck.find n = some k → ∀ x ∈ k.gens, x.gen ≠ g.gen
  event : s.parts.events.length < 4096 → t.parts.events = s.parts.events ++ [⟨s.gtc, 0x0003, status, n, [g.gen, g.step]⟩]

/-! ### Functions (Table 19.3) -/

/-- A register of a function. -/
def funcR (f : Func) (x : Fld) : Loc := .reg x (funcRegs f).i (funcRegs f).j

/-- SLOT_WAIT of a domain, beside PEND_EN (R468). -/
def slotTakes (f : Func) (v : Nat) : List (Loc × Nat) := match f with | .dom d => [(R .PM_DOM_SLOT_WAIT 0 d, v)] | _ => []

/-- The cycle of a disable request, where the function's drain needs it. -/
def State.noteTakes (s : State) (f : Func) : List (Loc × Nat) :=
  match f with | .dom d => [(V .DOM_DIS_AT 0 d, s.clock)] | .scrub => [] | _ => [(V .FUNC_DIS_AT (funcKey f).1 (funcKey f).2, s.clock)]

/-- A function enters a state in this cycle. -/
def State.stateTakes (s : State) (f : Func) (st : Nat) : List (Loc × Nat) := [(funcR f (funcRegs f).fstate, st), (V .FUNC_AT (funcKey f).1 (funcKey f).2, s.clock)]

/-- What an enable request writes in the function's state (Table 19.3): OFF starts, or waits for a slot, STARTING and ON drop a latched disable, DRAINING latches it. -/
def State.enableTakes (s : State) (f : Func) : List (Loc × Nat) :=
  ((funcRegs f).en, 1) :: match s.fstate f with
    | 0 => if staggered f then (funcR f (funcRegs f).pendEn, 1) :: slotTakes f 1 else (funcR f (funcRegs f).pendEn, 0) :: slotTakes f 0 ++ s.stateTakes f 1
    | 1 | 2 => [(funcR f (funcRegs f).pendDis, 0)]
    | _ => (funcR f (funcRegs f).pendEn, 1) :: slotTakes f 0

/-- What a disable request writes in the function's state (Table 19.3): OFF and DRAINING drop a latched enable, STARTING latches it, ON drains. -/
def State.disableTakes (s : State) (f : Func) : List (Loc × Nat) :=
  ((funcRegs f).en, 0) :: match s.fstate f with
    | 1 => s.noteTakes f ++ [(funcR f (funcRegs f).pendDis, 1)]
    | 2 => s.noteTakes f ++ s.stateTakes f 3
    | _ => (funcR f (funcRegs f).pendEn, 0) :: slotTakes f 0

/-! ### The vector engine -/

/-- The instruction `q` at the head of tile `k`'s vector queue, of operation `op`, starts now: the engine is ON and not lent, no speculation holds the
instruction, and the recurrence of R145 lets it start. -/
structure State.VxGoes (s : State) (k op : Nat) (q : VxQ) (rest : List VxQ) : Prop where
  head : s.parts.vq.at k = q :: rest
  op_eq : q.op = op
  on : s.domOn k = true
  serves : s.rd .VX_STAT_FSTATE k = 2
  lent : s.rd .VX_STAT_LENT k ≠ 1
  free : (s.vxEnv k q).held s = false
  due : max ((s.vxEnv k q).depend s) (if s.rd .VX_STAT_SPEC_HOLD k = 1 then s.vr .SPEC_RELEASE k else 0) ≤ s.clock

/-- Of register `vd`, at element width `w`, each active element `i` takes `f i` and every other element below VL keeps its value (R142). -/
def LanesTake (s t : State) (e : VxEnv) (vd w : Nat) (f : Nat → Nat) : Prop :=
  (∀ i ∈ e.act, t.vEl e.t vd i w = f i % 2 ^ w) ∧ ∀ i < e.vl, i ∉ e.act → t.vEl e.t vd i w = s.vEl e.t vd i w

/-- The bytes of the first `n` elements of width `w` of a vector register. -/
def vregBytes (k vd n w : Nat) (x : Nat) : Prop := vreg k vd ≤ x ∧ x < vreg k vd + n * w / 8

/-- The bytes of tile register `td`. -/
def tregBytes (k td : Nat) (x : Nat) : Prop := treg k td ≤ x ∧ x < treg k td + 16384

/-- The bytes of the 8-byte words of tile `k`'s store that hold `n` bytes from offset `a` on (R291). -/
def storeWords (k a n : Nat) (x : Nat) : Prop := storeBase k + a / 8 * 8 ≤ x ∧ x < storeBase k + (a + n + 7) / 8 * 8

end Sys2Proof.Machine
end

