-- ==== Sys2Proof/Certificates/Slice0/Obligations.lean ====
section
/-! DEFINITION. The statements for the provers, area by area. Each clause says where its command completes, what it then changes, and what it
leaves alone. -/

open Sys2Proof Sys2Proof.Machine Host

/-! ### The machine as a whole -/

/-- A step takes the command at the front of the queue: it is that command's effect on the state with the queue's rest. -/
def Obligations.StepRunsFrontCommand : Prop :=
  ∀ (c : Instr) (rest : List Instr) (s : State),
    step { s with pending := c :: rest } = exec c { s with pending := rest }

/-- On an empty queue one clock cycle passes: the clock advances, the GTC with it while domain 171 is ON, and nothing else changes. (That a
cycle passes on an empty queue is the model's choice, log entry 1; the GTC's advance is R34.) -/
def Obligations.EmptyQueueIsOneCycle : Prop :=
  ∀ s : State, s.pending = [] →
    ∃ t, step s = .next t ∧ t.clock = s.clock + 1
      ∧ (s.domOn 171 = true → t.gtc = (s.gtc + 1) % 2 ^ 64) ∧ (s.domOn 171 = false → t.gtc = s.gtc)
      ∧ t.file = s.file ∧ t.mem = s.mem ∧ t.parts = s.parts ∧ t.fuses = s.fuses ∧ t.mram = s.mram ∧ t.pending = []

/-- The machine after reset is in canonical form. -/
def Obligations.ResetWellFormed : Prop := State.reset.wf = true

/-- Every step keeps the canonical form: the numbered state and the memory list strictly rising keys and no unlisted value, every register
field and variable holds a value of its width, and the GTC is below 2^64. -/
def Obligations.StepKeepsWellFormed : Prop :=  ∀ s t : State, s.wf = true → step s = .next t → t.wf = true

/-- Every command answers a next state, and leaves the waiting commands and the clock as they are.
The fuses change by three commands alone: the end of a fuse operation, the lifecycle's step to SCRAPPED, and a boot that starts an image
(R302, R456, R487).
The rind log's MRAM changes by its writer alone: the write of a queued record, and the last gasp (R495, R498).
Beside the passing of cycles the GTC changes only where a time source's measurement loads it before first lock, where domain 171 loses what
it holds, and where domain 171 starts (R35, R36, R446, R449). -/
def Obligations.CommandsKeepTheRest : Prop :=
  (∀ (c : Instr) (s : State), ∃ t, exec c s = .next t ∧ t.pending = s.pending ∧ t.clock = s.clock)
  ∧ (∀ (c : Instr) (s t : State), exec c s = .next t → t.fuses ≠ s.fuses →
    c = .fuseProgramDone ∨ c = .lifecycleScrap ∨ ∃ image, c = .bootImage image)
  ∧ (∀ (c : Instr) (s t : State), exec c s = .next t → t.mram ≠ s.mram → c = .rindRecordWrite ∨ c = .lastGasp)
  ∧ (∀ (c : Instr) (s t : State), exec c s = .next t → t.gtc ≠ s.gtc →
    (∃ link up src rt hops, c = .syncMessage link up src rt hops ∧ s.vr .FIRST_LOCK = 0)
      ∨ (∃ word, c = .cableMarker word ∧ s.vr .FIRST_LOCK = 0)
      ∨ (∃ reversed, c = .auxPowerOn reversed) ∨ (∃ rails, c = .railLoss rails) ∨ c = .pkgResetPin ∨ c = .pkgReset
      ∨ ∃ failed, c = .functionStartingEnd (.dom 171) failed)

/-! ### Global time, frames and launch (R34 to R64, R529) -/

/-- Sync messages and markers. On an ACTIVE link whose last message is at least 65,536 cycles old a message is put ahead of the queued payload (R38). A
locked fabric slave that receives one from upstream, or a locked cable slave that receives a marker, takes the offset of its counter from the source, saturated
to an i8, as GT_STAT.OFFSET, leaves HOLDOVER, and when the offset passes 8 cycles clears LOCKED and sets LOCK_LOST (R38, R40, R41). SLEW is a free value within ±100
(log entry 6). At a GTC multiple of 2^20 in a cable mode with SYNC_OUT_EN a marker is driven (R40). A slave that loses its source sets HOLDOVER and LOCK_LOST (R41).
A write of GT_CTL stores MODE, SYNC_OUT_EN and OVR_IRQ at once. A write that sets a master mode sets LOCKED, clears HOLDOVER and sets no LOCK_LOST; one that
changes the mode to a slave mode clears LOCKED and sets HOLDOVER and LOCK_LOST; one that keeps the mode has no further effect (R529). -/
def Obligations.TimeSourcesAndMode : Prop :=
  (∀ (s : State) (link : Link), s.rd .FL_STAT_STATE link = 5 →
    (s.vr .SYNC_SENT link = 0 ∨ 65536 ≤ (s.gtc + 2 ^ 64 - s.vr .SYNC_SENT_AT link) % 2 ^ 64) →
    ∃ t, exec (.syncMessageSend link) s = .next t
      ∧ Effect s t [(V .SYNC_SENT link, 1), (V .SYNC_SENT_AT link, s.gtc)] []
          { s.parts with linkTx := s.parts.linkTx.set link (⟨.sync s.gtc, 0⟩ :: s.parts.linkTx.at link) })
  ∧ (∀ (s : State) (c : Instr) (src : Nat), s.domOn 171 = true → s.vr .FIRST_LOCK = 1 → s.locked = true →
    ((∃ link srcTime rt hops, c = .syncMessage link true srcTime rt hops ∧ s.rd .GT_CTL_MODE = 0 ∧ s.rd .FL_STAT_STATE link = 5
        ∧ src = (srcTime.toNat + rt.toNat / 2) % 2 ^ 64)
      ∨ ∃ word, c = .cableMarker word ∧ s.rd .GT_CTL_MODE = 2 ∧ src = (word.toNat + s.rd .GT_CABLE_DLY_DLY) % 2 ^ 64) →
    ∃ t, exec c s = .next t ∧ toSigned 8 (t.rd .GT_STAT_OFFSET) = max (-128) (min 127 (gtcOffset s.gtc src))
      ∧ (toSigned 8 (t.rd .GT_STAT_SLEW)).natAbs ≤ 100 ∧ t.rd .GT_STAT_HOLDOVER = 0
      ∧ (8 < (gtcOffset s.gtc src).natAbs → t.rd .GT_STAT_LOCKED = 0 ∧ t.rd .GT_STAT_LOCK_LOST = 1)
      ∧ ((gtcOffset s.gtc src).natAbs ≤ 8 → t.rd .GT_STAT_LOCKED = 1 ∧ t.rd .GT_STAT_LOCK_LOST = s.rd .GT_STAT_LOCK_LOST)
      ∧ t.parts = s.parts
      ∧ Within s t (fun l => l ∈ [R .GT_STAT_OFFSET, R .GT_STAT_SLEW, R .GT_STAT_HOLDOVER, R .GT_STAT_LOCKED, R .GT_STAT_LOCK_LOST, R .GT_STAT_HOPS,
          V .SYNC_RUN, V .LAST_OFF, V .FIRST_LOCK, V .FR_UNLOCKED]) (fun _ => False))
  ∧ (∀ s : State, s.domOn 171 = true → s.gtc % 2 ^ 20 = 0 → 2 ≤ s.rd .GT_CTL_MODE → s.rd .GT_CTL_SYNC_OUT_EN = 1 →
    ∃ t, exec .syncOutMarker s = .next t
      ∧ Effect s t [(V .SYNC_OUT_AT, s.gtc), (V .SYNC_OUT_CNT, satAdd Var.SYNC_OUT_CNT.width (s.vr .SYNC_OUT_CNT) 1)] [] s.parts)
  ∧ (∀ s : State, s.domOn 171 = true → s.master = false →
    ∃ t, exec .lossOfSource s = .next t
      ∧ Effect s t [(R .GT_STAT_HOLDOVER, 1), (R .GT_STAT_LOCK_LOST, 1), (V .SYNC_RUN, 0)] [] s.parts)
  ∧ (∀ (s : State) (v : W64), s.domOn 171 = true →
    let m := bitsOf v.toNat 1 0
    let ctl := [(R .GT_CTL_MODE, m), (R .GT_CTL_SYNC_OUT_EN, bitOf v.toNat 2), (R .GT_CTL_OVR_IRQ, bitOf v.toNat 3)]
    ∃ t, exec (.gtCtlWrite v) s = .next t
      ∧ (m = s.rd .GT_CTL_MODE → Effect s t ctl [] s.parts)
      ∧ (m ≠ s.rd .GT_CTL_MODE → m % 2 = 1 → Effect s t (ctl ++ [(R .GT_STAT_LOCKED, 1), (R .GT_STAT_HOLDOVER, 0), (R .GT_STAT_HOPS, 0),
          (V .FIRST_LOCK, 1), (V .SYNC_RUN, 0)]) [] s.parts)
      ∧ (m ≠ s.rd .GT_CTL_MODE → m % 2 = 0 → Effect s t (ctl ++ [(R .GT_STAT_HOLDOVER, 1), (R .GT_STAT_LOCKED, 0), (R .GT_STAT_LOCK_LOST, 1),
          (V .FR_UNLOCKED, 1), (V .SYNC_RUN, 0)]) [] s.parts))

/-- Frame schedules. A write of GT_FRAME_CTL.ARM that meets R44 sets PEND and one that does not sets REFUSED. At its base a pending schedule becomes GT_FRAME_CUR,
its number GT_FRAME_NUM, and the next tick lies one frame length on (R45). The tick at GT_TICK_NEXT adds one to the frame number, moves GT_TICK_NEXT on by the
frame length, reports the tiles whose frame is still open in GT_OVR_MASK and GT_OVR_CNT, and latches the frame's largest refresh stall (R42, R43, R51, R57).
Frames of tiles. A write of GT_TILE.DONE closes the oldest open frame; one that closes at or after its end loads GT_TILE.LATE with the cycles it ran over and, unless
its record was written at the limit, queues its overrun record (R49 to R51). A frame still open after 65 ticks gets its record with LATE 0xFFFF_FFFF (R51). The
firmware, when it runs, takes the oldest overrun to the rind log and the host (R51). -/
def Obligations.FramesAndOverruns : Prop :=
  (∀ (s : State) (v : W64), s.domOn 171 = true → testB v.toNat 0 = true → testB v.toNat 2 = false →
    ∃ t, exec (.frameArm v) s = .next t
      ∧ (armAccepted s = true → Effect s t [(R .GT_FRAME_CTL_PEND, 1), (V .SCHED_BY_SLOT, 0)] [] s.parts)
      ∧ (armAccepted s = false → Effect s t [(R .GT_FRAME_CTL_REFUSED, 1)] [] s.parts))
  ∧ (∀ s : State, s.domOn 171 = true → s.rd .GT_FRAME_CTL_PEND = 1 → s.gtc = s.rd .GT_FRAME_BASE_BASE →
    ∃ t, exec .scheduleTakesEffect s = .next t
      ∧ Effect s t [(R .GT_FRAME_CUR_LEN, s.rd .GT_FRAME_LEN_LEN), (R .GT_FRAME_NUM_NUM, s.rd .GT_FRAME_NUM_BASE_NUM),
          (R .GT_TICK_NEXT_VALUE, s.gtc + s.rd .GT_FRAME_LEN_LEN), (R .GT_FRAME_CTL_PEND, 0), (V .SCHED_BY_SLOT, 0), (V .SCHED_AT, s.gtc + 1)]
          [] s.parts)
  ∧ (∀ s : State, s.domOn 171 = true → s.vr .TICK_AT ≠ s.gtc + 1 → s.scheduled = true → s.gtc = s.rd .GT_TICK_NEXT_VALUE →
    s.scheduleDue = false →
    ∃ t, exec .geyserTick s = .next t ∧ t.rd .GT_FRAME_NUM_NUM = (s.rd .GT_FRAME_NUM_NUM + 1) % 2 ^ 64
      ∧ t.rd .GT_TICK_NEXT_VALUE = (s.gtc + s.rd .GT_FRAME_CUR_LEN) % 2 ^ 64
      ∧ t.rd .GT_OVR_MASK_TILES = s.overrunTiles.foldl (fun m k => setB m (s.logicalOf k)) 0 % 2 ^ Fld.GT_OVR_MASK_TILES.width
      ∧ t.rd .GT_OVR_CNT_COUNT = satAdd Fld.GT_OVR_CNT_COUNT.width (s.rd .GT_OVR_CNT_COUNT) s.overrunTiles.length % 2 ^ Fld.GT_OVR_CNT_COUNT.width
      ∧ t.rd .GT_REF_STALL_MAX = s.vr .FR_REF_STALL % 2 ^ Fld.GT_REF_STALL_MAX.width ∧ t.atTick = true
      ∧ Within s t (fun l => match l with
          | .reg f _ _ => f ∈ [.GT_FSTAT_REF_STALL_MAX, .GT_FSTAT_TBAND, .GT_FSTAT_LINK_CHG, .GT_FSTAT_UNLOCKED, .GT_FSTAT_LATE_REL, .GT_FSTAT_RETRY_EVT,
              .GT_FSTAT_RETRY_MAX, .GT_FSTAT_THROTTLED, .GT_FSTAT_MAINT, .GT_REF_STALL_MAX, .FL_RETRY_LAST_FRAME, .PM_STAT_CAP_FRAMES, .GT_OVR_MASK_TILES,
              .GT_OVR_CNT_COUNT, .TC_IPEND_SRC, .GT_FRAME_NUM_NUM, .GT_TICK_NEXT_VALUE, .GT_TILE_OPEN, .TC_PREEMPT_PENDING, .TC_PREEMPT_DEFERRED,
              .GT_FRAME_CUR_LEN, .GT_FRAME_CTL_PEND]
          | .var _ _ _ => True) (fun _ => False))
  ∧ (∀ (s : State) (k : Tile) (f : OpenFrame) (rest : List OpenFrame), s.domOn k = true → s.parts.openFrames.at k = f :: rest →
    gtcBefore s.gtc f.endGtc = true →
    ∃ t, exec (.gtTileDone k) s = .next t
      ∧ Effect s t [(R .GT_TILE_OPEN k, min rest.length 15), (V .WDOG_FRAMES k, 0)] [] { s.parts with openFrames := s.parts.openFrames.set k rest })
  ∧ (∀ (s : State) (k : Tile) (f : OpenFrame) (rest : List OpenFrame), s.domOn k = true → s.parts.openFrames.at k = f :: rest →
    (s.gtc = f.endGtc ∨ gtcBefore f.endGtc s.gtc = true) → f.recorded = false →
    let late := min ((s.gtc + 2 ^ 64 - f.endGtc) % 2 ^ 64) 0xFFFFFFFF
    ∃ t, exec (.gtTileDone k) s = .next t
      ∧ Effect s t [(R .GT_TILE_OPEN k, min rest.length 15), (V .WDOG_FRAMES k, 0), (R .GT_TILE_LATE k, late)] []
          { s.parts with
            openFrames := s.parts.openFrames.set k rest
            overruns := s.parts.overruns ++ [⟨s.jobOf k, s.logicalOf k, f.num, late, f.fstat, s.gtc⟩] })
  ∧ (∀ (s : State) (k : Tile) (f : OpenFrame), s.atTick = true → s.parts.openFrames.at k = [f] → f.ticks = 65 → f.recorded = false →
    ∃ t, exec (.overrunLateLimit k) s = .next t
      ∧ Effect s t [] [] { s.parts with
          openFrames := s.parts.openFrames.set k [{ f with recorded := true }]
          overruns := s.parts.overruns ++ [⟨s.jobOf k, s.logicalOf k, f.num, 0xFFFFFFFF, f.fstat, s.gtc⟩] })
  ∧ (∀ (s : State) (o : Overrun) (rest : List Overrun), s.fwReady = true → s.parts.overruns = o :: rest → s.parts.events.length < 4096 →
    ∃ t, exec .frameOverrunRecord s = .next t ∧ t.parts.overruns = rest
      ∧ t.parts.events = s.parts.events ++ [⟨s.gtc, 0x0001, 0, o.job, [o.tile, o.frame, o.late]⟩]
      ∧ (s.parts.rindQueue.length < 56 → s.vr .GASP = 0 → ∃ r, r.source = 0x0500 ∧ t.parts.rindQueue = s.parts.rindQueue ++ [r])
      ∧ Within s t (fun l => l ∈ [R .BB_SEQ_NEXT, R .BB_STAT_QOCC, R .BB_STAT_DROPPED, V .BB_DUE, V .DROP_PEND]) (fun _ => False))

/-- Launch slots. A write of ARM to an Idle slot in time arms it with its job, and one out of time refuses it (R60). A cancel before L returns it Cancelled with a
LAUNCH event of status 0x68, and one at L or later only sets TOO_LATE (R62). At L the slot is Taken and the LAUNCH event posted, and every tile of its job in service runs
(R61, R443). RELEASE returns a Cancelled, Taken or Refused slot to Idle. A failure that reaches the root before K cancels the slot and is broadcast; a package that lost both
parents cancels its own slot alone (R63). -/
def Obligations.LaunchSlots : Prop :=
  (∀ (s : State) (k : Fin 4) (v : W64) (depth : BitVec 8), s.domOn 171 = true → s.rd .GT_LAUNCH_CTL_STATE 0 k = 0 → testB v.toNat 11 = true →
    testB v.toNat 15 = false →
    ∃ t, exec (.launchArm k v depth) s = .next t
      ∧ (launchTimely s k depth.toNat = true → Effect s t [(R .GT_LAUNCH_CTL_JOB 0 k, bitsOf v.toNat 5 0), (R .GT_LAUNCH_CTL_WITH_SCHED 0 k, 0),
          (R .GT_LAUNCH_CTL_STATE 0 k, 1), (V .LAUNCH_STAGED 0 k, 0)] [] s.parts)
      ∧ (launchTimely s k depth.toNat = false → Effect s t [(R .GT_LAUNCH_CTL_JOB 0 k, bitsOf v.toNat 5 0), (R .GT_LAUNCH_CTL_WITH_SCHED 0 k, 0),
          (R .GT_LAUNCH_CTL_STATE 0 k, 4)] [] s.parts))
  ∧ (∀ (s : State) (k : Fin 4) (node : BitVec 16), s.domOn 171 = true → s.rd .GT_LAUNCH_CTL_STATE 0 k = 1 →
    gtcBefore s.gtc (s.rd .GT_LAUNCH_AT_L 0 k) = true → s.rd .GT_LAUNCH_CTL_WITH_SCHED 0 k = 0 → s.parts.events.length < 4096 →
    ∃ t, exec (.launchCancel k node) s = .next t
      ∧ Effect s t [(R .GT_LAUNCH_CTL_STATE 0 k, 2), (V .LAUNCH_NODE 0 k, node.toNat + 1)] []
          { s.parts with events := s.parts.events ++
              [⟨s.gtc, 0x0002, 0x68, s.rd .GT_LAUNCH_CTL_JOB 0 k, [k.val, s.rd .GT_LAUNCH_AT_L 0 k, node.toNat]⟩] })
  ∧ (∀ (s : State) (k : Fin 4) (node : BitVec 16), s.domOn 171 = true → s.rd .GT_LAUNCH_CTL_STATE 0 k ∈ [1, 2, 3] →
    gtcBefore s.gtc (s.rd .GT_LAUNCH_AT_L 0 k) = false →
    ∃ t, exec (.launchCancel k node) s = .next t ∧ Effect s t [(R .GT_LAUNCH_CTL_TOO_LATE 0 k, 1)] [] s.parts)
  ∧ (∀ (s : State) (k : Fin 4), s.domOn 171 = true → s.rd .GT_LAUNCH_CTL_STATE 0 k = 1 → s.gtc = s.rd .GT_LAUNCH_AT_L 0 k →
    s.parts.events.length < 4096 →
    ∃ t, exec (.launchTaken k) s = .next t ∧ t.rd .GT_LAUNCH_CTL_STATE 0 k = 3
      ∧ t.parts.events = s.parts.events ++ [⟨s.gtc, 0x0002, 0, s.rd .GT_LAUNCH_CTL_JOB 0 k, [k.val, s.gtc, 0]⟩]
      ∧ (∀ n ∈ s.jobTiles (s.rd .GT_LAUNCH_CTL_JOB 0 k), t.rd .TC_CTL_RUN n = 1 ∧ t.vr .IN_FRAMES n = 1)
      ∧ Within s t (fun l => l = R .GT_LAUNCH_CTL_STATE 0 k ∨ l = V .EVENTS_LOST ∨ ∃ n ∈ s.jobTiles (s.rd .GT_LAUNCH_CTL_JOB 0 k),
          l ∈ [R .TC_CTL_RUN n, R .TC_STAT_RUNNING n, R .GT_TILE_OPEN n, V .TILE_JOB n, V .PC n, V .RUN_AT n, V .STALLED n, V .STOPPED n, V .IN_FRAMES n,
            V .WDOG_FRAMES n]) (fun _ => False))
  ∧ (∀ (s : State) (k : Fin 4), s.domOn 171 = true → s.rd .GT_LAUNCH_CTL_STATE 0 k ∈ [2, 3, 4] →
    ∃ t, exec (.launchRelease k) s = .next t
      ∧ Effect s t [(R .GT_LAUNCH_CTL_STATE 0 k, 0), (V .LAUNCH_STAGED 0 k, 0), (V .LAUNCH_NODE 0 k, 0)] [] s.parts)
  ∧ (∀ (s : State) (k : Fin 4) (lost : Bool) (node : BitVec 16), s.domOn 171 = true → s.rd .GT_LAUNCH_CTL_STATE 0 k = 1 →
    gtcBefore s.gtc (s.rd .GT_LAUNCH_CUTOFF_K 0 k) = true → s.rd .GT_LAUNCH_CTL_WITH_SCHED 0 k = 0 → s.parts.events.length < 4096 →
    ∃ t, exec (.launchDecisionCancel k lost node) s = .next t
      ∧ t.rd .GT_LAUNCH_CTL_STATE 0 k = 2 ∧ t.parts.bcastOut.length = s.parts.bcastOut.length + (if lost then 0 else 1)
      ∧ Within s t (fun l => l ∈ [R .GT_LAUNCH_CTL_STATE 0 k, V .LAUNCH_NODE 0 k]) (fun _ => False))

/-! ### The control core (R65 to R84, R530) -/

/-- Integer and read instructions of the control core: one that issues writes its result, with the marks of its sources, and the core goes on at the next
instruction; nothing else changes (R65, R68, R74, R76, R77). add and sub wrap at 64 bits. What shr keeps of the sign, cmp, sel's selector and the divisions' signs are
free values (log entry 33).
Branches: a taken branch, a jump, a call and a return go on at their target, a call keeps its return address in its link register, and an untaken branch goes on at the next
instruction (R68). A target that is no multiple of 4 raises exception 0x02 with the target as its address (R78, R79): the return point goes to TC_EPC, the fault is recorded, INEXC
sets and the core goes on at TC_TVEC. The link operand of call and ret is the model's reading (log entry 34). -/
def Obligations.CoreIntegerAndBranches : Prop :=
  ((∀ (s : State) (k : Tile) (op : AluOp) (rd ra rc : RegNo) (b : Opd), let srcs := .gp ra :: opdRegs b ++ (if op = .sel then [.gp rc] else [])
    s.CoreReady k (.gp rd :: srcs) →
    ∃ t, exec (.integerAlu k op rd ra b rc) s = .next t
      ∧ Effect s t (s.regTakes k (.gp rd) (aluResult op (s.gp k ra) (s.opd k b) (s.gp k rc)) (s.anyMarked k srcs) ++ s.coreAtPc k (s.pc k + 4)) [] s.parts)
  ∧ (∀ (s : State) (k : Tile) (op : MulOp) (rd ra : RegNo) (b : Opd), let srcs := .gp ra :: opdRegs b
    s.CoreReady k (.gp rd :: srcs) →
    ∃ t, exec (.integerMultiply k op rd ra b) s = .next t
      ∧ Effect s t (s.regTakes k (.gp rd) (mulResult op (s.gp k ra) (s.opd k b)) (s.anyMarked k srcs) ++ s.coreAtPc k (s.pc k + 4)) [] s.parts)
  ∧ (∀ (s : State) (k : Tile) (op : DivOp) (rd ra : RegNo) (b : Opd), let srcs := .gp ra :: opdRegs b
    s.CoreReady k (.gp rd :: srcs) →
    ∃ t, exec (.integerDivide k op rd ra b) s = .next t
      ∧ Effect s t (s.regTakes k (.gp rd) (divResult op (s.gp k ra) (s.opd k b)) (s.anyMarked k srcs) ++ s.coreAtPc k (s.pc k + 4)) [] s.parts)
  ∧ (∀ (s : State) (k : Tile) (rd c : RegNo), s.CoreReady k [.gp rd] →
    ∃ t, exec (.counterRead k rd c) s = .next t
      ∧ Effect s t (s.regTakes k (.gp rd) (s.rd .TC_CNT_VALUE k c) false ++ s.coreAtPc k (s.pc k + 4)) [] s.parts)
  ∧ (∀ (s : State) (k : Tile) (c rs : RegNo), s.CoreReady k [.gp rs] →
    ∃ t, exec (.counterSet k c rs) s = .next t
      ∧ Effect s t ((R .TC_CNT_VALUE k c, s.gp k rs % 2 ^ 32) :: s.coreAtPc k (s.pc k + 4)) [] s.parts)
  ∧ (∀ (s : State) (k : Tile) (rd slot : RegNo) (w : Fin 4), s.CoreReady k [.gp rd] →
    ∃ t, exec (.summaryRead k rd slot w) s = .next t
      ∧ Effect s t (s.regTakes k (.gp rd) (s.sumWord k slot w) (s.rd .TC_SUM0_SPEC k slot == 1) ++ s.coreAtPc k (s.pc k + 4)) [] s.parts)
  ∧ (∀ (s : State) (k : Tile) (rd : RegNo), s.CoreReady k [.gp rd] →
    (∃ t, exec (.timeRead k rd .gtc) s = .next t ∧ Effect s t (s.regTakes k (.gp rd) s.gtc false ++ s.coreAtPc k (s.pc k + 4)) [] s.parts)
      ∧ ∃ t, exec (.timeRead k rd .cyc) s = .next t
        ∧ Effect s t (s.regTakes k (.gp rd) ((s.clock - s.vr .RUN_AT k) % 2 ^ 64) false ++ s.coreAtPc k (s.pc k + 4)) [] s.parts)
  ∧ ∀ a b c, aluResult .add a b c = (a + b) % 2 ^ 64 ∧ (a < 2 ^ 64 → b < 2 ^ 64 → toSigned 64 (aluResult .sub a b c) = toSigned 64 (ofSigned 64 ((a : Int) - b)))
      ∧ mulResult .mul a b = a * b % 2 ^ 64)
  ∧ (∀ (s : State) (k : Tile) (target : BitVec 16) (kind : BrKind) (taken : Bool), s.CoreReady k (brRegs kind) → target.toNat % 4 = 0 →
    (match kind with
      | .cond c a b => taken = Config.condHolds c (s.gp k a) (s.gp k b)
      | .jump => taken = true
      | _ => False) →
    ∃ t, exec (.branch k kind target) s = .next t ∧ Effect s t (s.coreAtPc k (if taken then target.toNat else s.pc k + 4)) [] s.parts)
  ∧ (∀ (s : State) (k : Tile) (target : BitVec 16) (l : RegNo), s.CoreReady k [.gp l] → target.toNat % 4 = 0 →
    ∃ t, exec (.branch k (.call l) target) s = .next t
      ∧ Effect s t (s.regTakes k (.gp l) ((s.pc k + 4) % 65536) false ++ s.coreAtPc k target.toNat) [] s.parts)
  ∧ (∀ (s : State) (k : Tile) (target : BitVec 16) (l : RegNo), s.CoreReady k [.gp l] → s.gp k l % 65536 % 4 = 0 →
    ∃ t, exec (.branch k (.ret l) target) s = .next t ∧ Effect s t (s.coreAtPc k (s.gp k l % 65536)) [] s.parts)
  ∧ (∀ (s : State) (k : Tile) (slot : RegNo) (mask target : BitVec 16), s.CoreReady k [] → target.toNat % 4 = 0 →
    ∃ t, exec (.branchOnSummary k slot mask target) s = .next t
      ∧ Effect s t (s.coreAtPc k (if testB mask.toNat (s.rd .TC_SUM0_STATUS k slot / 16) then target.toNat else s.pc k + 4)) [] s.parts)
  ∧ (∀ (s : State) (k : Tile) (target : BitVec 16), s.CoreReady k [] → target.toNat % 4 ≠ 0 → s.rd .TC_STAT_INEXC k ≠ 1 →
    ∃ t, exec (.branch k .jump target) s = .next t
      ∧ Effect s t (s.excTaken k (s.pc k) ⟨0x02, 0, some target.toNat, s.pc k, false, false⟩) [] (s.parts.excTaken k))

/-- Scalar and short-vector floating point: with the traps of the raised flags disabled the result is written with its sources' marks and the flags accumulate in TC_FCSR.FLAGS; with
one enabled the instruction writes nothing and raises exception 0x07 (R65, R68, R78). sv.perm and sv.cvt give free values (log entry 33). -/
def Obligations.CoreFloatingPoint : Prop :=
  let done := fun (s : State) (k : Nat) (c : Instr) (d : Dest) (r : Nat × Nat) (srcs : List Rg) =>
    (s.rd .TC_FCSR_TRAPEN k &&& r.2 = 0 → ∃ t, exec c s = .next t
      ∧ Effect s t ((R .TC_FCSR_FLAGS k, s.rd .TC_FCSR_FLAGS k ||| r.2) :: s.regTakes k d r.1 (s.anyMarked k srcs) ++ s.coreAtPc k (s.pc k + 4)) [] s.parts)
    ∧ (s.rd .TC_FCSR_TRAPEN k &&& r.2 ≠ 0 → s.rd .TC_STAT_INEXC k ≠ 1 → ∃ t, exec c s = .next t
      ∧ Effect s t (s.excTaken k (s.pc k) ⟨0x07, 0, none, s.pc k, false, false⟩) [] (s.parts.excTaken k))
  (∀ (s : State) (k : Tile) (op : FpOp) (f : FpFmt) (rd ra rb rc : RegNo),
    let srcs := [.sv ra, .sv rb] ++ (if op = .fma then [.sv rc] else [])
    s.CoreReady k (.sv rd :: srcs) →
    done s k (.scalarFp k op f rd ra rb rc) (.fp rd)
      (fpResult op (fpFmt f) (s.coreRM k) (s.fpOpd k ra (fpFmt f)) (s.fpOpd k rb (fpFmt f)) (s.fpOpd k rc (fpFmt f))) srcs)
  ∧ (∀ (s : State) (k : Tile) (f : FpFmt) (rd ra rb : RegNo), s.CoreReady k [.sv rd, .sv ra, .sv rb] →
    done s k (.scalarFpDivide k .fdiv f rd ra rb) (.fp rd) ((fpFmt f).div (s.coreRM k) (s.fpOpd k ra (fpFmt f)) (s.fpOpd k rb (fpFmt f))) [.sv ra, .sv rb])
  ∧ (∀ (s : State) (k : Tile) (f : FpFmt) (rd ra rb : RegNo), s.CoreReady k [.sv rd, .sv ra] →
    done s k (.scalarFpDivide k .fsqrt f rd ra rb) (.fp rd) ((fpFmt f).sqrt (s.coreRM k) (s.fpOpd k ra (fpFmt f))) [.sv ra])
  ∧ (∀ (s : State) (k : Tile) (op : SvOp) (f : SvFmt) (rd ra rb rc : RegNo),
    let srcs := [.sv ra, .sv rb] ++ (if op = .fma then [.sv rc] else [])
    s.CoreReady k (.sv rd :: srcs) →
    done s k (.shortVectorArithmetic k op f rd ra rb rc) (.sv rd) (svResult op f (s.coreRM k) (s.sv k ra) (s.sv k rb) (s.sv k rc)) srcs)
  ∧ (∀ (s : State) (k : Tile) (rd ra rb : RegNo), s.CoreReady k [.sv rd, .sv ra, .sv rb] → ∃ v,
    done s k (.shortVectorPermute k .perm rd ra rb) (.sv rd) (v, 0) [.sv ra, .sv rb])
  ∧ (∀ (s : State) (k : Tile) (code : Fin 256) (rd ra rb : RegNo), s.CoreReady k [.sv rd, .sv ra] → ∃ r : Nat × Nat,
    done s k (.shortVectorPermute k (.cvt code) rd ra rb) (.sv rd) r [.sv ra])

/-- Core data memory: ld.l reads its bytes at issue as a load whose answer is then taken, and st.l writes its bytes, little-endian, at the address base + offset; an access that passes
64 KiB raises exception 0x03 with status 0x64 (R66, R69, R79).
The tile's own store: ld.t issues a load that carries the bytes read through the word code, and st.t writes the register's bytes; of memory only the 8-byte words that hold them can
change (R77, R246, R291). -/
def Obligations.CoreLocalMemory : Prop :=
  (∀ (s : State) (k : Tile) (d : Dest) (base : RegNo) (off : W64) (size : Fin 32), let n := size.val + 1; let a := s.ea k base off.toNat
    s.CoreReady k [rgOf d, .gp base] → a % n = 0 → a + n ≤ 65536 → s.dmemBad k a n = none →
    ∃ t, exec (.localLoad k d base off size) s = .next t
      ∧ Effect s t (s.coreAtPc k (s.pc k + 4)) [] { s.parts with loads := s.parts.loads.set k (s.parts.loads.at k
          ++ [⟨d, s.pc k, a, n, false, true, 0, 0, leNat (s.bytes (dmemBase k + a) n), s.marked k (.gp base), 0⟩]) })
  ∧ (∀ (s : State) (k : Tile) (src : Dest) (base : RegNo) (off : W64) (size : Fin 32), let n := size.val + 1; let a := s.ea k base off.toNat
    s.CoreReady k [rgOf src, .gp base] → a % n = 0 → a + n ≤ 65536 →
    ∃ t, exec (.localStore k src base off size) s = .next t ∧ t.parts = s.parts
      ∧ (∀ i < n, t.byte (dmemBase k + a + i) = BitVec.ofNat 8 (s.regVal k src / 256 ^ i)) ∧ t.pc k = (s.pc k + 4) % 65536
      ∧ Within s t (fun l => l ∈ (s.coreAtPc k (s.pc k + 4)).map Prod.fst ∨ ∃ w, l = V .DMEM_BAD k w ∧ a ≤ 8 * w ∧ 8 * w + 8 ≤ a + n)
          (fun x => dmemBase k + a ≤ x ∧ x < dmemBase k + a + n))
  ∧ (∀ (s : State) (k : Tile) (d : Dest) (base : RegNo) (off : W64) (size : Fin 32), let n := size.val + 1; let a := s.ea k base off.toNat
    s.CoreReady k [rgOf d, .gp base] → a % n = 0 → 65536 < a + n → s.rd .TC_STAT_INEXC k ≠ 1 →
    ∀ c ∈ [Instr.localLoad k d base off size, .localStore k d base off size],
    ∃ t, exec c s = .next t
      ∧ Effect s t (s.excTaken k (s.pc k) ⟨0x03, 0x64, some a, s.pc k, false, s.marked k (.gp base)⟩) [] (s.parts.excTaken k))
  ∧ (∀ (s : State) (k : Tile) (d : Dest) (base : RegNo) (off : W64) (size : Fin 32), let n := size.val + 1; let a := s.ea k base off.toNat
    s.CoreReady k [rgOf d, .gp base] → a % n = 0 → a + n ≤ 2 ^ 24 →
    ∃ t l, exec (.tileStoreLoad k d base off size) s = .next t ∧ t.parts.loads.at k = s.parts.loads.at k ++ [l]
      ∧ l.dest = d ∧ l.data = leNat (s.readTs k a n).data ∧ l.answered = true ∧ (l.status = 0 ↔ (s.readTs k a n).bad = []) ∧ t.pc k = (s.pc k + 4) % 65536
      ∧ Within s t (fun l => l ∈ (s.coreAtPc k (s.pc k + 4)).map Prod.fst ∨ errorCounts l) (fun _ => False))
  ∧ (∀ (s : State) (k : Tile) (src : Dest) (base : RegNo) (off : W64) (size : Fin 32), let n := size.val + 1; let a := s.ea k base off.toNat
    s.CoreReady k [rgOf src, .gp base] → s.anyMarked k [rgOf src, .gp base] = false → a % n = 0 → a + n ≤ 2 ^ 24 →
    ∃ t, exec (.tileStoreStore k src base off size) s = .next t
      ∧ (∀ i < n, t.byte (storeBase k + a + i) = BitVec.ofNat 8 (s.regVal k src / 256 ^ i)) ∧ t.pc k = (s.pc k + 4) % 65536
      ∧ Within s t (fun l => l ∈ (s.coreAtPc k (s.pc k + 4)).map Prod.fst ∨ ∃ v i j, l = .var v i j ∧ i = k ∧ v ∈ [Var.TS_CHK, .TS_POIS, .CALD_W])
          (fun x => storeBase k + a / 8 * 8 ≤ x ∧ x < storeBase k + (a + n + 7) / 8 * 8))
  ∧ (∀ (s : State) (k : Tile) (src : Dest) (base : RegNo) (off : W64) (size : Fin 32), let n := size.val + 1
    s.CoreReady k [rgOf src, .gp base] → s.anyMarked k [rgOf src, .gp base] = true → s.insideCaldera k (s.ea k base off.toNat) n = false →
    ∃ t, exec (.tileStoreStore k src base off size) s = .next t ∧ Effect s t [(V .STALLED k, 1), (V .SPEC_STALL k, 1)] [] s.parts)

/-- Descriptor issue: a defined operation that finds room in its engine's queue enters it at the end with the raw 64 bytes of its registers or of data memory, in issue order, and the core goes
on; a full queue stalls the core, and an undefined operation raises exception 0x06 (R70, R71, R79). With recording on outside a window its entry is stored at DM_REC_ADDR + 64 × COUNT and COUNT grows
by one (R256).
A vx instruction that passes its checks enters the vector queue with the core registers it reads, and the core goes on; a full queue of 32 stalls the core, and a failed check raises exception 0x01,
0x02 or 0x03 (R143, R144). -/
def Obligations.IssueToEngines : Prop :=
  (let operand := fun (s : State) (k : Nat) (form : IssueForm) (raw : Nat) => match form with
    | .pair j => raw = s.sv k (2 * j) + s.sv k (2 * j + 1) * 2 ^ 256
    | .mem r => s.gp k r % 64 = 0 ∧ s.gp k r + 64 ≤ 65536 ∧ s.dmemBad k (s.gp k r) 64 = none ∧ raw = s.num (dmemBase k + s.gp k r) 64
  let entry := fun (s : State) (k raw : Nat) (form : IssueForm) => (⟨raw, s.vr .ISSUE_SEQ k, s.clock, s.window k, s.anyMarked k (issueRegs form), 0⟩ : Desc)
  (∀ (s : State) (k : Tile) (e : Fin 8) (form : IssueForm) (raw : Nat), s.CoreReady k (issueRegs form) → operand s k form raw →
    opcDefined e (raw % 256) = true → e.val ≠ 6 → (s.anyMarked k (issueRegs form) = true → e.val < 2) →
    (s.queue k e).length < 16 → s.rd .DM_REC_CTL_EN k = 0 →
    ∃ t, exec (.descriptorIssue k e form) s = .next t
      ∧ Effect s t ((R .TC_QSTAT_OCC k, occWith (s.rd .TC_QSTAT_OCC k) e ((s.queue k e).length + 1)) :: (V .ISSUE_SEQ k, s.vr .ISSUE_SEQ k + 1)
          :: s.coreAtPc k (s.pc k + 4)) [] { s.parts with queues := s.parts.queues.set (eKey k e) (s.queue k e ++ [entry s k raw form]) })
  ∧ (∀ (s : State) (k : Tile) (e : Fin 8) (form : IssueForm) (raw : Nat), s.CoreReady k (issueRegs form) → operand s k form raw →
    opcDefined e (raw % 256) = true → s.anyMarked k (issueRegs form) = false → 16 ≤ (s.queue k e).length →
    ∃ t, exec (.descriptorIssue k e form) s = .next t ∧ Effect s t [(V .STALLED k, 1)] [] s.parts)
  ∧ (∀ (s : State) (k : Tile) (e : Fin 8) (form : IssueForm) (raw : Nat), s.CoreReady k (issueRegs form) → operand s k form raw →
    opcDefined e (raw % 256) = false → s.anyMarked k (issueRegs form) = false → s.rd .TC_STAT_INEXC k ≠ 1 →
    ∃ t, exec (.descriptorIssue k e form) s = .next t
      ∧ Effect s t (s.excTaken k (s.pc k) ⟨0x06, 0, none, s.pc k, false, false⟩) [] (s.parts.excTaken k))
  ∧ (∀ (s : State) (k : Tile) (e : Fin 8) (form : IssueForm) (raw : Nat), s.CoreReady k (issueRegs form) → operand s k form raw →
    opcDefined e (raw % 256) = true → e.val ≠ 6 → s.anyMarked k (issueRegs form) = false → (s.queue k e).length < 16 → s.rd .DM_REC_CTL_EN k = 1 →
    testB (s.rd .DM_REC_CTL_MASK k) e = true → s.rd .DM_REC_CTL_COUNT k + 1 < s.rd .DM_REC_CTL_LIMIT k → s.window k = false →
    let off := (s.rd .DM_REC_ADDR_ADDR k + 64 * s.rd .DM_REC_CTL_COUNT k) % 2 ^ 24
    off % 64 = 0 →
    ∃ t, exec (.descriptorIssue k e form) s = .next t ∧ t.queue k e = s.queue k e ++ [entry s k raw form]
      ∧ t.rd .DM_REC_CTL_COUNT k = (s.rd .DM_REC_CTL_COUNT k + 1) % 2 ^ Fld.DM_REC_CTL_COUNT.width
      ∧ (∀ i < 64, t.byte (storeBase k + off + i) = BitVec.ofNat 8 (putBits raw 24 4 (e + 8) / 256 ^ i))
      ∧ Within s t (ofTile k) (fun x => storeBase k + off ≤ x ∧ x < storeBase k + off + 64)))
  ∧ (∀ (s : State) (k : Tile) (word : BitVec 32),
    let rs := vxCoreRegs ⟨word.toNat, 0, 0, 0, 0, false, false⟩ (s.issueVtype k).2
    let regs := rs.1.toList ++ rs.2.toList
    let q : VxQ := ⟨word.toNat, s.low64 k rs.1, s.low64 k rs.2, s.vr .VX_ISSUED k, s.clock, s.window k, s.anyMarked k regs⟩
    let chk := vxCheck q (s.issueVtype k).1 (s.issueVtype k).2
    let n := (s.parts.vq.at k).length
    s.CoreReady k regs →
    ∃ t, exec (.vectorEngineInstruction k word) s = .next t
      ∧ (chk = 0 → n < 32 → Effect s t ((R .TC_QSTAT_OCC k, occWith (s.rd .TC_QSTAT_OCC k) 7 (n + 1)) :: (R .VX_STAT_QOCC k, n + 1)
          :: (V .VX_ISSUED k, s.vr .VX_ISSUED k + 1) :: s.coreAtPc k (s.pc k + 4)) [] { s.parts with vq := s.parts.vq.set k (s.parts.vq.at k ++ [q]) })
      ∧ (chk = 0 → 32 ≤ n → Effect s t [(V .STALLED k, 1)] [] s.parts)
      ∧ (chk = 1 → s.rd .TC_STAT_INEXC k ≠ 1 → Effect s t (s.excTaken k (s.pc k) ⟨0x01, 0, none, s.pc k, false, false⟩) [] (s.parts.excTaken k))
      ∧ (chk = 2 → s.rd .TC_STAT_INEXC k ≠ 1 →
          Effect s t (s.excTaken k (s.pc k) ⟨0x02, 0, some q.base, s.pc k, false, s.anyMarked k regs⟩) [] (s.parts.excTaken k))
      ∧ (chk = 3 → s.rd .TC_STAT_INEXC k ≠ 1 →
          Effect s t (s.excTaken k (s.pc k) ⟨0x03, 0x64, some q.base, s.pc k, false, s.anyMarked k regs⟩) [] (s.parts.excTaken k)))

/-- Global loads, stores, flags and atomics of the core that leave for another package, the stack or another tile take the last place of the tile's tracker with their operation code, address and data, and the
core goes on; a load or atomic waits for its answer in its destination (R69, R341, R342). A flag stays unsent until its own step, and one with bit 63 set takes no entry (R344). st.g to the tile's own store writes the
bytes (R243). -/
def Obligations.CoreGlobalAccess : Prop :=
  let track := fun (s t : State) (k : Tile) (op a n : Nat) (data : List Byte) =>
    (t.tracker k).length = (s.tracker k).length + 1 ∧ (∃ e, (t.tracker k).getLast? = some e ∧ e.pkt.op = op ∧ e.pkt.addr = a % 2 ^ 48 ∧ e.pkt.dstNode = a / 2 ^ 48 % 65536
        ∧ e.pkt.len = n ∧ e.pkt.data = data ∧ e.pkt.srcTile = s.logicalOf k ∧ e.seq = s.vr .TRK_SEQ k) ∧ t.pc k = (s.pc k + 4) % 65536
      ∧ Within s t (fun l => l ∈ (s.coreAtPc k (s.pc k + 4)).map Prod.fst ∨ l = V .TRK_SEQ k) (fun _ => False)
  (∀ (s : State) (k : Tile) (d : Dest) (base : RegNo) (off : W64) (size : Fin 32), let n := size.val + 1; let a := s.ea k base off.toNat
    s.CoreReady k [rgOf d, .gp base] → s.marked k (.gp base) = false → s.coreAt k a n = .far → a % n = 0 → (s.tracker k).length < 1024 → s.loadsOut k < 8 →
    ∃ t, exec (.stackRemoteLoad k d base off size) s = .next t ∧ track s t k 0x01 a n []
      ∧ t.parts.loads.at k = s.parts.loads.at k ++ [⟨d, s.pc k, a, n, false, false, 0, 0, 0, false, s.vr .TRK_SEQ k + 1⟩])
  ∧ (∀ (s : State) (k : Tile) (src : Dest) (base : RegNo) (off : W64) (size : Fin 32), let n := size.val + 1; let a := s.ea k base off.toNat
    s.CoreReady k [rgOf src, .gp base] → s.anyMarked k [rgOf src, .gp base] = false → s.coreAt k a n = .far → a % n = 0 → (s.tracker k).length < 1024 →
    ∃ t, exec (.stackRemoteStore k src base off size) s = .next t ∧ track s t k 0x02 a n (leBytes n (s.regVal k src)) ∧ t.parts.loads = s.parts.loads)
  ∧ (∀ (s : State) (k : Tile) (src : Dest) (base : RegNo) (off : W64) (size : Fin 32) (o : Nat), let n := size.val + 1; let a := s.ea k base off.toNat
    s.CoreReady k [rgOf src, .gp base] → s.anyMarked k [rgOf src, .gp base] = false → s.coreAt k a n = .own o → a % n = 0 →
    ∃ t, exec (.stackRemoteStore k src base off size) s = .next t ∧ (∀ i < n, t.byte (storeBase k + o + i) = BitVec.ofNat 8 (s.regVal k src / 256 ^ i))
      ∧ Within s t (fun l => l ∈ (s.coreAtPc k (s.pc k + 4)).map Prod.fst ∨ ∃ v i j, l = .var v i j ∧ i = k ∧ v ∈ [Var.TS_CHK, .TS_POIS, .CALD_W])
          (fun x => storeBase k + o / 8 * 8 ≤ x ∧ x < storeBase k + (o + n + 7) / 8 * 8))
  ∧ (∀ (s : State) (k : Tile) (src : Dest) (base : RegNo) (off : W64), let a := s.ea k base off.toNat; let v := s.regVal k src % 2 ^ 64
    s.CoreReady k [rgOf src, .gp base] → s.anyMarked k [rgOf src, .gp base] = false → s.coreAt k a 8 = .far → a % 8 = 0 → (s.tracker k).length < 1024 →
    ∃ t, exec (.flaggedStore k src base off) s = .next t
      ∧ (v < 2 ^ 63 → track s t k 0x03 a 8 (leBytes 8 v) ∧ ∀ e, (t.tracker k).getLast? = some e → e.sent = false)
      ∧ (2 ^ 63 ≤ v → Effect s t (s.coreAtPc k (s.pc k + 4)) [] s.parts))
  ∧ (∀ (s : State) (k : Tile) (op : AmoOp) (ty : AType) (d x cmp : Dest) (base : RegNo) (off : W64), let n := atypeSize ty; let a := s.ea k base off.toNat
    s.CoreReady k (rgOf d :: amoRegs op base x cmp) → s.anyMarked k (amoRegs op base x cmp) = false → s.coreAt k a n = .far → a % n = 0 → (s.tracker k).length < 1024 →
    let xv := s.regVal k x % 2 ^ (8 * n); let cv := s.regVal k cmp % 2 ^ (8 * n)
    ∃ t, exec (.remoteAtomic k op ty d base off x cmp) s = .next t
      ∧ track s t k (amoCode op) a n (if op = .cas then leBytes n cv ++ leBytes n xv else leBytes n xv)
      ∧ t.parts.loads.at k = s.parts.loads.at k ++ [⟨d, s.pc k, a, n, false, false, 0, 0, 0, false, s.vr .TRK_SEQ k + 1⟩])

/-- Waits: wait.ge and wait.dl hold the core at the instruction; a counter that reaches the value, or the deadline, ends the wait with 1 or 0 in gp1 for a wait.dl, and a wait.dl whose deadline has passed ends
at once with 0 (R49, R75). rn.get takes the next output of its slot, x(P) + x(P + 334) folded by its high half, and returns 0 with UNBOUND_ERR from a slot that is not BOUND (R224, R225, R232, R233).
Exceptions of the core. An enabled pending interrupt is taken as exception 0x10 (R78). A load's answer is written to its destination, or its fault is taken as a deferred exception with the first instruction not
yet issued as its return point (R530). eret clears INEXC and goes on at TC_EPC (R78). An exception while INEXC is 1 is a double fault: the core halts with DFAULT set, the second fault is recorded and TC_EPC is kept
(R80), and the message for the firmware goes into T2F when the tile holds the slot (R440). -/
def Obligations.CoreWaitsAndExceptions : Prop :=
  (∀ (s : State) (k : Tile) (c rv : RegNo), s.CoreReady k [.gp rv] →
    ∃ t, exec (.counterWait k c rv) s = .next t ∧ Effect s t [] [] { s.parts with waits := s.parts.waits.put k (some ⟨c, s.gp k rv % 2 ^ 32, none⟩) })
  ∧ (∀ (s : State) (k : Tile) (c rv rdl : RegNo), s.CoreReady k [.gp rv, .gp rdl, .gp 1] →
    ∃ t, exec (.counterWaitDeadline k c rv rdl) s = .next t
      ∧ (gtcBefore s.gtc (s.gp k rdl) = true → Effect s t [] [] { s.parts with waits := s.parts.waits.put k (some ⟨c, s.gp k rv % 2 ^ 32, some (s.gp k rdl)⟩) })
      ∧ (gtcBefore s.gtc (s.gp k rdl) = false → Effect s t (s.regTakes k (.gp 1) 0 (s.anyMarked k [.gp rv, .gp rdl]) ++ s.coreAtPc k (s.pc k + 4)) [] s.parts))
  ∧ (∀ (s : State) (k : Tile) (w : Wait), s.parts.waits.find k = some w → s.reached k w.counter w.value = true →
    (∀ d, w.deadline = some d → gtcBefore s.gtc d = true) →
    ∃ t, exec (.waitRelease k) s = .next t
      ∧ Effect s t ((if w.deadline.isSome then s.regTakes k (.gp 1) 1 false else []) ++ s.coreAtPc k (s.pc k + 4)) []
          { s.parts with waits := s.parts.waits.put k none })
  ∧ (∀ (s : State) (k : Tile) (w : Wait) (d : Nat), s.parts.waits.find k = some w → w.deadline = some d → gtcBefore s.gtc d = false →
    ∃ t, exec (.waitDeadline k) s = .next t
      ∧ Effect s t (s.regTakes k (.gp 1) 0 false ++ s.coreAtPc k (s.pc k + 4)) [] { s.parts with waits := s.parts.waits.put k none })
  ∧ (∀ (s : State) (k : Tile) (rd : RegNo) (sl : Fin 4), s.CoreReady k [.gp rd] → s.rnBusy k sl = false → s.rnBound k sl = true →
    s.rd .RN_SLOT_CTL_OWNER k sl ≠ 1 → s.rd .RN_SLOT_CTL_POISON k sl ≠ 1 →
    let lane := s.rd .RN_SLOT_POS_POS k sl % 32
    let x := (s.rnWord k sl lane 0 + s.rnWord k sl lane 334) % 2 ^ 64
    ∃ t, exec (.randomDraw k rd sl) s = .next t
      ∧ Effect s t ([(V .RN_W k (s.rnIdx k sl lane 0), x), (V .RN_H k (32 * sl + lane), (s.vr .RN_H k (32 * sl + lane) + 1) % 607),
          (R .RN_SLOT_POS_POS k sl, (s.rd .RN_SLOT_POS_POS k sl + 1) % 2 ^ 64), (R .RN_DRAWS_COUNT k, (s.rd .RN_DRAWS_COUNT k + 1) % 2 ^ Fld.RN_DRAWS_COUNT.width)]
          ++ s.regTakes k (.gp rd) (x ^^^ (x / 2 ^ 32)) false ++ s.coreAtPc k (s.pc k + 4)) [] s.parts)
  ∧ (∀ (s : State) (k : Tile) (rd : RegNo) (sl : Fin 4), s.CoreReady k [.gp rd] → s.rnBusy k sl = false → s.rnBound k sl = false →
    ∃ t, exec (.randomDraw k rd sl) s = .next t
      ∧ Effect s t ([(R .RN_STAT_UNBOUND_ERR k, 1), (R .RN_ERR_UNBOUND k, satAdd Fld.RN_ERR_UNBOUND.width (s.rd .RN_ERR_UNBOUND k) 1)]
          ++ s.regTakes k (.gp rd) 0 false ++ s.coreAtPc k (s.pc k + 4)) [] s.parts)
  ∧ (∀ (s : State) (k : Tile), s.domOn k = true → s.rd .TC_CTL_RUN k = 1 → s.vr .STOPPED k = 0 → s.rd .TC_STAT_INEXC k = 0 →
    s.rd .TC_IPEND_SRC k &&& s.rd .TC_IEN_SRC k ≠ 0 →
    ∃ t, exec (.interruptEntry k) s = .next t
      ∧ Effect s t (s.excTaken k (s.pc k) ⟨0x10, 0, none, s.pc k, false, false⟩) [] (s.parts.excTaken k))
  ∧ (∀ (s : State) (k : Tile) (n : Fin 64) (l : PendLoad), (s.parts.loads.at k)[n.val]? = some l → l.answered = true →
    ∃ t, exec (.loadAnswer k n) s = .next t
      ∧ (l.status = 0 → Effect s t ((V .STALLED k, 0) :: s.regTakes k l.dest (loadValue l.dest l.size l.data) l.mark) []
          { s.parts with loads := s.parts.loads.set k ((s.parts.loads.at k).erase l) })
      ∧ (l.status ≠ 0 → (s.faulting k).head? = some l → s.rd .TC_STAT_INEXC k = 0 →
          Effect s t (s.excTaken k (s.pc k) ⟨if l.status = 0x40 then 0x04 else 0x05, l.status, some (if l.status = 0x40 then l.badAddr else l.addr), l.pc, true, l.mark⟩) []
            (Parts.excTaken { s.parts with loads := s.parts.loads.set k ((s.parts.loads.at k).erase l) } k)))
  ∧ (∀ (s : State) (k : Tile), s.CoreReady k [] → (s.faulting k).find? (fun l => l.preExc) = none →
    ∃ t, exec (.exceptionReturn k) s = .next t ∧ Effect s t ((R .TC_STAT_INEXC k, 0) :: s.coreAtPc k (4 * s.rd .TC_EPC_PC k)) [] s.parts)
  ∧ (∀ (s : State) (k : Tile) (target : BitVec 16), s.CoreReady k [] → target.toNat % 4 ≠ 0 → s.rd .TC_STAT_INEXC k = 1 →
    ∃ t, exec (.branch k .jump target) s = .next t ∧ t.rd .TC_STAT_DFAULT k = 1 ∧ t.rd .TC_CTL_RUN k = 0 ∧ t.rd .TC_STAT_RUNNING k = 0 ∧ t.rd .TC_EXC_CAUSE k = 0x02
      ∧ t.rd .TC_EXC_ADDR_ADDR k = target.toNat ∧ t.rd .TC_EPC_PC k = s.rd .TC_EPC_PC k
      ∧ Within s t (fun l => ofTile k l ∨ rindPlaces l ∨ l = R .MB_TILE_PEND_TILES) (fun _ => False))
  ∧ (∀ (s : State) (k : Tile), s.vr .DFAULT_MSG k = 1 → s.rd .MB_T2F_CTL_OWN k = 0 →
    ∃ t, exec (.doubleFaultMessage k) s = .next t
      ∧ Effect s t [(R .MB_T2F_CTL_KIND k, 3), (R .MB_T2F_CTL_LEN k, 2), (R .MB_T2F_CTL_OWN k, 1),
          (R .MB_T2F_DATA_DATA k 0, s.rd .TC_EXC_CAUSE k + s.rd .TC_EXC_STATUS k * 2 ^ 8 + s.rd .TC_EXC_DEFERRED k * 2 ^ 16 + s.rd .TC_EXC_FPC k * 2 ^ 18),
          (R .MB_T2F_DATA_DATA k 1, 4 * s.rd .TC_EPC_PC k), (V .DFAULT_MSG k, 0), (R .MB_TILE_PEND_TILES, setB (s.rd .MB_TILE_PEND_TILES) (s.logicalOf k))] []
          { s.parts with work := s.parts.work ++ [⟨.job, .doubleFault, k, s.gtc⟩] })

/-- Control of the core. A write of TC_CTL.RUN starts a halted core at TC_EPC or halts it (R66); STEP issues once in debug (R84); TC_CNT takes a written value (R74). A context switch that is not done after 8 ticks is reported (R81),
and the watchdog fires after FRAMES frames without GT_TILE.DONE with a safety interrupt (R84).
Contexts. A stopped tile with nothing left to complete saves its image at TC_CTX_ADDR in its own store and sets DONE (R81, R82). A restore of a sound image loads the general registers, counters and PC from it and runs the core,
and one that fails its checks changes the reported status alone (R83). -/
def Obligations.CoreControlAndContexts : Prop :=
  (∀ (s : State) (k : Tile) (v : W64), s.domOn k = true →
    ∃ t, exec (.tcRun k v) s = .next t
      ∧ (testB v.toNat 0 = true → s.rd .TC_CTL_RUN k ≠ 1 → Effect s t [(R .TC_CTL_RUN k, 1), (R .TC_STAT_RUNNING k, 1), (V .PC k, 4 * s.rd .TC_EPC_PC k), (V .RUN_AT k, s.clock),
          (V .STALLED k, 0), (V .SPEC_STALL k, 0), (V .STOPPED k, 0)] [] s.parts)
      ∧ (testB v.toNat 0 = false → Effect s t [(R .TC_CTL_RUN k, 0), (R .TC_STAT_RUNNING k, 0)] [] s.parts))
  ∧ (∀ (s : State) (k : Tile), s.domOn k = true → s.rd .TC_CTL_RUN k = 0 → s.debug = true →
    ∃ t, exec (.tcStep k) s = .next t ∧ Effect s t [(V .STEPPING k, 1)] [] s.parts)
  ∧ (∀ (s : State) (k : Tile) (c : RegNo) (v : W64), s.domOn k = true →
    ∃ t, exec (.tcCntWrite k c v) s = .next t ∧ Effect s t [(R .TC_CNT_VALUE k c, v.toNat % 2 ^ 32)] [] s.parts)
  ∧ (∀ (s : State) (k : Tile), s.rd .TC_PREEMPT_REQ k = 1 → s.rd .TC_PREEMPT_DONE k = 0 → 8 ≤ s.vr .PREEMPT_TICKS k → s.vr .PREEMPT_LATE k = 0 →
    ∃ t, exec (.preemptDeferralLimit k) s = .next t
      ∧ Effect s t [(V .PREEMPT_LATE k, 1)] [] { s.parts with work := s.parts.work ++ [⟨.job, .preemptLate, k, s.gtc⟩] })
  ∧ (∀ (s : State) (k : Tile), s.domOn k = true → s.rd .TC_WDOG_FRAMES k ≠ 0 → s.rd .TC_WDOG_FRAMES k ≤ s.vr .WDOG_FRAMES k → s.rd .TC_WDOG_FIRED k = 0 →
    ∃ t, exec (.tileWatchdog k) s = .next t
      ∧ Effect s t [(R .TC_WDOG_FIRED k, 1), (R .TC_IPEND_SRC k, setB (s.rd .TC_IPEND_SRC k) 4)] []
          { s.parts with work := s.parts.work ++ [⟨.safety, .tileWatchdog, k, s.gtc⟩] })
  ∧ (∀ (s : State) (k : Tile) (o : Nat), s.domOn k = true → s.vr .STOPPED k = 1 → s.rd .TC_PREEMPT_DONE k = 0 → s.vr .SAVE_OUT k = 0 → s.drainedCore k = true →
    s.coreAt k (4096 * s.rd .TC_CTX_ADDR_ADDR k) (s.ctxImage k).length = .own o →
    ∃ t, exec (.contextSaveDone k) s = .next t ∧ t.rd .TC_PREEMPT_DONE k = 1
      ∧ (∀ i < (s.ctxImage k).length, some (t.byte (storeBase k + o + i)) = (s.ctxImage k)[i]?)
      ∧ Within s t (ofTile k) (fun x => storeBase k + o / 8 * 8 ≤ x ∧ x < storeBase k + (o + (s.ctxImage k).length + 7) / 8 * 8))
  ∧ (∀ (s : State) (k : Tile) (remote : List Byte), let r := s.ctxRead k remote
    s.domOn k = true → restoreStatus r.1 r.2 = 0 →
    ∃ t, exec (.contextRestore k remote) s = .next t ∧ t.vr .CTX_STATUS k = 0 ∧ t.rd .TC_CTL_RUN k = 1 ∧ t.rd .TC_STAT_INEXC k = 0
      ∧ (∀ n < 32, t.vr .GP k n = leNat ((r.1.drop (0x40 + 8 * n)).take 8) ∧ t.rd .TC_CNT_VALUE k n = leNat ((r.1.drop (0x740 + 4 * n)).take 4))
      ∧ t.vr .PC k = leNat ((r.1.drop 0x540).take 8) / 4 * 4 % 65536)
  ∧ (∀ (s : State) (k : Tile) (remote : List Byte), let r := s.ctxRead k remote
    s.domOn k = true → restoreStatus r.1 r.2 ≠ 0 →
    ∃ t, exec (.contextRestore k remote) s = .next t ∧ Effect s t [(V .CTX_STATUS k, restoreStatus r.1 r.2)] [] s.parts)

/-! ### The vector engine (R138 to R171) -/

/-- Element-wise and permuting vector instructions: one that starts leaves the queue, each active element of VD takes its result, and every other element and register keeps its value (R142, R144, R151 to R156). vx.perm
gives zero for an index of VL or above and vx.slide for an element outside the vector (R144).
A stochastic vx.cvt of a floating-point format takes ceil(VL / 2) outputs of its slot: element i rounds by half i mod 2 of output i / 2, and the slot's POS moves on by that many (R155, R232). -/
def Obligations.VectorElements : Prop :=
  (∀ (s : State) (k : Tile) (q : VxQ) (rest : List VxQ), let e := s.vxEnv k q; let x := fun r i => s.vEl k r i e.w
    let done := fun (c : Instr) (w : Nat) (f : Nat → Nat) => ∃ t, exec c s = .next t ∧ t.parts.vq.at k = rest ∧ LanesTake s t e q.vd w f
      ∧ Within s t (ofTile k) (vregBytes k q.vd e.vl w)
    (s.VxGoes k 0x01 q rest → done (.vxBcast k) e.w fun _ => q.base)
    ∧ (s.VxGoes k 0x10 q rest → q.fn = 3 → done (.vxArith k) e.w fun i => (vxArith e.sew 3 (s.vxRM k) (x q.vs1 i) (x q.vs2 i) (x q.vd i)).1)
    ∧ (s.VxGoes k 0x10 q rest → q.fn = 7 → done (.vxArith k) e.w fun i => (vxArith e.sew 7 (s.vxRM k) (x q.vs1 i) 0 0).1)
    ∧ (s.VxGoes k 0x10 q rest → q.fn ≠ 3 → q.fn ≠ 7 → done (.vxArith k) e.w fun i => (vxArith e.sew q.fn (s.vxRM k) (x q.vs1 i) (x q.vs2 i) 0).1)
    ∧ (s.VxGoes k 0x11 q rest → done (.vxLogic k) e.w fun i => vxLogic q.fn e.w (x q.vs1 i) (x q.vs2 i))
    ∧ (s.VxGoes k 0x13 q rest → done (.vxSel k) e.w fun i => if s.v0Bit k i then x q.vs1 i else x q.vs2 i)
    ∧ (s.VxGoes k 0x14 q rest → q.fn % 4 ≠ 2 → done (.vxCvt k) (sewBits (q.vs2 % 16)) fun i =>
        (vxConvert e.sew (q.vs2 % 16) (match q.fn % 4 with | 0 => s.vxRM k | 1 => .ne | _ => .tz) (s.rd .VX_CTL_SAT8 k == 1) (x q.vs1 i)).1)
    ∧ (s.VxGoes k 0x15 q rest → done (.vxWmul k) (2 * e.w) fun i => (vxWiden e.sew (s.vxRM k) (x q.vs1 i) (x q.vs2 i)).1)
    ∧ (s.VxGoes k 0x17 q rest → done (.vxPerm k) e.w fun i => if x q.vs2 i < e.vl then x q.vs1 (x q.vs2 i) else 0)
    ∧ (s.VxGoes k 0x18 q rest → done (.vxSlide k) e.w fun i =>
        let j : Int := i - toSigned 64 q.base
        if 0 ≤ j ∧ j < e.vl then x q.vs1 j.toNat else 0))
  ∧ (∀ (s : State) (k : Tile) (q : VxQ) (rest : List VxQ), let e := s.vxEnv k q
    let sl := s.rd .VX_RNSEL_STREAM k % 4
    let d := (rnDraws k sl (ceilDiv e.vl 2) s).1
    s.VxGoes k 0x14 q rest → q.fn % 4 = 2 → 4 ≤ e.sew → e.sew ≤ 9 → 0 < e.vl → s.rd .RN_SLOT_CTL_STATE k sl = 1 → s.rd .RN_SLOT_CTL_OWNER k sl ≠ 0 →
    s.rnFilling k sl = false →
    ∃ t, exec (.vxCvt k) s = .next t ∧ d.length = ceilDiv e.vl 2
      ∧ t.rd .RN_SLOT_POS_POS k sl = (s.rd .RN_SLOT_POS_POS k sl + ceilDiv e.vl 2) % 2 ^ 64
      ∧ LanesTake s t e q.vd (sewBits (q.vs2 % 16)) (fun i => (vxConvert e.sew (q.vs2 % 16)
          (.stoch (d.getD (i / 2) 0 / 2 ^ (32 * (i % 2)) % 2 ^ 32)) (s.rd .VX_CTL_SAT8 k == 1) (s.vEl k q.vs1 i e.w)).1))

/-- Comparisons, dot products and reductions: a comparison writes one bit for each active element, keeps the bits of the others below VL and clears those from VL on (R144); a dot product writes the lanes of 32 bits below VL / n
(R156); a reduction writes element 0 by the fixed tree (R157).
Long accumulators: xclr clears one, xdot and xsum add each active product or element exactly, and xrd writes the accumulator rounded to FP64 into element 0 (R158, R159). -/
def Obligations.VectorReductions : Prop :=
  (∀ (s : State) (k : Tile) (q : VxQ) (rest : List VxQ), let e := s.vxEnv k q; let x := fun r i => s.vEl k r i e.w
    (s.VxGoes k 0x12 q rest → 0 < e.vl → e.vl ≤ 1024 → ∃ t, exec (.vxCmp k) s = .next t ∧ t.parts.vq.at k = rest
      ∧ (∀ i ∈ e.act, testB (t.num (vreg k q.vd) 1024) i = (vxCompare e.sew q.fn (x q.vs1 i) (x q.vs2 i)).1)
      ∧ (∀ i < e.vl, i ∉ e.act → testB (t.num (vreg k q.vd) 1024) i = testB (s.num (vreg k q.vd) 1024) i)
      ∧ (∀ i, e.vl ≤ i → testB (t.num (vreg k q.vd) 1024) i = false)
      ∧ Within s t (ofTile k) (vregBytes k q.vd 1024 8))
    ∧ (s.VxGoes k 0x16 q rest → e.sew = 0 → ∃ t, exec (.vxDot k) s = .next t ∧ t.parts.vq.at k = rest
      ∧ (∀ i < e.vl / 4, (q.m = false ∨ s.v0Bit k i = true) → t.vEl k q.vd i 32
          = dotInt ((List.range 4).map fun j => (x q.vs1 (4 * i + j), x q.vs2 (4 * i + j))) (s.vEl k q.vd i 32) % 2 ^ 32)
      ∧ Within s t (ofTile k) (vregBytes k q.vd (e.vl / 4) 32))
    ∧ (∀ f, s.VxGoes k 0x16 q rest → sewFmt e.sew = some f → ∃ t, exec (.vxDot k) s = .next t ∧ t.parts.vq.at k = rest
      ∧ (∀ i < e.vl / 2, (q.m = false ∨ s.v0Bit k i = true) → t.vEl k q.vd i 32
          = (dotLane f (s.vxRM k) (x q.vs1 (2 * i)) (x q.vs2 (2 * i)) (x q.vs1 (2 * i + 1)) (x q.vs2 (2 * i + 1)) (s.vEl k q.vd i 32)).1 % 2 ^ 32)
      ∧ Within s t (ofTile k) (vregBytes k q.vd (e.vl / 2) 32))
    ∧ (s.VxGoes k 0x19 q rest → 0 < e.vl → ∃ t, exec (.vxRed k) s = .next t ∧ t.parts.vq.at k = rest
      ∧ t.vEl k q.vd 0 e.w = (reduce e.sew q.fn (s.vxRM k) e.vl fun i => if e.act.contains i then some (x q.vs1 i) else none).1 % 2 ^ e.w
      ∧ Within s t (ofTile k) (vregBytes k q.vd 1 e.w)))
  ∧ (∀ (s : State) (k : Tile) (q : VxQ) (rest : List VxQ), let e := s.vxEnv k q; let x := fun r i => s.vEl k r i e.w
    let takes := fun (t : State) (a : LongAcc) => t.vr .LA k q.lad = ofSigned 4288 a.v
      ∧ t.vr .LA_FLAG k q.lad = (if a.pos then 1 else 0) + (if a.neg then 2 else 0) + (if a.nan then 4 else 0)
      ∧ t.vr .LA_POIS k q.lad = (if a.pois then 1 else 0) ∧ t.vr .LA_COUNT k q.lad = a.count % 2 ^ 64
      ∧ t.parts.vq.at k = rest ∧ Within s t (ofTile k) (fun _ => False)
    (s.VxGoes k 0x20 q rest → 0 < e.vl → ∃ t, exec (.vxXclr k) s = .next t ∧ takes t ⟨0, false, false, false, false, 0⟩)
    ∧ (∀ f, s.VxGoes k 0x21 q rest → (∀ j, s.vr .VX_BAD k j = 0) → sewFmt e.sew = some f → 0 < e.vl → ∃ t, exec (.vxXdot k) s = .next t
      ∧ takes t (e.act.foldl (fun a i => a.add ((f.decode (x q.vs1 i)).mul (f.decode (x q.vs2 i)))
          (s.vPois k q.vs1 i e.w || s.vPois k q.vs2 i e.w)) (s.longAcc k q.lad)))
    ∧ (∀ f, s.VxGoes k 0x22 q rest → (∀ j, s.vr .VX_BAD k j = 0) → sewFmt e.sew = some f → 0 < e.vl → ∃ t, exec (.vxXsum k) s = .next t
      ∧ takes t (e.act.foldl (fun a i => a.add (some (f.decode (x q.vs1 i))) (s.vPois k q.vs1 i e.w)) (s.longAcc k q.lad)))
    ∧ (s.VxGoes k 0x23 q rest → ∃ t, exec (.vxXrd k) s = .next t ∧ t.parts.vq.at k = rest
      ∧ t.vEl k q.vd 0 64 = (s.longAcc k (q.vs1 % 4)).read.1 % 2 ^ 64
      ∧ (q.fn = 1 → t.vEl k q.vd 1 64 = (s.longAcc k (q.vs1 % 4)).readLo.1 % 2 ^ 64)
      ∧ Within s t (ofTile k) (vregBytes k q.vd 2 64)))

/-- Vector loads: contiguous, strided and indexed loads write each active element whose address lies in the store with the bytes read there through the word code, and keep the others; beside the engine's own state only error counts
change (R147 to R150, R291). A tile load writes 64 rows of 256 bytes (R161).
Vector stores: contiguous, strided and indexed stores write the bytes of each active element at its address where no other element's bytes meet it, an indexed one leaves out elements with a poisoned index, and of memory only the 8-byte
words of those addresses can change (R147 to R150, R167, R291). A scatter-add adds into memory (R150), and a tile store writes 64 rows of 256 bytes (R161). -/
def Obligations.VectorMemory : Prop :=
  (∀ (s : State) (k : Tile) (q : VxQ) (rest : List VxQ), let e := s.vxEnv k q; let nb := e.w / 8
    let far := fun (t : State) (P : Nat → Prop) => t.parts.vq.at k = rest ∧ Within s t (fun l => ofTile k l ∨ errorCounts l) P
    (s.VxGoes k 0x02 q rest → ∃ t, exec (.vxLd k) s = .next t ∧ far t (vregBytes k q.vd e.vl e.w)
      ∧ LanesTake s t e q.vd e.w fun i => leNat (((s.readTs k q.base (e.vl * nb)).data.drop (i * nb)).take nb))
    ∧ (∀ c op, (c, op) ∈ [(Instr.vxLds k, 0x04), (.vxGather k, 0x06)] → s.VxGoes k op q rest → ∃ t, exec c s = .next t ∧ far t (vregBytes k q.vd e.vl e.w)
      ∧ (∀ p ∈ e.addrs s, t.vEl k q.vd p.1 e.w = leNat (s.readTs k p.2 nb).data % 2 ^ e.w)
      ∧ (∀ i < e.vl, i ∉ (e.addrs s).map Prod.fst → t.vEl k q.vd i e.w = s.vEl k q.vd i e.w)
      ∧ ((e.addrs s).length < e.act.length → t.rd .VX_STAT_IDX_OOR k = 1))
    ∧ (s.VxGoes k 0x28 q rest → ∃ t, exec (.vxTld k) s = .next t ∧ far t (tregBytes k q.td)
      ∧ ∀ r < 64, ∀ b < 256, t.byte (treg k q.td + 256 * r + b) = (s.readTs k ((q.base + r * q.stride) % 2 ^ 64) 256).data.getD b 0))
  ∧ (∀ (s : State) (k : Tile) (q : VxQ) (rest : List VxQ), let e := s.vxEnv k q; let nb := e.w / 8
    (∀ c op, (c, op) ∈ [(Instr.vxSt k, 0x03), (.vxSts k, 0x05), (.vxScatter k, 0x07)] → s.VxGoes k op q rest → (∀ j, s.vr .VX_BAD k j = 0) → ∃ t, exec c s = .next t
      ∧ t.parts.vq.at k = rest
      ∧ (∀ p ∈ e.addrs s, (op = 0x07 → s.vPois k q.vs1 p.1 32 = false) →
          (∀ p' ∈ e.addrs s, p'.1 ≠ p.1 → p'.2 + nb ≤ p.2 ∨ p.2 + nb ≤ p'.2) →
          ∀ b < nb, t.byte (storeBase k + p.2 + b) = s.byte (vreg k q.vd + p.1 * e.w / 8 + b))
      ∧ Within s t (ofTile k) (fun x => ∃ p ∈ e.addrs s, storeWords k p.2 nb x))
    ∧ (∀ i a, s.VxGoes k 0x08 q rest → (∀ j, s.vr .VX_BAD k j = 0) → e.addrs s = [(i, a)] → s.vPois k q.vs1 i 32 = false → ∃ t, exec (.vxScatadd k) s = .next t
      ∧ t.parts.vq.at k = rest
      ∧ (∀ b < nb, t.byte (storeBase k + a + b)
          = BitVec.ofNat 8 ((vxArith e.sew 0 (s.vxRM k) (leNat (s.readTs k a nb).data) (s.vEl k q.vd i e.w) 0).1 / 256 ^ b))
      ∧ Within s t (fun l => ofTile k l ∨ errorCounts l) (storeWords k a nb))
    ∧ (s.VxGoes k 0x29 q rest → 256 ≤ q.stride → q.base + 64 * q.stride ≤ 2 ^ 24 → q.base % 64 = 0 → q.stride % 64 = 0 → ∃ t, exec (.vxTst k) s = .next t
      ∧ t.parts.vq.at k = rest
      ∧ (∀ r < 64, ∀ b < 256, t.byte (storeBase k + q.base + r * q.stride + b) = s.byte (treg k q.td + 256 * r + b))
      ∧ Within s t (ofTile k) (storeWords k q.base (64 * q.stride))))

/-- Tile registers: broadcast, element-wise and transpose operations write every element of the tile register, a reduction writes one element for each row or column, and trow and tput move one row (R162). -/
def Obligations.TileRegisterResults : Prop :=
  ∀ (s : State) (k : Tile) (q : VxQ) (rest : List VxQ), let e := s.vxEnv k q; let x := fun r i => s.vEl k r i e.w; let y := fun r n => s.tEl k r n e.w
    let tile := fun (c : Instr) (f : Nat → Nat) => ∃ t, exec c s = .next t ∧ t.parts.vq.at k = rest
      ∧ (∀ n < 64 * e.cols, t.tEl k q.td n e.w = f n % 2 ^ e.w) ∧ Within s t (ofTile k) (tregBytes k q.td)
    (s.VxGoes k 0x2A q rest → tile (.vxTbc k) fun n => (vxArith e.sew (tileFn (q.fn % 8)) (s.vxRM k) (y q.td n)
        (x q.vs1 (if testB q.fn 3 then n / e.cols else n % e.cols)) 0).1)
    ∧ (s.VxGoes k 0x2B q rest → tile (.vxTew k) fun n => (vxArith e.sew q.fn (s.vxRM k) (y (q.vs1 % 8) n) (y (q.vs2 % 8) n) (y q.td n)).1)
    ∧ (s.VxGoes k 0x2D q rest → e.w = 32 → tile (.vxTtr k) fun n => y q.td (n % 64 * 64 + n / 64))
    ∧ (s.VxGoes k 0x2C q rest → ∃ t, exec (.vxTred k) s = .next t ∧ t.parts.vq.at k = rest
      ∧ (testB q.fn 2 = false → ∀ r < 64, t.vEl k q.vd r e.w = (reduce e.sew (q.fn % 4) (s.vxRM k) e.cols fun j => some (y (q.vs1 % 8) (r * e.cols + j))).1 % 2 ^ e.w)
      ∧ (testB q.fn 2 = true → ∀ c < e.cols, t.vEl k q.vd c e.w = (reduce e.sew (q.fn % 4) (s.vxRM k) 64 fun j => some (y (q.vs1 % 8) (j * e.cols + c))).1 % 2 ^ e.w)
      ∧ Within s t (ofTile k) (vregBytes k q.vd (if testB q.fn 2 then e.cols else 64) e.w))
    ∧ (s.VxGoes k 0x2E q rest → ∃ t, exec (.vxTrow k) s = .next t ∧ t.parts.vq.at k = rest
      ∧ (∀ i < e.cols, t.vEl k q.vd i e.w = y (q.vs1 % 8) (q.base % 64 * e.cols + i)) ∧ Within s t (ofTile k) (vregBytes k q.vd e.cols e.w))
    ∧ (s.VxGoes k 0x2F q rest → ∃ t, exec (.vxTput k) s = .next t ∧ t.parts.vq.at k = rest
      ∧ (∀ i < e.cols, t.tEl k q.td (q.base % 64 * e.cols + i) e.w = x q.vs1 i) ∧ Within s t (ofTile k) (tregBytes k q.td))

/-- Length, summaries, marks, lends and the engine's registers: setvl and a write of VX_VTYPE clip VL to VLMAX (R141, R171); a summary is reported at st + o + d, and then writes its slot and adds one to its counter (R163); a mark adds one to its
counter and reports the flags since the last mark (R165); a lend holds the engine until its paired solve completes (R166); writes of the engine's registers act only while it is idle with an empty queue (R171). -/
def Obligations.VectorControl : Prop :=
  (∀ (s : State) (k : Tile) (q : VxQ) (rest : List VxQ), let e := s.vxEnv k q
    (s.VxGoes k 0x00 q rest → ∃ t, exec (.vxSetvl k) s = .next t ∧ t.parts.vq.at k = rest ∧ t.rd .VX_VTYPE_SEW k = q.vs1 % 16
      ∧ t.rd .VX_VTYPE_VL k = min q.base (vlMax (q.vs1 % 16)) ∧ (vlMax (q.vs1 % 16) < q.base → t.rd .VX_STAT_VL_CLIP k = 1)
      ∧ Within s t (ofTile k) (fun _ => False))
    ∧ (s.VxGoes k 0x30 q rest → (∀ j, s.vr .VX_BAD k j = 0) → ∃ t d, exec (.vxSumm k) s = .next t ∧ t.parts.vq.at k = rest
      ∧ t.parts.vxDone.at k = s.parts.vxDone.at k ++ [d] ∧ d.counter = q.fn ∧ d.slot = some q.vd ∧ d.done = s.clock + (e.cost s).2.1 + (e.cost s).2.2
      ∧ (d.status, d.val0, d.val1) = (let r := if 5 ≤ q.vs2 % 8 then (s.longAcc k (q.vs1 % 4)).summary (q.vs2 % 8 == 6) else e.summary s; (r.1, r.2.1, r.2.2.1))
      ∧ Within s t (ofTile k) (fun _ => False))
    ∧ (s.VxGoes k 0x31 q rest → ∃ t, exec (.vxMark k) s = .next t ∧ t.parts.vq.at k = rest ∧ t.parts.vxPois.at k = [] ∧ t.vr .VX_MFLAGS k = 0
      ∧ t.rd .TC_CNT_VALUE k q.fn = (s.rd .TC_CNT_VALUE k q.fn + 1) % 2 ^ 32
      ∧ (testB q.vs2 0 = true → t.rd .TC_SUM0_STATUS k q.vd = (if s.vr .VX_MDISC k = 1 then 0x85 else if s.parts.vxPois.at k ≠ [] then 0x40 else 0)
        ∧ t.rd .TC_SUM2_VAL1 k q.vd = s.vr .VX_MFLAGS k % 2 ^ 64)
      ∧ Within s t (ofTile k) (fun _ => False))
    ∧ (s.VxGoes k 0x32 q rest → s.vr .LENDS k + 1 < 2 ^ 64 → ∃ t, exec (.vxLend k) s = .next t ∧ t.parts.vq.at k = rest ∧ t.vr .LENDS k = s.vr .LENDS k + 1
      ∧ (s.vr .SOLVES k < s.vr .LENDS k + 1 → t.rd .VX_STAT_LENT k = 1 ∧ Within s t (ofTile k) (fun _ => False))
      ∧ (s.vr .LENDS k + 1 ≤ s.vr .SOLVES k → t.rd .VX_STAT_LENT k = 0 ∧ (∀ x, vreg k 24 ≤ x → x < vreg k 32 → t.byte x = 0)
        ∧ Within s t (ofTile k) (fun x => vreg k 24 ≤ x ∧ x < vreg k 32))))
  ∧ (∀ (s : State) (k : Tile) (d : VxDone) (slot : Nat), (s.parts.vxDone.at k).find? (fun d => decide (d.done ≤ s.clock)) = some d → d.slot = some slot →
    ∃ t, exec (.vxSummaryComplete k) s = .next t
      ∧ Effect s t (s.sumTakes k slot d.status 7 0 d.val0 d.val1 d.cycles d.spec ++ [(R .TC_CNT_VALUE k d.counter, (s.rd .TC_CNT_VALUE k d.counter + 1) % 2 ^ 32)]) []
          { s.parts with vxDone := s.parts.vxDone.set k ((s.parts.vxDone.at k).erase d) })
  ∧ (∀ (s : State) (k : Tile) (v : W64), s.vxWritable k = true →
    (∃ t, exec (.vxVtypeWrite k v) s = .next t
      ∧ (9 < bitsOf v.toNat 15 12 → Effect s t [] [] s.parts)
      ∧ (bitsOf v.toNat 15 12 ≤ 9 → Effect s t ([(R .VX_VTYPE_SEW k, bitsOf v.toNat 15 12), (R .VX_VTYPE_VL k, min (bitsOf v.toNat 10 0) (vlMax (bitsOf v.toNat 15 12)))]
          ++ if vlMax (bitsOf v.toNat 15 12) < bitsOf v.toNat 10 0 then [(R .VX_STAT_VL_CLIP k, 1)] else []) [] s.parts))
    ∧ (∃ t, exec (.vxFcsrWrite k v) s = .next t ∧ Effect s t [(R .VX_FCSR_RM k, bitsOf v.toNat 1 0), (R .VX_FCSR_FLAGS k, bitsOf v.toNat 6 2)] [] s.parts)
    ∧ (∃ t, exec (.vxRnselWrite k v) s = .next t ∧ Effect s t [(R .VX_RNSEL_STREAM k, bitsOf v.toNat 7 0)] [] s.parts))
  ∧ (∀ (s : State) (k : Tile) (v : W64), s.vxWritable k = false →
    ∀ c ∈ [Instr.vxVtypeWrite k v, .vxFcsrWrite k v, .vxRnselWrite k v], ∃ t, exec c s = .next t ∧ Effect s t [] [] s.parts)

/-! ### The matrix engine (R85 to R137) -/

/-- Products: an MMA or EPI that its checks pass takes the head of the queue and runs, ungated and unheld to its last unit. An ungated MMA of one block and one k-step into a bank leaves in accumulator (i, j) the old value, or 0 where it overwrites, plus the products of row i of A and column j of B, modulo 2^32,
and the bank held (R85 to R88, R93). An epilogue stores each element converted with its bias, scale and activation (R95, R96). An MMF that its checks and limits pass starts with the slice counts of its operands,
and one whose strict operand passes a limit ends with status 0x23 (R116, R129, R134). Each takes the head of the queue and changes only its own engine's registers, its memories and the tile's store. -/
def Obligations.MatrixProducts : Prop :=
  (∀ (s : State) (k : Tile) (d : Desc) (rest : List Desc), s.MatrixHead k d rest → d.mxInvalid = false → s.arrayServes k d = some true → s.mxDue k d = true →
    let starts := fun (t : State) => t.queue k 0 = rest ∧ t.rd .MX_STAT_BUSY k = 1
      ∧ (∃ r, t.parts.mx.at k = s.parts.mx.at k ++ [r] ∧ r.desc = d ∧ r.status = 0 ∧ r.spec = s.mxSpec k d
          ∧ (d.b 365 = false → (s.mxSpec k d && s.mxLeaves k d.mxWrites) = false → r.fin = true))
      ∧ Within s t (fun l => matrixPlaces k l ∨ errorCounts l) (matrixBytes k)
    (d.opc = 1 → ∃ t, exec (.mma k) s = .next t ∧ starts t) ∧ (d.opc = 2 → ∃ t, exec (.epi k) s = .next t ∧ starts t))
  ∧ (∀ (s : State) (k : Tile) (d : Desc) (rest : List Desc), s.MatrixHead k d rest → d.opc = 1 → d.mxInvalid = false → s.arrayServes k d = some true → s.mxDue k d = true →
    d.b 342 = false → d.b 365 = false → d.f 335 320 ≤ d.kc →
    let a := d.f 341 341
    let row := fun i => opdElems (d.f 337 336) (s.readTs k (d.aSpan i 0).1 (d.aSpan i 0).2).data (d.f 335 320)
    let col := fun j => opdElems (d.f 339 338) (s.readTs k (d.bSpan j 0).1 (d.bSpan j 0).2).data (d.f 335 320)
    ∃ t, exec (.mma k) s = .next t ∧ t.queue k 0 = rest ∧ t.rd .MX_STAT_BANK_HELD k = setB (s.rd .MX_STAT_BANK_HELD k) a % 2 ^ Fld.MX_STAT_BANK_HELD.width
      ∧ (∀ i < d.f 303 288, ∀ j < d.f 319 304,
          t.acc k a i j = toSigned 32 (ofSigned 32 ((if d.b 340 then s.acc k a i j else 0) + dotInts (row i) (col j))))
      ∧ Within s t (fun l => matrixPlaces k l ∨ errorCounts l) (fun x => mxBase k ≤ x ∧ x < mxBase k + 0x800000))
  ∧ (∀ (s : State) (k : Tile) (d : Desc) (rest : List Desc), s.MatrixHead k d rest → d.opc = 2 → d.mxInvalid = false → s.arrayServes k d = some true → s.mxDue k d = true →
    (s.mxSpec k d && s.mxLeaves k d.mxWrites) = false →
    let a := d.f 341 341
    let fmt := d.f 346 344
    let at_ := fun i j => d.f 151 128 + i * d.f 279 256 + j * outBytes fmt
    let bias := fun j => if d.b 351 then toSigned 32 (leNat ((s.readTs k (d.f 471 448) (4 * d.f 319 304)).data.drop (4 * j) |>.take 4)) else 0
    let scale := fun j => match d.f 350 349 with
      | 1 => some (d.f 447 416)
      | 2 => some (leNat ((s.readTs k (d.f 439 416) (4 * d.f 319 304)).data.drop (4 * j) |>.take 4))
      | _ => none
    ∃ t, exec (.epi k) s = .next t ∧ t.queue k 0 = rest
      ∧ (∀ i < d.f 303 288, ∀ j < d.f 319 304,
          (∀ i' < d.f 303 288, i < i' → at_ i' (d.f 319 304) ≤ at_ i j ∨ at_ i (j + 1) ≤ at_ i' 0) →
          t.num (storeBase k + at_ i j) (outBytes fmt) = epiElem fmt (d.f 348 347) (d.f 357 352) (scale j) (s.acc k a i j + bias j) % 2 ^ (8 * outBytes fmt))
      ∧ testB (t.rd .MX_STAT_BANK_HELD k) a = false
      ∧ Within s t (fun l => matrixPlaces k l ∨ errorCounts l) (fun x => ∃ i < d.f 303 288, storeWords k (at_ i 0) (d.f 319 304 * outBytes fmt) x))
  ∧ (∀ (s : State) (k : Tile) (d : Desc) (rest : List Desc), s.MatrixHead k d rest → d.opc = 0x10 → mmfCheck k d s = none → s.arrayServes k d = some true → s.mxDue k d = true →
    let a := d.slOp 0
    let b := d.slOp 1
    let sa := (s.operandS k d a).1
    let sb := (s.operandS k d b).1
    let held := s.mmfSpec k d && [a, b].any fun o => o.prep && s.mxLeaves k [(o.img, o.size (if o.role = 0 then sa else sb))]
    let tooMany := (b.prep && d.overLimit b sb) || (a.prep && d.overLimit a sa)
    ∃ t, exec (.mmf k) s = .next t
      ∧ (held = true → Effect s t [(R .MX_STAT_SPEC_HOLD k, 1)] [] s.parts)
      ∧ (held = false → t.queue k 0 = rest ∧ t.rd .MX_STAT_BUSY k = 1
          ∧ ∃ r, t.parts.mx.at k = s.parts.mx.at k ++ [r] ∧ r.desc = d ∧ r.sa = sa ∧ r.sb = sb ∧ r.start = s.clock ∧ r.spec = s.mmfSpec k d
            ∧ (tooMany = true → r.fin = true ∧ r.status = 0x23) ∧ (tooMany = false → r.status = 0 ∧ (d.prepOnly = true → r.fin = true)))
      ∧ (held = false → tooMany = true → t.mem = s.mem)
      ∧ Within s t (fun l => matrixPlaces k l ∨ errorCounts l) (matrixBytes k))

/-- A descriptor that the matrix engine refuses, or that finds its array off, leaves its queue and awaits its completion with status 0x84 or 0x85, in issue order; it reads and writes nothing else
(R98, R106, R133).
Completion and self-test: the oldest matrix descriptor, once finished and due, leaves the engine and reports its status, its multiply-accumulates, poison and stall counts and cycles (R98, R99). A write of START
begins the self-test while the engine is idle, and its end clears both banks and reports the lowest defective column that the spare map does not retire (R110). -/
def Obligations.MatrixQueueAndTest : Prop :=
  (let ends := fun (s t : State) (k : Nat) (d : Desc) (rest : List Desc) (status : Nat) =>
    let c := max s.clock (s.vr .MX_DONE k)
    Effect s t [s.popTakes k 0 rest, (R .MX_STAT_BUSY k, 1)] []
      { s.parts.pops k 0 rest with mx := s.parts.mx.set k (s.parts.mx.at k ++ [{ desc := d, start := c, done := c, fin := true, status := status }]) }
  ∀ (s : State) (k : Tile) (d : Desc) (rest : List Desc), s.MatrixHead k d rest →
    (d.opc = 1 → d.mxInvalid = true → ∃ t, exec (.mma k) s = .next t ∧ ends s t k d rest 0x84)
    ∧ (d.opc = 2 → d.mxInvalid = true → ∃ t, exec (.epi k) s = .next t ∧ ends s t k d rest 0x84)
    ∧ (d.opc = 0x10 → d.mmfInvalid = true → ∃ t, exec (.mmf k) s = .next t ∧ ends s t k d rest 0x84)
    ∧ (d.opc = 1 → d.mxInvalid = false → s.arrayServes k d = some false → ∃ t, exec (.mma k) s = .next t ∧ ends s t k d rest 0x85)
    ∧ (d.opc = 2 → d.mxInvalid = false → s.arrayServes k d = some false → ∃ t, exec (.epi k) s = .next t ∧ ends s t k d rest 0x85)
    ∧ (d.opc = 0x10 → mmfCheck k d s = none → s.arrayServes k d = some false → ∃ t, exec (.mmf k) s = .next t ∧ ends s t k d rest 0x85))
  ∧ (∀ (s : State) (k : Tile) (r : MxRun) (rest : List MxRun), s.parts.mx.at k = r :: rest → r.fin = true → r.done ≤ s.clock → r.desc.opc ≠ 0x10 ∨ r.final ∈ [0x84, 0x85, 0x14, 0x66] →
    let d := r.desc
    let macs := if r.final ∈ [0, 0x22, 0x24, 0x40] ∧ d.opc = 1 then d.f 303 288 * d.f 319 304 * d.f 335 320 else 0
    ∃ t, exec (.matrixCompletion k) s = .next t
      ∧ Effect s t ([(R .MX_STAT_BUSY k, if rest = [] then 0 else 1), (R .MX_STAT_LAST_STATUS k, r.final), (R .MX_STAT_LAST_TAG k, d.f 47 32),
          (R .MX_MAC_CNT_COUNT k, (s.rd .MX_MAC_CNT_COUNT k + macs) % 2 ^ Fld.MX_MAC_CNT_COUNT.width)]
          ++ s.completes k 0 d r.final macs (min r.pg (2 ^ 32 - 1) + min r.stall (2 ^ 32 - 1) * 2 ^ 32) (r.done - r.start) r.spec) []
          { s.parts with mx := s.parts.mx.set k rest })
  ∧ (∀ (s : State) (k : Tile) (r : MxRun) (rest : List MxRun), s.parts.mx.at k = r :: rest → r.fin = true → r.done ≤ s.clock → r.desc.opc = 0x10 → r.final ∈ [0, 0x23, 0x24, 0x40] →
    let d := r.desc
    let ran := r.final ≠ 0x23 ∧ d.prepOnly = false
    ∃ t, exec (.matrixCompletion k) s = .next t ∧ t.parts.mx.at k = rest ∧ t.rd .MX_STAT_LAST_STATUS k = r.final ∧ t.rd .SL_STAT_PHASE k = 0
      ∧ t.rd .TC_CNT_VALUE k (d.f 12 8) = (s.rd .TC_CNT_VALUE k (d.f 12 8) + 1) % 2 ^ 32
      ∧ (ran → t.rd .SL_STAT_LAST_SA k = r.sa % 2 ^ Fld.SL_STAT_LAST_SA.width ∧ t.rd .SL_STAT_LAST_SB k = r.sb % 2 ^ Fld.SL_STAT_LAST_SB.width)
      ∧ (ran → d.b 476 = true → t.bytes (storeBase k + d.f 503 480) 64 = mmfRecord r s.gtc)
      ∧ Within s t (fun l => placesOf k (completionFields ++ [.MX_STAT_BUSY, .MX_STAT_LAST_STATUS, .MX_STAT_LAST_TAG, .MX_MAC_CNT_COUNT, .SL_STAT_PHASE, .SL_MODE_CNT_STRICT, .SL_MODE_CNT_FAST, .SL_EXC_CNT_NONFIN_OUT,
            .SL_EXC_CNT_LIMIT, .SL_STAT_LAST_SA, .SL_STAT_LAST_SB, .SL_STAT_LAST_W64, .SL_STAT_LAST_MS, .SL_STAT_LAST_PAIRS]) [.TS_CHK, .TS_POIS, .CALD_W] l)
          (fun x => ran ∧ d.b 476 = true ∧ storeWords k (d.f 503 480) 64 x))
  ∧ (∀ (s : State) (k : Tile), s.domOn k = true → s.dom (40 + k) = 2 → s.queue k 0 = [] → s.parts.mx.at k = [] → s.vr .BIST_RUN k ≠ 1 →
    ∃ t, exec (.mxBistStart k) s = .next t
      ∧ Effect s t [(R .MX_BIST_RUNNING k, 1), (R .MX_BIST_FAIL k, 0), (R .MX_BIST_FAIL_COL k, 0), (V .BIST_RUN k, 1), (V .BIST_AT k, s.clock + 131072)] [] s.parts)
  ∧ (∀ (s : State) (k : Tile), s.vr .BIST_RUN k = 1 → s.vr .BIST_AT k ≤ s.clock →
    let bad := (List.range 516).filter fun c => s.vr .MX_DEFECT k c == 1 && !(s.retired k).contains c
    ∃ t, exec (.mxBistDone k) s = .next t ∧ t.rd .MX_BIST_RUNNING k = 0 ∧ t.rd .MX_BIST_DONE k = 1
      ∧ (bad = [] → t.rd .MX_BIST_FAIL k = s.rd .MX_BIST_FAIL k) ∧ (∀ c cs, bad = c :: cs → t.rd .MX_BIST_FAIL k = 1 ∧ t.rd .MX_BIST_FAIL_COL k = c)
      ∧ (∀ a < 2, ∀ i < 512, ∀ j < 512, t.acc k a i j = 0) ∧ t.parts = s.parts
      ∧ Within s t (placesOf k [.MX_BIST_RUNNING, .MX_BIST_DONE, .MX_BIST_FAIL, .MX_BIST_FAIL_COL] [.BIST_RUN, .BIST_AT, .MX_BAD, .MX_ROWP, .MX_COLP])
          (fun x => mxBase k ≤ x ∧ x < mxBase k + 0x200000))

/-! ### The solver engine (R172 to R200, R531) -/

/-- Solver descriptors leave their queue as their conditions are met: refused with status 0x84 two cycles on, with 0x85 in the next cycle where the engine is off, else with the cycle count of Table 7.5; SV_UPDATE and SV_FREE change
nothing else yet, SV_LOAD of a structure makes its handle invalid, and SV_SOLVE enters decode for 8 cycles with the iterate and deadline it read, or its end where the deadline is already reached (R172, R175, R177 to R179, R185,
R192, R195, R198).
A solve's phases: in its cycle a decoded solve whose vector engine is lent begins iterate 0, one without its lend waits, and one that decode found unable to run ends with its status (R180, R187). A commit stores the candidate in X in the
caller's order and accepts it, and ends the solve with 0x10 when the deadline cut it (R182, R186). At the deadline a factorisation ends with 0x11, a commit goes on, and any other phase ends with 0x10 (R185, R186). A poisoned solve
ends with 0x40 in place of these (R194). -/
def Obligations.SolverStartsAndPhases : Prop :=
  (let shown := fun (s : State) (k : Nat) (rest : List Desc) => [s.popTakes k 1 rest, (R .SV_STAT_BUSY k, 1), (R .SV_STAT_PHASE k, 1), (R .SV_STAT_SPEC_HOLD k, 0)]
  let run := fun (s : State) (d : Desc) (cycles status val0 : Nat) (spec : Bool) => (⟨d, s.clock, s.clock + cycles, status, val0, 0, spec⟩ : Running)
  let ends := fun (s t : State) (k : Nat) (d : Desc) (rest : List Desc) (cycles status : Nat) =>
    Effect s t (shown s k rest) [] (s.parts.starts k 1 rest (run s d cycles status d.svNone false))
  let free := fun (s : State) (k : Nat) (d : Desc) => (s.svSpec k d && s.svLeaves k d) = false ∧ (s.rd .SV_STAT_SPEC_HOLD k = 1 → s.vr .SPEC_RELEASE k ≤ s.clock)
  (∀ (s : State) (k : Tile) (d : Desc) (rest : List Desc) (on : Bool), s.SolverHead k d rest on →
    (d.opc = 1 → svLoadBad k s d = true → ∃ t, exec (.svLoad k) s = .next t ∧ ends s t k d rest 2 0x84)
    ∧ (d.opc = 2 → svUpdateBad k s d = true → ∃ t, exec (.svUpdate k) s = .next t ∧ ends s t k d rest 2 0x84)
    ∧ (d.opc = 3 → svSolveBad k s d = true → ∃ t, exec (.svSolve k) s = .next t ∧ ends s t k d rest 2 0x84))
  ∧ (∀ (s : State) (k : Tile) (d : Desc) (rest : List Desc), s.SolverHead k d rest false →
    (d.opc = 1 → svLoadBad k s d = false → ∃ t, exec (.svLoad k) s = .next t ∧ ends s t k d rest 1 0x85)
    ∧ (d.opc = 2 → svUpdateBad k s d = false → ∃ t, exec (.svUpdate k) s = .next t ∧ ends s t k d rest 1 0x85)
    ∧ (d.opc = 3 → svSolveBad k s d = false → ∃ t, exec (.svSolve k) s = .next t ∧ ends s t k d rest 1 0x85)
    ∧ (d.opc = 4 → ∃ t, exec (.svFree k) s = .next t ∧ ends s t k d rest 1 0x85))
  ∧ (∀ (s : State) (k : Tile) (d : Desc) (rest : List Desc), s.SolverHead k d rest true →
    (d.opc = 1 → svLoadBad k s d = false → free s k d → d.b 98 = true →
      let m := s.svHead k (s.svBase k d.svHandle)
      ∃ t, exec (.svLoad k) s = .next t
        ∧ Effect s t (shown s k rest) [] (s.parts.starts k 1 rest (run s d (32 + ceilDiv (8 * m.na) 256) 0 0 (s.svSpec k d))))
    ∧ (d.opc = 1 → svLoadBad k s d = false → free s k d → d.b 98 = false →
      let h := d.svHandle
      ∃ t, exec (.svLoad k) s = .next t
        ∧ Effect s t (shown s k rest ++ ([.SV_HSTAT_VALID, .SV_HSTAT_KIND, .SV_HSTAT_FACT, .SV_HSTAT_VPOIS, .SV_HSTAT_N, .SV_HSTAT_NONF, .SV_HBASE_BASE].map fun f => (R f k h, 0))) []
            (s.parts.starts k 1 rest (run s d (s.svHead k (d.f 87 64)).tLoad 0 0 (s.svSpec k d))))
    ∧ (d.opc = 2 → svUpdateBad k s d = false → free s k d → ∃ t, exec (.svUpdate k) s = .next t
        ∧ Effect s t (shown s k rest) [] (s.parts.starts k 1 rest (run s d (16 + ceilDiv (d.f 147 128) 8) 0 0 (s.svSpec k d))))
    ∧ (d.opc = 4 → free s k d → ∃ t, exec (.svFree k) s = .next t
        ∧ Effect s t (shown s k rest) [] (s.parts.starts k 1 rest (run s d 8 0 0 (s.svSpec k d))))
    ∧ (d.opc = 3 → svSolveBad k s d = false →
      let m := s.svImg k (s.svBase k d.svHandle)
      let late := match s.svDeadline d with | some x => !gtcBefore s.gtc x | none => false
      ∃ t r, exec (.svSolve k) s = .next t ∧ t.queue k 1 = rest ∧ t.rd .SV_STAT_BUSY k = 1
        ∧ t.running k 1 = some ⟨d, s.clock, 2 ^ 64, 0, 0, 0, false⟩ ∧ t.parts.sv.find k = some r
        ∧ r.desc = d ∧ r.start = s.clock ∧ r.deadline = s.svDeadline d ∧ r.accepted = 0
        ∧ r.x = m.stored ((s.readTs k (d.f 87 64) (8 * m.n)).words 8 m.n) ∧ r.b = m.stored ((s.readTs k (d.f 119 96) (8 * m.n)).words 8 m.n)
        ∧ (late = false → r.phase = 1 ∧ r.phaseEnd = s.clock + 8 ∧ t.rd .SV_STAT_PHASE k = 1) ∧ (late = true → r.phase = 6 ∧ t.rd .SV_STAT_PHASE k = 6)
        ∧ Within s t (fun l => placesOf k [.TC_QSTAT_OCC, .SV_STAT_BUSY, .SV_STAT_PHASE, .SV_STAT_SPEC_HOLD, .SV_STAT_LEND_WAIT] [] l ∨ errorCounts l) (fun _ => False))))
  ∧ (let status := fun (r : SvRun) (st : Nat) => if r.poison then 0x40 else if st = 0 ∧ r.pivots ≠ 0 then 0x20 else st
  let ended := fun (s t : State) (k : Nat) (r : SvRun) (st c : Nat) =>
    Effect s t [(R .SV_STAT_PHASE k, 6), (R .SV_STAT_LEND_WAIT k, 0), (R .SV_STAT_SPEC_HOLD k, 0)] []
      { s.parts with sv := s.parts.sv.put k (some { r with status := status r st, last := r.phase, phase := 6, phaseEnd := c + 24 }) }
  (∀ (s : State) (k : Tile) (r : SvRun), s.parts.sv.find k = some r → r.phase = 1 → r.phaseEnd ≤ s.clock →
    (r.status ≠ 0 → ∃ t, exec (.solvePhaseEnd k) s = .next t ∧ ended s t k r r.status r.phaseEnd)
    ∧ (r.status = 0 → s.svPast r = false → s.vr .SOLVES k ∉ s.parts.lendsOff.at k → s.rd .VX_STAT_LENT k ≠ 1 → (r.spec && s.svLeaves k r.desc) = false →
      ∃ t, exec (.solvePhaseEnd k) s = .next t ∧ Effect s t [(R .SV_STAT_LEND_WAIT k, 1)] [] s.parts)
    ∧ (r.status = 0 → s.svPast r = false → s.vr .SOLVES k ∉ s.parts.lendsOff.at k → s.rd .VX_STAT_LENT k = 1 → s.vr .LENDS k = s.vr .SOLVES k + 1 →
      (r.spec && s.svLeaves k r.desc) = false → s.rd .SV_STAT_SPEC_HOLD k ≠ 1 →
      ∃ t r', exec (.solvePhaseEnd k) s = .next t ∧ t.rd .SV_STAT_PHASE k = 2 ∧ t.rd .SV_STAT_LEND_WAIT k = 0 ∧ t.parts.sv.find k = some r' ∧ r'.phase = 2 ∧ r'.x = r.x ∧ r.phaseEnd ≤ r'.phaseEnd
        ∧ Within s t (fun l => placesOf k [.SV_STAT_PHASE, .SV_STAT_LEND_WAIT, .SV_STAT_SPEC_HOLD] [.TS_CHK, .TS_POIS, .CALD_W] l ∨ l = V .FREE_CTR)
            (storeWords k (r.desc.f 151 128) (40 * (s.svHead k (s.svBase k r.desc.svHandle)).n))))
  ∧ (∀ (s : State) (k : Tile) (r : SvRun), s.parts.sv.find k = some r → r.phase = 5 → r.phaseEnd ≤ s.clock → s.vr .SV_BUF_BAD k = 0 →
    let m := s.svImg k (s.svBase k r.desc.svHandle)
    let vals := (m.perm.zip r.xc).foldl (fun v p => v.set p.1 p.2) (List.replicate m.n 0)
    ∃ t r', exec (.solvePhaseEnd k) s = .next t ∧ t.parts.sv.find k = some r' ∧ r'.x = r.xc ∧ r'.norm = r.normC ∧ r'.accepted = r.accepted + 1
      ∧ t.bytes (storeBase k + r.desc.f 87 64) (8 * m.n) = vals.flatMap (leBytes 8)
      ∧ (r.cut = true ∨ s.svPast r = true → r'.phase = 6 ∧ r'.status = status r 0x10)
      ∧ Within s t (placesOf k [.SV_STAT_PHASE, .SV_STAT_LEND_WAIT, .SV_STAT_SPEC_HOLD] [.TS_CHK, .TS_POIS, .CALD_W]) (storeWords k (r.desc.f 87 64) (8 * m.n)))
  ∧ (∀ (s : State) (k : Tile) (r : SvRun) (d : Nat), s.parts.sv.find k = some r → r.deadline = some d → gtcBefore s.gtc d = false → r.status = 0 →
    let c := max r.start (s.clock - (s.gtc + 2 ^ 64 - d) % 2 ^ 64)
    (r.phase = 3 → ∃ t, exec (.solveDeadline k) s = .next t ∧ ended s t k r 0x11 c)
    ∧ (r.phase = 5 → ∃ t, exec (.solveDeadline k) s = .next t ∧ Effect s t [] [] { s.parts with sv := s.parts.sv.put k (some { r with cut := true }) })
    ∧ (r.phase ∉ [3, 5, 6] → ∃ t, exec (.solveDeadline k) s = .next t ∧ ended s t k r 0x10 c)))

/-- Solver completions: in its cycle a descriptor leaves the engine and reports; SV_FREE makes its handle invalid, SV_LOAD of a sound, unpoisoned structure makes its handle refer to it, SV_UPDATE stores each record's value in its slot
and reports the records it skipped, and SV_SOLVE reports the norm of its iterate (R174, R175, R188, R191, R192, R195). SV_PIV_THRESH takes a write only while the engine is idle with an empty queue (R200). -/
def Obligations.SolverCompletions : Prop :=
  let closes := fun (s : State) (k : Nat) (q : Running) (status val0 val1 : Nat) =>
    [(V .SV_LAST k, q.done), (R .SV_STAT_BUSY k, 0), (R .SV_STAT_PHASE k, 0), (R .SV_STAT_LAST_STATUS k, status), (R .SV_STAT_LAST_TAG k, q.desc.f 47 32),
      (R .SV_BUSY_CYC_COUNT k, (s.rd .SV_BUSY_CYC_COUNT k + (q.done - q.start)) % 2 ^ Fld.SV_BUSY_CYC_COUNT.width)]
      ++ s.completes k 1 q.desc status val0 val1 (q.done - q.start) q.spec
  let shown := completionFields ++ [.SV_STAT_BUSY, .SV_STAT_PHASE, .SV_STAT_LAST_STATUS, .SV_STAT_LAST_TAG, .SV_BUSY_CYC_COUNT]
  let handle := [Fld.SV_HSTAT_VALID, .SV_HSTAT_KIND, .SV_HSTAT_FACT, .SV_HSTAT_VPOIS, .SV_HSTAT_N, .SV_HSTAT_NONF, .SV_HBASE_BASE]
  (∀ (s : State) (k : Tile) (q : Running), s.running k 1 = some q → s.parts.sv.find k = none → q.done ≤ s.clock → q.desc.opc ≠ 3 → q.status ≠ 0 →
    ∃ t, exec (.solverCompletion k) s = .next t
      ∧ Effect s t (closes s k q q.status q.val0 q.val1) [] { s.parts with running := s.parts.running.put (eKey k 1) none })
  ∧ (∀ (s : State) (k : Tile) (q : Running), s.running k 1 = some q → s.parts.sv.find k = none → q.done ≤ s.clock → q.desc.opc = 4 → q.status = 0 →
    ∃ t, exec (.solverCompletion k) s = .next t
      ∧ Effect s t (closes s k q 0 0 0 ++ handle.map fun f => (R f k q.desc.svHandle, 0)) [] { s.parts with running := s.parts.running.put (eKey k 1) none })
  ∧ (∀ (s : State) (k : Tile) (q : Running), s.running k 1 = some q → s.parts.sv.find k = none → q.done ≤ s.clock → q.desc.opc = 1 → q.status = 0 → q.desc.b 98 = false →
    let a := q.desc.f 87 64
    let h := q.desc.svHandle
    let m := s.svHead k a
    (m.headerOk = true ∧ a + m.bytes ≤ 2 ^ 24) → (s.svImg k a).structureOk = true → (s.readTs k a 64).bad = [] → (∀ j < 6, (s.svSec k a m j).bad = []) →
    ∃ t, exec (.solverCompletion k) s = .next t ∧ t.rd .SV_HSTAT_VALID k h = 1 ∧ t.rd .SV_HBASE_BASE k h = a ∧ t.rd .SV_HSTAT_N k h = m.n ∧ t.rd .SV_HSTAT_KIND k h = m.kind
      ∧ t.rd .SV_STAT_LAST_STATUS k = 0 ∧ t.num (storeBase k + a + 32) 4 = min m.tFact (2 ^ 32 - 1) ∧ t.num (storeBase k + a + 36) 4 = min m.tTri (2 ^ 32 - 1)
      ∧ t.num (storeBase k + a + 48) 4 = min m.bytes (2 ^ 32 - 1) ∧ t.running k 1 = none
      ∧ Within s t (fun l => placesOf k (shown ++ handle) [.SV_LAST, .TS_CHK, .TS_POIS, .CALD_W] l ∨ errorCounts l) (storeWords k (a + 32) 20))
  ∧ (∀ (s : State) (k : Tile) (q : Running), s.running k 1 = some q → s.parts.sv.find k = none → q.done ≤ s.clock → q.desc.opc = 2 → q.status = 0 →
    let a := q.desc.f 87 64
    let n := q.desc.f 147 128
    let h := q.desc.svHandle
    let base := s.svBase k h
    let m := s.svHead k base
    let r := s.readTs k a (16 * n)
    let slot := fun j => leNat ((r.data.drop (16 * j)).take 4)
    let bad := (List.range n).filter fun j => decide (m.na ≤ slot j)
    r.bad = [] →
    ∃ t, exec (.solverCompletion k) s = .next t ∧ t.running k 1 = none
      ∧ t.rd .SV_STAT_LAST_STATUS k = (if bad = [] then 0 else 0x86)
      ∧ (q.desc.b 21 = true → t.rd .TC_SUM1_VAL0 k (q.desc.f 20 16) = bad.length)
      ∧ (∀ j < n, slot j < m.na → (∀ j' < n, j < j' → slot j' ≠ slot j) →
          t.num (storeBase k + base + m.sec 5 + 8 * slot j) 8 = leNat ((r.data.drop (16 * j + 8)).take 8))
      ∧ Within s t (fun l => placesOf k (shown ++ handle) [.SV_LAST, .TS_CHK, .TS_POIS, .CALD_W] l ∨ errorCounts l)
          (fun x => ∃ j < n, storeWords k (base + m.sec 5 + 8 * slot j) 8 x))
  ∧ (∀ (s : State) (k : Tile) (q : Running) (r : SvRun), s.running k 1 = some q → q.desc.opc = 3 → s.parts.sv.find k = some r → r.phase = 6 → r.phaseEnd ≤ s.clock → r.status ≠ 0x14 →
    let d := q.desc
    ∃ t, exec (.solverCompletion k) s = .next t ∧ t.running k 1 = none ∧ t.parts.sv.find k = none ∧ t.rd .SV_STAT_BUSY k = 0 ∧ t.rd .SV_STAT_LAST_STATUS k = r.status % 256
      ∧ t.rd .TC_CNT_VALUE k (d.f 12 8) = (s.rd .TC_CNT_VALUE k (d.f 12 8) + 1) % 2 ^ 32 ∧ t.vr .SOLVES k = (s.vr .SOLVES k + 1) % 2 ^ Var.SOLVES.width
      ∧ (d.b 21 = true → t.rd .TC_SUM1_VAL0 k (d.f 20 16) = (if r.status = 0x40 then 0 else r.norm) % 2 ^ 64)
      ∧ Within s t (fun l => placesOf k (shown ++ [.SV_DL_CNT_ITERATE, .SV_DL_CNT_FACTOR, .SV_ERR_OVF, .VX_STAT_LENT])
            [.SV_LAST, .SOLVES, .TS_CHK, .TS_POIS, .CALD_W, .VX_FLOOR, .VX_LAST, .VX_POIS, .MARK_VX, .LA, .LA_FLAG, .LA_POIS, .LA_COUNT] l ∨ l = V .FREE_CTR)
          (fun x => storeWords k (d.f 151 128) (40 * s.rd .SV_HSTAT_N k d.svHandle) x ∨ storeWords k (d.f 183 160) 64 x ∨ (vreg k 24 ≤ x ∧ x < vreg k 32)))
  ∧ (∀ (s : State) (k : Tile) (v : W64), let idle := s.domOn k = true ∧ s.rd .SV_STAT_BUSY k = 0 ∧ s.queue k 1 = []
    ∃ t, exec (.svPivThreshWrite k v) s = .next t ∧ (idle → Effect s t [(R .SV_PIV_THRESH_TAU k, v.toNat % 2 ^ 32)] [] s.parts) ∧ (¬ idle → t = s))

/-! ### Random streams (R224 to R239) -/

/-- Stream slots: a load or save command on a slot that is free of fills, vx instructions and windows begins at once and takes 2,445 cycles, the slot's owner and counter take the written fields, and a command that may not begin waits (R228, R229). A
transfer's end binds the slot to a sound image's stream, or stores the slot's image; a fill stores its slot's next outputs in order; each counts at its counter (R230, R233, R234). -/
def Obligations.RandomSlots : Prop :=
  let fld := fun (v : W64) => bitsOf v.toNat 7 3
  let own := fun (v : W64) => bitOf v.toNat 2
  let shown := fun (s : State) (k sl : Nat) (busy bound : Bool) =>
    [(R .RN_STAT_BUSY k, if busy then setB (s.rd .RN_STAT_BUSY k) sl else clrB (s.rd .RN_STAT_BUSY k) sl),
     (R .RN_STAT_BOUND k, if bound then setB (s.rd .RN_STAT_BOUND k) sl else clrB (s.rd .RN_STAT_BOUND k) sl)]
  (∀ (s : State) (k : Tile) (sl : Fin 4) (v : W64), s.domOn k = true → s.rnFree k sl = true → s.rd .RN_SLOT_CTL_STATE k sl < 2 →
    ∃ t, exec (.rnSlotLoad k sl v) s = .next t
      ∧ Effect s t ([(R .RN_SLOT_CTL_CNT k sl, fld v), (R .RN_SLOT_CTL_OWNER k sl, own v), (V .RN_POWN k sl, 0), (R .RN_SLOT_CTL_STATE k sl, 2), (V .RN_AT k sl, s.clock + 2445), (V .RN_PCMD k sl, 0)]
          ++ shown s k sl true false) [] s.parts)
  ∧ (∀ (s : State) (k : Tile) (sl : Fin 4) (v : W64), s.domOn k = true → s.rnFree k sl = true → s.rd .RN_SLOT_CTL_STATE k sl = 1 →
    ∃ t, exec (.rnSlotSave k sl v) s = .next t
      ∧ Effect s t ([(R .RN_SLOT_CTL_CNT k sl, fld v), (R .RN_SLOT_CTL_OWNER k sl, own v), (V .RN_POWN k sl, 0), (R .RN_SLOT_CTL_STATE k sl, 3), (V .RN_AT k sl, s.clock + 2445), (V .RN_PCMD k sl, 0)]
          ++ shown s k sl true true) [] s.parts)
  ∧ (∀ (s : State) (k : Tile) (sl : Fin 4) (v : W64), s.domOn k = true → s.rnFree k sl = true → s.rd .RN_SLOT_CTL_STATE k sl < 2 → s.vr .RN_PCMD k sl = 0 →
    ∃ t, exec (.rnOwnerWrite k sl v) s = .next t
      ∧ Effect s t ([(R .RN_SLOT_CTL_CNT k sl, fld v), (R .RN_SLOT_CTL_OWNER k sl, own v), (V .RN_POWN k sl, 0)] ++ shown s k sl false (s.rnBound k sl)) [] s.parts)
  ∧ (∀ (s : State) (k : Tile) (sl : Fin 4) (v : W64), s.domOn k = true → s.rnFree k sl = false ∨ 2 ≤ s.rd .RN_SLOT_CTL_STATE k sl →
    ∀ c ∈ [(Instr.rnSlotLoad k sl v, [(V .RN_PCMD k sl, 1)]), (.rnSlotSave k sl v, [(V .RN_PCMD k sl, 2)]), (.rnOwnerWrite k sl v, [])],
    ∃ t, exec c.1 s = .next t
      ∧ Effect s t ([(R .RN_SLOT_CTL_CNT k sl, fld v), (V .RN_POWN k sl, own v + 1)] ++ c.2 ++ shown s k sl true (s.rnBound k sl || s.rd .RN_SLOT_CTL_STATE k sl == 3)) [] s.parts)
  ∧ (∀ (s : State) (k : Tile) (sl : Fin 4), s.vr .RN_AT k sl ≤ s.clock → s.vr .RN_PCMD k sl = 0 → s.vr .RN_POWN k sl = 0 →
    let a := s.rd .RN_SLOT_ADDR_ADDR k sl
    let r := s.readTs k a (min imageBytes (2 ^ 24 - a))
    let st := rnImageStatus a r
    let counts := fun (t : State) => ∀ c, t.rd .TC_CNT_VALUE k c = if c = s.rd .RN_SLOT_CTL_CNT k sl then (s.rd .TC_CNT_VALUE k c + 1) % 2 ^ 32 else s.rd .TC_CNT_VALUE k c
    (s.rd .RN_SLOT_CTL_STATE k sl = 2 → ∃ t, exec (.rnSlotTransferDone k sl) s = .next t ∧ t.rd .RN_SLOT_CTL_STATE k sl = (if st = 0 then 1 else 0) ∧ t.rd .RN_SLOT_CTL_STATUS k sl = st ∧ counts t
      ∧ (st = 0 → t.rd .RN_SLOT_POS_POS k sl = leNat ((r.data.drop 8).take 8) ∧ ∀ lane < 32, ∀ j < 607, t.rnWord k sl lane j = leNat ((r.data.drop (64 + 8 * (607 * lane + j))).take 8))
      ∧ (st ≠ 0 → ∀ l, ¬ errorCounts l → l ∉ [R .RN_SLOT_CTL_STATUS k sl, R .RN_SLOT_CTL_STATE k sl, R .RN_STAT_BUSY k, R .RN_STAT_BOUND k, R .TC_CNT_VALUE k (s.rd .RN_SLOT_CTL_CNT k sl)] → t.get l = s.get l)
      ∧ Within s t (fun l => placesOf k [.RN_SLOT_CTL_STATUS, .RN_SLOT_CTL_STATE, .RN_SLOT_CTL_POISON, .RN_SLOT_KEY_MODE, .RN_SLOT_KEY_KEY, .RN_SLOT_KEY_JOB, .RN_SLOT_POS_POS, .RN_STAT_BUSY, .RN_STAT_BOUND, .TC_CNT_VALUE]
          [.RN_W, .RN_H] l ∨ errorCounts l) (fun _ => False))
    ∧ (s.rd .RN_SLOT_CTL_STATE k sl = 3 → a + imageBytes ≤ 2 ^ 24 → ∃ t, exec (.rnSlotTransferDone k sl) s = .next t ∧ t.rd .RN_SLOT_CTL_STATE k sl = 1 ∧ t.rd .RN_SLOT_CTL_STATUS k sl = 0 ∧ counts t
      ∧ t.bytes (storeBase k + a) imageBytes = s.rnImage k sl
      ∧ Within s t (placesOf k [.RN_SLOT_CTL_STATE, .RN_SLOT_CTL_STATUS, .RN_STAT_BUSY, .RN_STAT_BOUND, .TC_CNT_VALUE] [.TS_CHK, .TS_POIS, .CALD_W]) (storeWords k a imageBytes)))
  ∧ (∀ (s : State) (k : Tile) (v : W64), s.domOn k = true → testB v.toNat 29 = true →
    let n := bitsOf v.toNat 21 0
    let sl := bitsOf v.toNat 23 22
    let a := s.rd .RN_FILL_ADDR_ADDR k
    (s.rd .RN_FILL_CTL_BUSY k = 1 → ∃ t, exec (.rnFillStart k v) s = .next t ∧ Effect s t [(R .RN_STAT_FILL_REF k, 1)] [] s.parts)
    ∧ (s.rd .RN_FILL_CTL_BUSY k ≠ 1 → n ≠ 0 → n % 8 = 0 → a % 64 = 0 → a + 8 * n ≤ 2 ^ 24 → s.rnBound k sl = true → s.rd .RN_SLOT_CTL_OWNER k sl = 0 →
      ∃ t, exec (.rnFillStart k v) s = .next t
        ∧ Effect s t ([(R .RN_FILL_CTL_COUNT k, n), (R .RN_FILL_CTL_SLOT k, sl), (R .RN_FILL_CTL_CNT k, bitsOf v.toNat 28 24), (R .RN_FILL_CTL_BUSY k, 1), (V .RN_FILL_AT k, s.clock + 8 + n / 8)]
            ++ shown s k sl true true) [] s.parts)
    ∧ (s.rd .RN_FILL_CTL_BUSY k ≠ 1 → n = 0 ∨ n % 8 ≠ 0 ∨ a % 64 ≠ 0 ∨ 2 ^ 24 < a + 8 * n ∨ s.rnBound k sl = false ∨ s.rd .RN_SLOT_CTL_OWNER k sl ≠ 0 →
      ∃ t, exec (.rnFillStart k v) s = .next t ∧ t.rd .RN_STAT_FILL_REF k = 1 ∧ t.rd .RN_FILL_CTL_BUSY k = s.rd .RN_FILL_CTL_BUSY k ∧ t.parts = s.parts
        ∧ Within s t (placesOf k [.RN_FILL_CTL_COUNT, .RN_FILL_CTL_SLOT, .RN_FILL_CTL_CNT, .RN_STAT_FILL_REF, .RN_STAT_BUSY, .RN_STAT_BOUND] []) (fun _ => False)))
  ∧ (∀ (s : State) (k : Tile), s.rd .RN_FILL_CTL_BUSY k = 1 → s.vr .RN_FILL_AT k ≤ s.clock →
    let sl := s.rd .RN_FILL_CTL_SLOT k
    let n := s.rd .RN_FILL_CTL_COUNT k
    let a := s.rd .RN_FILL_ADDR_ADDR k
    n ≠ 0 →
    ∃ t, exec (.rnFillDone k) s = .next t ∧ t.rd .RN_FILL_CTL_BUSY k = 0 ∧ t.bytes (storeBase k + a) (8 * n) = (rnDraws k sl n s).1.flatMap (leBytes 8)
      ∧ t.rd .RN_SLOT_POS_POS k sl = (s.rd .RN_SLOT_POS_POS k sl + n) % 2 ^ 64 ∧ t.parts.rnShadow = s.parts.rnShadow
      ∧ Within s t (placesOf k [.RN_SLOT_POS_POS, .RN_DRAWS_COUNT, .RN_FILL_CTL_BUSY, .TC_CNT_VALUE, .RN_STAT_BUSY, .RN_STAT_BOUND] [.RN_W, .RN_H, .TS_CHK, .TS_POIS, .CALD_W]) (storeWords k a (8 * n)))

/-! ### The DMA engine (R248 to R258) -/

/-- DMA descriptors leave their queue as their conditions are met: refused with status 0x84 and counted, with 0x85 where the engine is off, held where an open window's caldera is their source (R213, R249). One that starts opens its hash chain
with H_FIRST and waits for its first reads (R250, R251). A ZERO of one row of the own store leaves it zero and its end known at once (R248, Table 10.6).
Data moved: eight cycles after its start a COPY of one row inside the own store leaves the delivered bytes of its source at its destination, and a HASH of one row of the own store that opens its chain and hashes CRC32C reports the CRC of
the delivered bytes (R248, R250, R251). In its cycle a descriptor completes and reports (R250, R254). The recorder's registers take writes only while no window is open (R258). -/
def Obligations.DmaTransfers : Prop :=
  (let shown := fun (s : State) (k : Nat) (rest : List Desc) => [s.popTakes k 3 rest, (R .DM_STAT_BUSY k, 1), (R .DM_STAT_SPEC_HOLD k, 0)]
  let run := fun (s : State) (d : Desc) (done status : Nat) => (⟨d, s.clock, done, status, 0, 0, false⟩ : Running)
  let quiet := fun (s : State) (k : Nat) => (s.parts.trkDone.at k).any TrkDone.forDma = false
  (∀ (s : State) (k : Tile) (d : Desc) (rest : List Desc) (on : Bool), s.DmaHead k d rest on →
    ∀ c ∈ [(1, Instr.copy k), (2, .hash k), (3, .zero k)], d.opc = c.1 →
    (s.dmaBad k d = true → ∃ t, exec c.2 s = .next t
      ∧ Effect s t ((R .DM_ERR_REFUSED k, min (s.rd .DM_ERR_REFUSED k + 1) 65535) :: shown s k rest) [] (s.parts.starts k 3 rest (run s d (s.clock + 2) 0x84)))
    ∧ (s.dmaBad k d = false → on = false → ∃ t, exec c.2 s = .next t ∧ Effect s t (shown s k rest) [] (s.parts.starts k 3 rest (run s d (s.clock + 1) 0x85)))
    ∧ (s.dmaBad k d = false → on = true → s.readsCaldera k d (s.dmaReads k d) = true → ∃ t, exec c.2 s = .next t ∧ Effect s t [(R .DM_STAT_SPEC_HOLD k, 1)] [] s.parts)
    ∧ (s.dmaBad k d = false → on = true → s.readsCaldera k d (s.dmaReads k d) = false → (s.rd .DM_STAT_SPEC_HOLD k = 1 → s.vr .SPEC_RELEASE k ≤ s.clock) → quiet s k → d.opc ≠ 3 →
      let opens := d.hashes = true ∧ d.b 354 = true
      ∃ t, exec c.2 s = .next t
        ∧ Effect s t (shown s k rest ++ if opens then [(R .DM_STAT_CHAIN_OPEN k, 1)] else []) []
            { s.parts.starts k 3 rest (run s d (2 ^ 64) 0) with
              dm := s.parts.dm.put k (some { desc := d, start := s.clock })
              chain := if opens then s.parts.chain.put k (some (HashChain.open_ d)) else s.parts.chain }))
  ∧ (∀ (s : State) (k : Tile) (d : Desc) (rest : List Desc) (off : Nat), s.DmaHead k d rest true → d.opc = 3 → s.dmaBad k d = false →
    s.readsCaldera k d (s.dmaReads k d) = false → (s.rd .DM_STAT_SPEC_HOLD k = 1 → s.vr .SPEC_RELEASE k ≤ s.clock) → quiet s k → (s.tracker k).length < 1023 →
    d.f 231 216 = 1 → s.ownOff k (d.f 191 128) (d.f 215 192) = some off → off + d.f 215 192 ≤ 2 ^ 24 → d.b 356 = false → d.b 357 = false →
    ∃ t, exec (.zero k) s = .next t ∧ t.queue k 3 = rest ∧ t.rd .DM_STAT_BUSY k = 1
      ∧ t.running k 3 = some (run s d (s.clock + 9 + ceilDiv (d.f 215 192) (s.dmaLimit k d)) 0)
      ∧ (∀ i < d.f 215 192, t.byte (storeBase k + off + i) = 0)
      ∧ Within s t (placesOf k [.TC_QSTAT_OCC, .DM_STAT_BUSY, .DM_STAT_SPEC_HOLD, .DM_BYTES_COUNT, .DM_ERR_POISONED] [.TS_CHK, .TS_POIS, .CALD_W]) (storeWords k off (d.f 215 192))))
  ∧ (let goes := fun (s : State) (k : Nat) (q : Running) (r : DmaRun) => s.domOn k = true ∧ s.running k 3 = some q ∧ q.done = 2 ^ 64 ∧ q.desc = r.desc ∧ s.parts.dm.find k = some r
    ∧ r = { desc := r.desc, start := r.start } ∧ r.start + 8 ≤ s.clock ∧ (s.parts.trkDone.at k).any TrkDone.forDma = false ∧ (s.tracker k).length < 1023
    ∧ r.desc.f 231 216 = 1 ∧ r.desc.b 356 = false ∧ r.desc.b 357 = false
  (∀ (s : State) (k : Tile) (q : Running) (r : DmaRun) (a b : Nat), goes s k q r → r.desc.opc = 1 → s.dmaBad k r.desc = false → r.desc.hashes = false →
    let n := r.desc.f 215 192
    s.ownOff k (r.desc.f 127 64) n = some a → a + n ≤ 2 ^ 24 → s.ownOff k (r.desc.f 191 128) n = some b → b + n ≤ 2 ^ 24 →
    ∃ t, exec (.copy k) s = .next t ∧ t.bytes (storeBase k + b) n = (s.readTs k a n).data ∧ t.parts.dm.find k = none
      ∧ (∃ q', t.running k 3 = some q' ∧ q'.desc = q.desc ∧ q'.start = q.start ∧ q'.status = (if (s.readTs k a n).bad = [] then 0 else 0x40) 
          ∧ q'.done = max (s.clock + 1) (r.start + 9 + ceilDiv n (s.dmaLimit k r.desc)))
      ∧ Within s t (fun l => placesOf k [.DM_BYTES_COUNT, .DM_ERR_POISONED] [.TS_CHK, .TS_POIS, .CALD_W] l ∨ errorCounts l) (storeWords k b n))
  ∧ (∀ (s : State) (k : Tile) (q : Running) (r : DmaRun) (a : Nat), goes s k q r → r.desc.opc = 2 → s.dmaBad k r.desc = false →
    r.desc.b 352 = true → r.desc.b 353 = false → r.desc.closes = false → s.parts.chain.find k = some (HashChain.open_ r.desc) →
    let n := r.desc.f 215 192
    s.ownOff k (r.desc.f 127 64) n = some a → a + n ≤ 2 ^ 24 →
    ∃ t q', exec (.hash k) s = .next t ∧ t.running k 3 = some q' ∧ q'.val0 = crc32c (s.readTs k a n).data ∧ q'.status = (if (s.readTs k a n).bad = [] then 0 else 0x40)
      ∧ (∃ c, t.parts.chain.find k = some c ∧ c.n = n)
      ∧ Within s t (fun l => l = R .DM_STAT_CHAIN_OPEN k ∨ errorCounts l) (fun _ => False))
  ∧ (∀ (s : State) (k : Tile) (q : Running), s.running k 3 = some q → s.parts.dm.find k = none → q.done ≤ s.clock →
    ∃ t, exec (.dmaCompletion k) s = .next t
      ∧ Effect s t ([(V .ENG_LAST k 3, q.done), (R .DM_STAT_BUSY k, 0), (R .DM_STAT_LAST_STATUS k, q.status), (R .DM_STAT_LAST_TAG k, q.desc.f 47 32)]
          ++ s.completes k 3 q.desc q.status q.val0 q.val1 (q.done - q.start) false) [] { s.parts with running := s.parts.running.put (eKey k 3) none })
  ∧ (∀ (s : State) (k : Tile) (v : W64), let x := v.toNat
    (s.domOn k = true → s.window k = false →
      (∃ t, exec (.dmRecWrite k false v) s = .next t ∧ Effect s t [(R .DM_REC_ADDR_ADDR k, x % 2 ^ 24)] [] s.parts)
      ∧ ∃ t, exec (.dmRecWrite k true v) s = .next t
        ∧ Effect s t ([(R .DM_REC_CTL_EN k, bitOf x 0), (R .DM_REC_CTL_MASK k, bitsOf x 7 1), (R .DM_REC_CTL_LIMIT k, bitsOf x 31 16), (R .DM_REC_CTL_COUNT k, bitsOf x 47 32)]
            ++ if testB x 8 then [(R .DM_REC_CTL_FULL k, 0)] else []) [] s.parts)
    ∧ (s.domOn k = false ∨ s.window k = true → ∀ ctl, exec (.dmRecWrite k ctl v) s = .next s)))

/-! ### Forecast speculation (R201 to R222) -/

/-- Windows open and wait: an FS_OPEN issued while the unit is ON with no window and none queued opens its window and keeps the generator's state (R206, R235); otherwise it waits with the status it will report. At its turn it starts, is refused two
cycles on, or waits for its halo; the halo's arrival before its limit begins the compare (R207, R208). FS_CALDERA takes a write whole or not at all (R201).
Windows resolve: a compare that ends confirms when every granule matches, or lies within bound, and none is poisoned, and squashes otherwise; a halo that misses its limit and a forced squash squash with their own statuses (Table 8.2, R208,
R212, R217 to R219). A confirm clears the marks, keeps every value and counts; the FS_OPEN completes with its status. -/
def Obligations.ForecastSpeculation : Prop :=
  (∀ (s : State) (k : Tile) (form : IssueForm) (raw : Nat),
    (match form with
      | .pair j => raw = s.sv k (2 * j) + s.sv k (2 * j + 1) * 2 ^ 256
      | .mem r => s.gp k r % 64 = 0 ∧ s.gp k r + 64 ≤ 65536 ∧ s.dmemBad k (s.gp k r) 64 = none ∧ raw = s.num (dmemBase k + s.gp k r) 64) →
    s.CoreReady k (issueRegs form) → s.anyMarked k (issueRegs form) = false → opcDefined 6 (raw % 256) = true → (s.queue k 6).length < 16 → s.rd .DM_REC_CTL_EN k = 0 →
    ∃ t, exec (.fsOpen k form) s = .next t
      ∧ t.queue k 6 = s.queue k 6 ++ [⟨raw, s.vr .ISSUE_SEQ k, s.clock, s.window k, false, fsOpenNote s k⟩] ∧ t.pc k = (s.pc k + 4) % 65536
      ∧ (fsOpenNote s k = 0 → t.rd .FS_STAT_WIN k = 1 ∧ t.rd .FS_FENCE_WRITTEN k = 0 ∧ (∀ g, t.vr .CALD_W k g = 0)
          ∧ t.parts.rnShadow.find k = some (s.file.filter fun e => rnPlace k e.1))
      ∧ (fsOpenNote s k ≠ 0 → t.rd .FS_STAT_WIN k = s.rd .FS_STAT_WIN k ∧ t.parts.rnShadow = s.parts.rnShadow)
      ∧ Within s t (placesOf k [.TC_QSTAT_OCC, .TC_STAT_RUNNING, .FS_STAT_WIN, .FS_FENCE_WRITTEN] [.ISSUE_SEQ, .PC, .STALLED, .SPEC_STALL, .STEPPING, .REC_COUNT0, .CALD_W]) (fun _ => False))
  ∧ (∀ (s : State) (k : Tile) (d : Desc) (rest : List Desc), s.domOn k = true → s.running k 6 = none → s.queue k 6 = d :: rest → s.ready k d = true → s.vr .ENG_LAST k 6 < s.clock →
    s.earlierOpen k d.seq = false → s.vxBefore k d = true →
    let starts := fun (t : State) (done status : Nat) => Effect s t [s.popTakes k 6 rest] [] (s.parts.starts k 6 rest ⟨d, s.clock, done, status, 0, 0, false⟩)
    (d.note = 0x85 → ∃ t, exec (.fsOpenStart k) s = .next t ∧ starts t (s.clock + 1) 0x85)
    ∧ (d.note ≠ 0 → d.note ≠ 0x85 → ∃ t, exec (.fsOpenStart k) s = .next t ∧ starts t s.clock d.note)
    ∧ (d.note = 0 → 2 ≤ s.rd .FS_STAT_FSTATE k → s.fsBad k d = true → ∃ t, exec (.fsOpenStart k) s = .next t ∧ starts t (s.clock + 2) 0x84)
    ∧ (d.note = 0 → 2 ≤ s.rd .FS_STAT_FSTATE k → s.fsBad k d = false → s.arrived k d = false → ∃ t, exec (.fsOpenStart k) s = .next t ∧ starts t (2 ^ 64) 0)
    ∧ (d.note = 0 → 2 ≤ s.rd .FS_STAT_FSTATE k → s.fsBad k d = false → s.arrived k d = true → ∃ t, exec (.fsOpenStart k) s = .next t
        ∧ Effect s t [s.popTakes k 6 rest, (R .FS_STAT_WIN k, 2), (V .CMP_AT k, s.clock + 1)] []
            { s.parts.starts k 6 rest ⟨d, s.clock, 2 ^ 64, 0, 0, 0, false⟩ with cmpSnap := s.parts.cmpSnap.set k [] }))
  ∧ (∀ (s : State) (k : Tile) (r : Running), s.running k 6 = some r → r.status = 0 → s.rd .FS_STAT_WIN k = 1 → s.arrived k r.desc = true → s.waitOver r.desc = false →
    ∃ t, exec (.haloArrival k) s = .next t
      ∧ Effect s t [(R .FS_STAT_WIN k, 2), (V .CMP_AT k, max (s.clock + 1) (r.start + 1))] [] { s.parts with cmpSnap := s.parts.cmpSnap.set k [] })
  ∧ (∀ (s : State) (k : Tile) (v : W64), s.domOn k = true → let base := bitsOf v.toNat 7 0
    let size := bitsOf v.toNat 15 8
    let free := s.window k = false ∧ s.queue k 6 = [] ∧ s.running k 6 = none ∧ size ≤ 128 ∧ base + size ≤ 256
    ∃ t, exec (.fsCalderaWrite k v) s = .next t
      ∧ (free → Effect s t [(R .FS_CALDERA_BASE k, base), (R .FS_CALDERA_SIZE k, size)] [] s.parts) ∧ (¬ free → Effect s t [(R .FS_STAT_CFG_IGN k, 1)] [] s.parts))
  ∧ (let reports := fun (s t : State) (k : Nat) (r : Running) (status : Nat) => t.running k 6 = none ∧ t.rd .FS_STAT_LAST_STATUS k = status ∧ t.rd .FS_STAT_LAST_TAG k = r.desc.f 47 32
    ∧ t.rd .TC_CNT_VALUE k (r.desc.f 12 8) = (s.rd .TC_CNT_VALUE k (r.desc.f 12 8) + 1) % 2 ^ 32
    ∧ (r.desc.b 21 = true → t.rd .TC_SUM0_STATUS k (r.desc.f 20 16) = status)
  (∀ (s : State) (k : Tile) (r : Running), s.running k 6 = some r → r.status = 0 → s.rd .FS_STAT_WIN k = 2 → s.cmpEnd k r.desc ≤ s.clock → s.NoneDue k → s.ShadowOwn k →
    let d := r.desc
    let fields := if d.b 197 then s.fsFields k d else []
    let cs := (List.range (d.f 183 160 / 64)).map (s.cmpGranule k d fields)
    let bad := cs.any fun c => c.poison || c.mis
    let st := if cs.any (·.poison) then 0x40 else if cs.any (·.mis) then 0x14 else if d.b 197 ∧ (cs.any (·.differs)) then 0x01 else 0
    ∃ t, exec (.compareEnd k) s = .next t ∧ reports s t k r st ∧ t.rd .FS_MISMATCH_COUNT k = (cs.foldl (fun a c => a + c.n) 0) % 2 ^ 32
      ∧ (bad = true → s.Squashed t k d.resume ∧ t.rd .FS_RES_SQUASH k = min (s.rd .FS_RES_SQUASH k + 1) (2 ^ 32 - 1))
      ∧ (bad = false → t.rd .FS_STAT_WIN k = 0 ∧ t.rd .FS_RES_CONFIRM k = min (s.rd .FS_RES_CONFIRM k + 1) (2 ^ 32 - 1) ∧ testB (t.rd .TC_IPEND_SRC k) 6 = true
          ∧ (∀ x, t.vr .MARK_GP k x = 0 ∧ t.vr .MARK_SV k x = 0 ∧ t.vr .MARK_VX k x = 0 ∧ t.rd .TC_SUM0_SPEC k x = 0) ∧ t.parts.rnShadow.find k = none
          ∧ Within s t (fun l => placesOf k (completionFields ++ [.FS_MISMATCH_OFFSET, .FS_MISMATCH_COUNT, .FS_FENCE_WRITTEN, .FS_STAT_WIN, .FS_RES_CONFIRM, .FS_STAT_LAST_STATUS, .FS_STAT_LAST_TAG, .MX_STAT_BANK_SPEC])
                [.MARK_GP, .MARK_SV, .MARK_VX, .EXC_MARK, .CALD_W, .SPEC_RELEASE, .ENG_LAST, .TS_CHK, .TS_POIS] l ∨ errorCounts l)
              (fun x => ∃ e ∈ s.parts.recBuf.at k, storeWords k e.1 64 x)))
  ∧ (∀ (s : State) (k : Tile) (r : Running), s.running k 6 = some r → r.status = 0 → s.rd .FS_STAT_WIN k = 1 → s.waitOver r.desc = true → s.NoneDue k → s.ShadowOwn k →
    ∃ t, exec (.haloLate k) s = .next t ∧ reports s t k r 0x15 ∧ s.Squashed t k r.desc.resume ∧ t.rd .FS_RES_SQUASH k = min (s.rd .FS_RES_SQUASH k + 1) (2 ^ 32 - 1))
  ∧ (∀ (s : State) (k : Tile) (r : Running), s.domOn k = true → s.window k = true → s.running k 6 = some r → r.status = 0 → (s.rd .FS_STAT_WIN k = 2 → s.clock < s.cmpEnd k r.desc) →
    (s.rd .FS_STAT_WIN k = 1 → s.waitOver r.desc = false) → s.NoneDue k → s.ShadowOwn k →
    ∃ t, exec (.forceSquash k) s = .next t ∧ reports s t k r 0x16 ∧ s.Squashed t k r.desc.resume ∧ t.rd .FS_RES_SQUASH k = min (s.rd .FS_RES_SQUASH k + 1) (2 ^ 32 - 1))
  ∧ (∀ (s : State) (k : Tile) (r : Running), s.domOn k = true → s.running k 6 = some r → r.done ≤ s.clock →
    (r.status = 0x84 → r.desc.note = 0 → s.NoneDue k → s.ShadowOwn k →
      ∃ t, exec (.fsOpenStart k) s = .next t ∧ reports s t k r 0x84 ∧ s.Squashed t k r.desc.resume ∧ t.rd .FS_RES_SQUASH k = s.rd .FS_RES_SQUASH k)
    ∧ (r.status < 256 → ¬ (r.status = 0x84 ∧ r.desc.note = 0) → ∃ t, exec (.fsOpenStart k) s = .next t ∧ reports s t k r r.status
        ∧ Within s t (placesOf k (completionFields ++ [.FS_STAT_LAST_STATUS, .FS_STAT_LAST_TAG]) [.ENG_LAST]) (fun _ => False)))
  ∧ (∀ (s : State) (k : Tile) (d : Desc), s.domOn k = true → s.window k = true → s.running k 6 = none → (s.queue k 6).find? (fun d => d.note == 0) = some d → s.NoneDue k → s.ShadowOwn k →
    ∃ t, exec (.forceSquash k) s = .next t ∧ s.Squashed t k d.resume ∧ (∀ x ∈ t.queue k 6, x.seq = d.seq → x.note = 0x16)))

/-! ### Check-value units (R501 to R508) -/

/-- Check-value units: a descriptor arms its unit, is refused with 0x84, or completes once refused (R501, R505). Each record is decided against its CRC and sequence value; a mismatch is counted, and the first one raises its interrupt and is
logged (R503, R504). Its deadline and DISARM end it with what it found (R505, R506). -/
def Obligations.CheckValueUnits : Prop :=
  let serves := fun (s : State) (k u : Nat) (d : Desc) => funcServes (s.rd .CV_STAT_FSTATE k u) (s.rd .CV_STAT_PEND_EN k u) (s.vr .FUNC_DIS_AT k (5 + u)) d.issued
  (∀ (s : State) (k : Tile) (u : Fin 2) (d : Desc) (rest : List Desc) (on : Bool), s.EngineHead k (4 + u.val) d rest (s.vr .ENG_LAST k (4 + u.val)) (serves s k u d) on → s.cvOf k u = none →
    (s.cvBad d = true → ∃ t, exec (.cvArm k u) s = .next t ∧ Effect s t [s.popTakes k (4 + u.val) rest] [] (s.parts.starts k (4 + u.val) rest ⟨d, s.clock, s.clock + 2, 0x84, 0, 0, false⟩))
    ∧ (s.cvBad d = false → on = false → ∃ t, exec (.cvArm k u) s = .next t ∧ Effect s t [s.popTakes k (4 + u.val) rest] [] (s.parts.starts k (4 + u.val) rest ⟨d, s.clock, s.clock + 1, 0x85, 0, 0, false⟩))
    ∧ (s.cvBad d = false → on = true → s.readsCaldera k d d.cvReads = true → ∃ t, exec (.cvArm k u) s = .next t ∧ Effect s t [(R .CV_STAT_SPEC_HOLD k u, 1)] [] s.parts)
    ∧ (s.cvBad d = false → on = true → s.readsCaldera k d d.cvReads = false → (s.rd .CV_STAT_SPEC_HOLD k u = 1 → s.vr .SPEC_RELEASE k ≤ s.clock) →
      ∃ t, exec (.cvArm k u) s = .next t
        ∧ Effect s t [s.popTakes k (4 + u.val) rest, (R .CV_STAT_ARMED k u, 1), (R .CV_STAT_SPEC_HOLD k u, 0), (R .CV_STAT_RECORD k u, 0)] []
            { s.parts.pops k (4 + u.val) rest with cv := s.parts.cv.put (2 * k.val + u.val) (some { desc := d, start := s.clock, recs := [], buf := [], bufBad := false, chain := 0xFFFFFFFF
                                                                                                    alive0 := if d.f 70 69 = 2 then (s.rd .CV_ALIVE_LAST k u + 1) % 2 ^ 32 else d.f 263 232
                                                                                                    decided := 0, crcMis := 0, aliveMis := 0, anyMis := 0, first := none, poisoned := 0 }) }))
  ∧ (∀ (s : State) (k : Tile) (u : Fin 2) (r : Running), s.domOn k = true → s.running k (4 + u.val) = some r → r.done ≤ s.clock →
    ∃ t, exec (.cvArm k u) s = .next t
      ∧ Effect s t ([(V .ENG_LAST k (4 + u.val), s.clock), (R .CV_STAT_LAST_STATUS k u, r.status), (R .CV_STAT_LAST_TAG k u, r.desc.f 47 32)]
          ++ s.completes k (4 + u.val) r.desc r.status r.val0 r.val1 (s.clock - r.start) r.spec) [] { s.parts with running := s.parts.running.put (eKey k (4 + u.val)) none })
  ∧ (∀ (s : State) (k : Tile) (u : Fin 2) (a : CvArm) (bs : List Byte) (bad : Bool) (due : Nat) (rest : List (List Byte × Bool × Nat)), s.cvOf k u = some a → a.recs = (bs, bad, due) :: rest →
    due ≤ s.clock → s.cvLate a.desc = false → a.desc.f 68 67 = 0 → a.decided + 1 ≠ a.desc.f 295 264 →
    let alive := a.desc.f 70 69 ≠ 0
    let val := leNat ((bs.drop (a.desc.f 175 152)).take 4)
    let crcBad := !bad && crc32c (bs.take (bs.length - 4)) != leNat (bs.drop (bs.length - 4))
    let aliveBad := !bad && decide alive && val != (a.alive0 + a.decided) % 2 ^ 32
    ∃ t a', exec (.cvRecordDecision k u) s = .next t ∧ t.cvOf k u = some a' ∧ a'.recs = rest ∧ a'.decided = a.decided + 1
      ∧ a'.crcMis = a.crcMis + (if crcBad then 1 else 0) ∧ a'.aliveMis = a.aliveMis + (if aliveBad then 1 else 0) ∧ a'.anyMis = a.anyMis + (if crcBad || aliveBad then 1 else 0)
      ∧ a'.poisoned = min (a.poisoned + (if bad then 1 else 0)) 65535
      ∧ t.rd .CV_CNT_RECORDS k u = min (s.rd .CV_CNT_RECORDS k u + 1) (2 ^ Fld.CV_CNT_RECORDS.width - 1)
      ∧ (bad = false → alive → t.rd .CV_ALIVE_LAST k u = val)
      ∧ ((crcBad || aliveBad) = true → a.anyMis = 0 → a'.first = a.first.or (some a.decided) ∧ (a.desc.b 71 = true → testB (t.rd .TC_IPEND_SRC k) 3 = true))
      ∧ Within s t (fun l => placesOf k [.CV_CNT_RECORDS, .CV_CNT_POISON, .CV_CNT_MISMATCH, .CV_STAT_RECORD, .CV_ALIVE_LAST, .TC_IPEND_SRC] [] l ∨ rindPlaces l) (fun _ => False))
  ∧ (∀ (s : State) (k : Tile) (u : Fin 2) (a : CvArm), s.cvOf k u = some a → a.desc.f 68 67 ≠ 2 → a.anyMis = 0 →
    let status := if a.poisoned ≠ 0 then 0x40 else 0
    let ends := fun (t : State) (how : Nat) =>
      Effect s t ([(R .CV_STAT_ARMED k u, 0), (V .ENG_LAST k (4 + u.val), s.clock), (R .CV_STAT_LAST_STATUS k u, status), (R .CV_STAT_LAST_TAG k u, a.desc.f 47 32)]
        ++ s.completes k (4 + u.val) a.desc status a.val0 (a.val1 how) (s.clock - a.start) false) [] { s.parts with cv := s.parts.cv.put (2 * k.val + u.val) none }
    (s.cvLate a.desc = true → ∃ t, exec (.cvDeadline k u) s = .next t ∧ ends t 1)
    ∧ (s.domOn k = true → ∃ t, exec (.cvDisarm k u) s = .next t ∧ ends t 2))

/-! ### Stack memory (R259 to R284) -/

/-- Requests to a stack: one that finds its interface serving and its queue free is admitted with its cycle, one that finds it full or still starting is held, and one to an interface that is off is answered with 0x60 (R263, R266, R281). A refresh
window in force delays a tile's first request (R273).
Refresh windows and temperature: a window opens at its multiple of tREFI and counts on every stack that is ON; a sample of a stack raises the package's band at once, with its refresh interval and throttle on every stack, and asserts the thermal trip
at TRIP; the band falls at a tick once every stack is below the threshold by its hysteresis (R273, R275, R278, R279). LS_CTL takes a TRIP of 95 to 110 alone (R279). -/
def Obligations.StackAdmissionAndHeat : Prop :=
  (∀ (s : State) (source : Fin 44) (write long : Bool) (addr : BitVec 40) (len : Fin 33) (data : List Byte) (poison : BitVec 2),
    let a := if long then addr.toNat / 128 * 128 else addr.toNat
    let n := if long then 128 else min len.val (32 - addr.toNat % 32)
    let c := chanOf a
    let r : StackReq := ⟨source, write, a, n, if write then (data ++ List.replicate n 0).take n else [], if write then poison.toNat % 4 else 0, s.clock, false, none⟩
    let queued := { s.parts with chanQ := s.parts.chanQ.set c (s.chan c ++ [r]) }
    n ≠ 0 → a < stackTop →
    ∃ t, exec (.stackRequest source write long addr len data poison) s = .next t
      ∧ (s.stackAvail (c % 20) = .off → Effect s t [] [] { s.parts with stackAns := s.parts.stackAns.set source (s.parts.stackAns.at source ++ [⟨a, 0x60, [], 0⟩]) })
      ∧ (s.stackAvail (c % 20) = .waits ∨ (s.stackAvail (c % 20) = .served ∧ s.queueFull c write = true) → Effect s t [] [] { s.parts with stackHeld := s.parts.stackHeld ++ [r] })
      ∧ (s.stackAvail (c % 20) = .served → s.queueFull c write = false → s.inWindow = false ∨ s.hasQueued source = true ∨ 40 ≤ source.val →
          Effect s t [(V .RR_SRC (c % 20) (rrIdx c write), (source.val + 1) % 44)] [] queued)
      ∧ (s.stackAvail (c % 20) = .served → s.queueFull c write = false → s.inWindow = true → s.hasQueued source = false → source.val < 40 →
          let v := s.vr .TILE_REF source + s.windowLeft
          Effect s t [(V .TILE_REF source, v), (V .FR_REF_STALL, max v (s.vr .FR_REF_STALL)), (V .RR_SRC (c % 20) (rrIdx c write), (source.val + 1) % 44)] [] queued))
  ∧ (let banded := fun (t : State) (b : Nat) => ∀ c < 20, t.rd .LS_STAT_PBAND c = b ∧ t.rd .LS_REF_TREFI c = tREFI b ∧ t.rd .LS_STAT_THROTTLE c = (if b = 3 then 1 else 0)
  let bandPlaces : Loc → Prop := fun l => l = V .FR_TBAND ∨ ∃ c, l = R .LS_STAT_PBAND c ∨ l = R .LS_REF_TREFI c ∨ l = R .LS_STAT_THROTTLE c
  (∀ s : State, (s.windowDue = false → exec .refreshWindow s = .next s)
    ∧ (s.windowDue = true → ∃ t, exec .refreshWindow s = .next t ∧ t.vr .WIN_AT = (s.gtc + 1) % 2 ^ Var.WIN_AT.width
      ∧ (∀ c < 20, s.domOn (80 + c) = true → t.rd .LS_REF_WINDOWS c = min (s.rd .LS_REF_WINDOWS c + 1) (2 ^ Fld.LS_REF_WINDOWS.width - 1))
      ∧ (∀ c < 20, s.domOn (80 + c) = false → t.rd .LS_REF_WINDOWS c = s.rd .LS_REF_WINDOWS c)
      ∧ Within s t (fun l => errorCounts l ∨ l = V .WIN_AT ∨ l = V .FR_REF_STALL ∨ l = V .SCRUB_DUE ∨ ∃ c, l = R .LS_REF_WINDOWS c ∨ l = V .TILE_REF c ∨ l = V .STK_CHK c)
          (fun x => ∃ a ∈ s.parts.scrubWB, a / 16 * 16 ≤ x ∧ x < a / 16 * 16 + 128)))
  ∧ (∀ (s : State) (c : CDie) (temp : BitVec 16), let v := toSigned 16 temp.toNat
    let b := bandOf v
    s.domOn (80 + c) = true → (s.vr .TEMP_AT c ≠ 0 → s.vr .TEMP_AT c + 16384 ≤ s.clock + 1) →
    ∃ t, exec (.stackTempSample c temp) s = .next t ∧ t.rd .LS_TEMP_CUR c = temp.toNat ∧ t.rd .LS_STAT_BAND c = b
      ∧ (s.band < b → s.rd .LS_STAT_BAND c < b → banded t b) ∧ (b ≤ s.band → ∀ x, t.rd .LS_STAT_PBAND x = s.rd .LS_STAT_PBAND x)
      ∧ ((s.clock + 1) % 2 ^ Var.TEMP_AT.width ≠ 0 → 16 * (s.rd .LS_CTL_TRIP c : Int) ≤ v → t.rd .LS_STAT_TRIPPED c = 1 ∧ t.vr .STACK_TRIP c = 1)
      ∧ (v < 16 * (s.rd .LS_CTL_TRIP c : Int) → t.rd .LS_STAT_TRIPPED c = s.rd .LS_STAT_TRIPPED c ∧ t.vr .STACK_TRIP c = 0)
      ∧ Within s t (fun l => bandPlaces l ∨ placesOf c [.LS_TEMP_CUR, .LS_TEMP_MAX, .LS_STAT_BAND, .LS_STAT_TRIPPED] [.TEMP_AT, .STACK_TRIP] l) (fun _ => False))
  ∧ (∀ s : State, let on := stackDies.filter fun c => s.domOn (80 + c)
    let b := on.foldl (fun m c => max m (s.rd .LS_STAT_BAND c)) 0
    let falls := s.fallPoint = true ∧ b < s.band ∧ ∀ c ∈ on, toSigned 16 (s.rd .LS_TEMP_CUR c) ≤ bandTop (s.band - 1) - 16 * (s.rd .LS_CTL_HYST c : Int)
    ∃ t, exec .bandFallCheck s = .next t ∧ (¬ falls → t = s) ∧ (falls → s.band < 4 → banded t b ∧ Within s t bandPlaces (fun _ => False)))
  ∧ (∀ (s : State) (c : CDie) (v : W64), let trip := bitsOf v.toNat 7 0
    s.dom (80 + c) ≠ 0 →
    ∃ t, exec (.lsCtlWrite c v) s = .next t ∧ t.rd .LS_CTL_TRIP c = (if 95 ≤ trip ∧ trip ≤ 110 then trip else s.rd .LS_CTL_TRIP c) ∧ t.rd .LS_CTL_HYST c = bitsOf v.toNat 11 8
      ∧ t.rd .LS_CTL_THROT_IRQ c = bitOf v.toNat 12
      ∧ Within s t (placesOf c [.LS_CTL_TRIP, .LS_CTL_HYST, .LS_CTL_THROT_IRQ, .LS_STAT_TRIPPED] [.STACK_TRIP]) (fun _ => False)))

/-- Requests are served: an atomic answers with the prior value and leaves its result, and nothing where its sector is poisoned (R265, R341); a queued read's answer carries what its request delivers and leaves its queue (R267, R290); the oldest write of
a channel lands and is acknowledged 24 cycles after it registered (R264, R267). Earlier requests to the same sector come first; these clauses are for the case that there are none. -/
def Obligations.StackService : Prop :=
  (∀ (s : State) (source : Fin 44) (addr : BitVec 40) (op : AmoOp) (ty : AType) (x cmp : W64),
    let a := addr.toNat
    let c := chanOf a
    let n := atypeSize ty
    let r := s.readReq false (a / 32 * 32)
    let old := (r.data.drop (a % 32)).take n
    a < stackTop → a % n = 0 →
    ∃ t, exec (.stackAtomic source addr op ty x cmp) s = .next t
      ∧ (s.stackAvail (c % 20) = .off → Effect s t [] [] { s.parts with stackAns := s.parts.stackAns.set source (s.parts.stackAns.at source ++ [⟨a, 0x60, [], 0⟩]) })
      ∧ (s.stackAvail (c % 20) = .served → s.chanRepaired c = false → (∀ q ∈ s.chan c, sameSector q.addr q.len a n = false) →
          (r.bad = [] → t.parts.stackAns.at source = s.parts.stackAns.at source ++ [⟨a, 0, old, 0⟩] ∧ t.num a n = amoValue op ty (leNat old) x.toNat cmp.toNat % 2 ^ (8 * n))
          ∧ (r.bad ≠ [] → t.parts.stackAns.at source = s.parts.stackAns.at source ++ [⟨a, 0x40, old, 1⟩] ∧ t.mem = s.mem)
          ∧ t.parts.chanQ = s.parts.chanQ
          ∧ Within s t (stackPlaces fun g => g = a / 64) (fun x => a / 32 * 32 ≤ x ∧ x < a / 32 * 32 + 32)))
  ∧ (∀ (s : State) (stack : CDie) (channel : Fin 128) (entry : Fin 32) (r : StackReq), let n := 20 * channel.val + stack.val
    s.nthRead n entry = some r → r.snap = none → s.stackAvail (n % 20) = .served → s.chanRepaired n = false → s.inWindow = false →
    r.at_ + readLatency ((s.chan n).takeWhile (· != r)) r ≤ s.clock → (∀ q ∈ (s.chan n).takeWhile (· != r), sameSector q.addr q.len r.addr r.len = false) →
    let d := (s.reqRead r).2
    ∃ t l, exec (.stackReadResponse stack channel entry) s = .next t
      ∧ t.parts.stackAns.at r.source = s.parts.stackAns.at r.source ++ [⟨r.addr, if d.2 = 0 then 0 else 0x40, d.1, d.2⟩]
      ∧ t.chan n = (s.chan n).erase r ++ l ∧ l.length ≤ 1
      ∧ Within s t (stackPlaces fun _ => False) (fun _ => False))
  ∧ (∀ (s : State) (stack : CDie) (channel : Fin 128) (r : StackReq), let n := 20 * channel.val + stack.val
    (s.chan n).find? (fun q => q.write) = some r → r.applied = false → r.at_ + 24 ≤ s.clock → s.stackAvail (n % 20) = .served → s.chanRepaired n = false →
    (∀ q ∈ (s.chan n).takeWhile (· != r), sameSector q.addr q.len r.addr r.len = false) → r.data.length = r.len →
    (r.len = 128 ∧ r.addr % 128 = 0) ∨ (0 < r.len ∧ r.addr % 32 + r.len ≤ 32) → s.chFailed r.addr = false → s.chFailed (r.addr + 64) = false →
    ∃ t l, exec (.stackWriteAck stack channel) s = .next t
      ∧ t.bytes r.addr r.len = r.data ∧ t.parts.stackAns.at r.source = s.parts.stackAns.at r.source ++ [⟨r.addr, 0, [], 0⟩]
      ∧ t.chan n = (s.chan n).eraseP (fun q => q.write) ++ l ∧ l.length ≤ 1
      ∧ Within s t (stackPlaces fun g => r.addr / 64 ≤ g ∧ g ≤ (r.addr + r.len - 1) / 64) (fun x => r.addr / 32 * 32 ≤ x ∧ x < (r.addr + r.len + 31) / 32 * 32))

/-! ### Stored-data protection (R285 to R310) -/

/-- Error counting: a scrub read falls due each period, and a third one waiting counts as lag (R297); the firmware records a bucket's uncorrectable reads once a frame (R296); each LEAK-th tick every nonzero level of the class loses one (R294); DEPTH and
LEAK take any value but 0, a level above a new DEPTH drops to it, and CLR empties the class (R294, R295); EC_SCRUB_PERIOD takes no value below 2,048 (R297). -/
def Obligations.ErrorCounting : Prop :=
  (∀ s : State, s.domOn 169 = true → s.rd .EC_SCRUB_CTL_FSTATE = 2 → s.vr .SCRUB_DUE_AT + s.rd .EC_SCRUB_PERIOD_CYCLES ≤ s.clock →
    ∃ t, exec .scrubReadDue s = .next t
      ∧ Effect s t ([(V .SCRUB_DUE_AT, s.vr .SCRUB_DUE_AT + s.rd .EC_SCRUB_PERIOD_CYCLES), (V .SCRUB_DUE, satAdd Var.SCRUB_DUE.width (s.vr .SCRUB_DUE) 1)]
          ++ if 2 ≤ s.vr .SCRUB_DUE + s.mostWB then [(R .EC_SCRUB_STAT_LAG, satAdd Fld.EC_SCRUB_STAT_LAG.width (s.rd .EC_SCRUB_STAT_LAG) 1)] else []) [] s.parts)
  ∧ (∀ (s : State) (b : Fin 60), s.fwReady = true → s.vr .UE_PEND 0 b ≠ 0 → s.vr .UE_FRAME 0 b ≠ (s.recordFrame + 1) % 2 ^ 64 → s.parts.rindQueue.length < 56 → s.vr .GASP ≠ 1 →
    ∃ t r, exec (.uncorrectableRecord b) s = .next t ∧ t.parts.rindQueue = s.parts.rindQueue ++ [r] ∧ r.source = 0x0500 ∧ r.seq = s.rd .BB_SEQ_NEXT ∧ r.gtc = s.gtc ∧ t.vr .UE_PEND 0 b = 0
      ∧ Within s t (fun l => rindPlaces l ∨ l = V .UE_PEND 0 b ∨ l = V .UE_FRAME 0 b) (fun _ => False))
  ∧ (∀ (s : State) (cls : Fin 2), s.domOn 169 = true →
    (s.scheduled = true → s.rd .EC_BKT_CFG_LEAK 0 cls ≤ s.vr .LEAK_TICKS 0 cls →
      ∃ t, exec (.bucketLeak cls) s = .next t
        ∧ Effect s t ((V .LEAK_TICKS 0 cls, s.vr .LEAK_TICKS 0 cls - s.rd .EC_BKT_CFG_LEAK 0 cls) :: (classBuckets cls).map fun b => (R .EC_BKT_LEVEL 0 b, s.rd .EC_BKT_LEVEL 0 b - 1)) [] s.parts)
    ∧ (∃ t, exec (.bucketClear cls) s = .next t ∧ Effect s t ((classBuckets cls).map fun b => (R .EC_BKT_LEVEL 0 b, 0)) [] s.parts)
    ∧ ∀ v : W64, let d := bitsOf v.toNat 15 0
      let leak := bitsOf v.toNat 31 16
      ∃ t, exec (.bktCfgWrite cls v) s = .next t
        ∧ Effect s t ((if d = 0 then [] else (R .EC_BKT_CFG_DEPTH 0 cls, d) :: (classBuckets cls).map fun b => (R .EC_BKT_LEVEL 0 b, min (s.rd .EC_BKT_LEVEL 0 b) d))
            ++ (if leak = 0 then [] else [(R .EC_BKT_CFG_LEAK 0 cls, leak)]) ++ [(R .EC_BKT_CFG_IRQ_EN 0 cls, bitOf v.toNat 33)]) [] s.parts)
  ∧ (∀ (s : State) (v : W64), let takes := s.domOn 169 = true ∧ 2048 ≤ v.toNat % 2 ^ 32
    ∃ t, exec (.scrubPeriodWrite v) s = .next t ∧ (takes → Effect s t [(R .EC_SCRUB_PERIOD_CYCLES, v.toNat % 2 ^ 32)] [] s.parts) ∧ (¬ takes → t = s))

/-- Repairs and raw access: a post-package repair or a row copy starts on an idle target with a spare left and is refused otherwise; its end leaves the row repaired and the repair to be recorded (R302, R303). A raw access is refused on a busy target or at a
bad address; a raw write stores its data words and check symbols, and a raw read returns them as stored (R308, R309). -/
def Obligations.RepairsAndRawAccess : Prop :=
  (∀ (s : State) (v : W64), let x := v.toNat
    let st := bitsOf x 4 0
    let bank := 16 * bitsOf x 11 5 + bitsOf x 15 12
    let named := [(R .EC_PPR_STACK, st), (R .EC_PPR_CH, bitsOf x 11 5), (R .EC_PPR_BANK, bitsOf x 15 12), (R .EC_PPR_ROW, bitsOf x 30 16), (R .EC_PPR_LEFT, 2 - s.vr .PPR_USED st bank)]
    s.domOn 169 = true → testB x 31 = true →
    ∃ t, exec (.pprStart v) s = .next t
      ∧ (s.rd .EC_PPR_BUSY = 1 → Effect s t [(R .EC_PPR_STATUS, 0x8C)] [] s.parts)
      ∧ (s.rd .EC_PPR_BUSY ≠ 1 → s.jobActive = true → Effect s t (named ++ [(R .EC_PPR_STATUS, 0x8C)]) [] s.parts)
      ∧ (s.rd .EC_PPR_BUSY ≠ 1 → s.jobActive = false → 2 ≤ s.vr .PPR_USED st bank → Effect s t (named ++ [(R .EC_PPR_STATUS, 0x8B)]) [] s.parts)
      ∧ (s.rd .EC_PPR_BUSY ≠ 1 → s.jobActive = false → s.vr .PPR_USED st bank < 2 → st < 20 → bitsOf x 30 16 < 24576 →
          Effect s t (named ++ [(R .EC_PPR_BUSY, 1), (R .LS_STAT_REPAIR st, 1), (V .PPR_AT, s.clock + 2100000), (V .FR_MAINT, 1), (V .PPR_USED st bank, s.vr .PPR_USED st bank + 1)]) [] s.parts))
  ∧ (∀ s : State, s.rd .EC_PPR_BUSY = 1 → s.vr .PPR_AT ≤ s.clock → let st := s.rd .EC_PPR_STACK
    ∃ t, exec .pprDone s = .next t ∧ t.rd .EC_PPR_BUSY = 0 ∧ t.rd .EC_PPR_STATUS = 0 ∧ t.rd .LS_STAT_REPAIR st = 0
      ∧ t.parts.repairs = s.parts.repairs ++ [stackRowFuse st (s.rd .EC_PPR_CH) (s.rd .EC_PPR_BANK) (s.rd .EC_PPR_ROW)]
      ∧ Within s t (fun l => l ∈ [R .EC_PPR_BUSY, R .EC_PPR_STATUS, R .EC_PPR_LEFT, R .LS_STAT_REPAIR st] ∨ ∃ c, l = V .STK_CHK c)
          (fun x => ∃ a ∈ s.rowBursts st (s.rd .EC_PPR_CH) (s.rd .EC_PPR_BANK) (s.rd .EC_PPR_ROW), a / 16 * 16 ≤ x ∧ x < a / 16 * 16 + 128))
  ∧ (∀ (s : State) (v : W64), let x := v.toNat
    let k := bitsOf x 5 0
    let b := bitsOf x 9 6
    let named := [(R .EC_TS_REPAIR_TILE, k), (R .EC_TS_REPAIR_BANK, b), (R .EC_TS_REPAIR_ROW, bitsOf x 20 10)]
    s.domOn 169 = true → testB x 21 = true →
    ∃ t, exec (.tsRepairStart v) s = .next t
      ∧ (s.rd .EC_TS_REPAIR_BUSY = 1 → Effect s t [(R .EC_TS_REPAIR_STATUS, 0x8C)] [] s.parts)
      ∧ (s.rd .EC_TS_REPAIR_BUSY ≠ 1 → k < 40 → s.tileIdle k = false → Effect s t (named ++ [(R .EC_TS_REPAIR_STATUS, 0x8C)]) [] s.parts)
      ∧ (s.rd .EC_TS_REPAIR_BUSY ≠ 1 → k < 40 → s.tileIdle k = true → s.vr .TS_SPARE k b = 1 → Effect s t (named ++ [(R .EC_TS_REPAIR_STATUS, 0x8B)]) [] s.parts)
      ∧ (s.rd .EC_TS_REPAIR_BUSY ≠ 1 → k < 40 → s.tileIdle k = true → s.vr .TS_SPARE k b ≠ 1 →
          Effect s t (named ++ [(R .EC_TS_REPAIR_BUSY, 1), (V .TS_REP_AT, s.clock + 64), (V .TS_SPARE k b, 1), (V .FR_MAINT, 1)]) [] s.parts))
  ∧ (∀ s : State, s.rd .EC_TS_REPAIR_BUSY = 1 → s.vr .TS_REP_AT ≤ s.clock → let k := s.rd .EC_TS_REPAIR_TILE
    let words := s.tsRowWords k (s.rd .EC_TS_REPAIR_BANK) (s.rd .EC_TS_REPAIR_ROW)
    ∃ t, exec .tsRepairDone s = .next t ∧ t.rd .EC_TS_REPAIR_BUSY = 0 ∧ t.rd .EC_TS_REPAIR_STATUS = 0 ∧ t.parts.repairs.length = s.parts.repairs.length + 1
      ∧ (∀ w ∈ words, s.tsClass k w ≠ .uncorrectable → t.vr .TS_CHK k w = 0)
      ∧ Within s t (fun l => l = R .EC_TS_REPAIR_BUSY ∨ l = R .EC_TS_REPAIR_STATUS ∨ ∃ w ∈ words, l = V .TS_CHK k w) (fun x => ∃ w ∈ words, storeBase k + 8 * w ≤ x ∧ x < storeBase k + 8 * w + 8))
  ∧ (∀ (s : State) (v : W64), let target := bitsOf v.toNat 5 0
    let st := rawStatus s target (s.rd .EC_TEST_ADDR_ADDR)
    let named := [(R .EC_TEST_CTL_TARGET, target), (R .EC_TEST_CTL_POISON, bitOf v.toNat 11)]
    s.domOn 169 = true → s.rd .EC_TEST_CTL_BUSY ≠ 1 → target < 60 →
    ∀ c ∈ [(Instr.rawWrite v, 1), (.rawRead v, 2)], ∃ t, exec c.1 s = .next t
      ∧ (st ≠ 0 → Effect s t (named ++ [(R .EC_TEST_CTL_STATUS, st)]) [] s.parts)
      ∧ (st = 0 → Effect s t (named ++ [(R .EC_TEST_CTL_BUSY, 1), (V .RAW_CMD, c.2), (V .FR_MAINT, 1)]) [] s.parts))
  ∧ (∀ s : State, s.rd .EC_TEST_CTL_BUSY = 1 → let target := s.rd .EC_TEST_CTL_TARGET
    let a := s.rd .EC_TEST_ADDR_ADDR
    let ends := [R .EC_TEST_CTL_BUSY, R .EC_TEST_CTL_STATUS, V .RAW_CMD]
    20 ≤ target ∨ s.chan (chanOf a) = [] →
    ∃ t, exec .rawAccessDone s = .next t ∧ t.rd .EC_TEST_CTL_BUSY = 0 ∧ t.rd .EC_TEST_CTL_STATUS = 0
      ∧ (target < 20 → s.vr .RAW_CMD = 1 → t.bytes a 128 = s.testData 16 ∧ Within s t (fun l => l ∈ ends ∨ ∃ w < 8, l = V .STK_CHK (a / 16 + w)) (fun x => a ≤ x ∧ x < a + 128))
      ∧ (target < 20 → s.vr .RAW_CMD ≠ 1 → (∀ i < 16, t.rd .EC_TEST_DATA_DATA 0 i = s.num (a + 8 * i) 8)
          ∧ Within s t (fun l => l ∈ ends ∨ l = R .EC_TEST_CHK0_CHK ∨ l = R .EC_TEST_CHK1_CHK ∨ ∃ i < 16, l = R .EC_TEST_DATA_DATA 0 i) (fun _ => False))
      ∧ (20 ≤ target → s.vr .RAW_CMD = 1 → t.bytes (storeBase (target - 20) + a) 64 = s.testData 8 ∧ t.vr .TS_POIS (target - 20) (a / 64) = s.rd .EC_TEST_CTL_POISON % 2
          ∧ Within s t (fun l => l ∈ ends ∨ l = V .TS_POIS (target - 20) (a / 64) ∨ ∃ i < 8, l = V .TS_CHK (target - 20) (a / 8 + i)) (fun x => storeBase (target - 20) + a ≤ x ∧ x < storeBase (target - 20) + a + 64))
      ∧ (20 ≤ target → s.vr .RAW_CMD ≠ 1 → (∀ i < 8, t.rd .EC_TEST_DATA_DATA 0 i = s.num (storeBase (target - 20) + a + 8 * i) 8)
          ∧ Within s t (fun l => l ∈ ends ∨ l = R .EC_TEST_CHK0_CHK ∨ l = R .EC_TEST_CTL_POISON ∨ ∃ i < 8, l = R .EC_TEST_DATA_DATA 0 i) (fun _ => False)))

/-! ### The rind log and register access -/

/-- The rind log: the writer writes the front record, in SEQ order, to the ring or, when fatal, to the sealed region, and its entry leaves the queue (R494, R495); the last gasp writes everything queued and one record more and stops domain 168 (R498);
the firmware queues records of its own kinds and reads records by index (R495, R499). -/
def Obligations.RindLog : Prop :=
  (∀ (s : State) (r : RindRec) (rest : List RindRec), s.parts.rindQueue = r :: rest → s.domOn 168 = true → s.vr .BB_DUE ≤ s.clock → s.parts.rindHeld = [] → s.vr .DROP_PEND = 0 →
    let used := s.rd .BB_STAT_SEAL_USED
    let toSeal := r.fatal = true ∧ used < 4096
    let i := if toSeal then used else s.rd .BB_HEAD_IDX
    ∃ t, exec .rindRecordWrite s = .next t ∧ t.mram = s.mram.put i (some (if toSeal then { r with flags := setB r.flags 2 } else r)) ∧ t.parts = { s.parts with rindQueue := rest }
      ∧ t.rd .BB_STAT_QOCC = rest.length % 2 ^ Fld.BB_STAT_QOCC.width
      ∧ (¬ toSeal → t.rd .BB_HEAD_IDX = (if i = 1048575 then 4096 else i + 1) % 2 ^ Fld.BB_HEAD_IDX.width ∧ t.rd .BB_STAT_SEAL_USED = used)
      ∧ (toSeal → t.rd .BB_STAT_SEAL_USED = (used + 1) % 2 ^ Fld.BB_STAT_SEAL_USED.width ∧ t.rd .BB_HEAD_IDX = s.rd .BB_HEAD_IDX % 2 ^ Fld.BB_HEAD_IDX.width)
      ∧ (∀ l, l ∉ [R .BB_STAT_SEAL_USED, R .BB_STAT_WRAPPED, R .BB_HEAD_IDX, V .WS_HEAD 0 0, V .WS_SEQ 0 0, V .WS_HEAD 0 1, V .WS_SEQ 0 1, R .BB_STAT_QOCC, V .BB_DUE] → t.get l = s.get l)
      ∧ t.mem = s.mem ∧ t.gtc = s.gtc ∧ t.clock = s.clock ∧ t.fuses = s.fuses)
  ∧ (∀ s : State, s.domOn 168 = true →
    ∃ t i r, exec .lastGasp s = .next t ∧ t.mram.find i = some r ∧ r.kind = 0x0001 ∧ r.source = 0x0600 ∧ t.parts.rindQueue = [] ∧ t.parts.rindHeld = [] ∧ t.rd .BB_STAT_QOCC = 0
      ∧ t.vr .GASP = 1 ∧ t.dom 168 = 0 ∧ t.mem = s.mem ∧ t.gtc = s.gtc ∧ t.fuses = s.fuses)
  ∧ (∀ (s : State) (v : W64), let x := v.toNat
    let kind := bitsOf x 15 0
    let named := [(R .BB_WR_CTL_KIND, kind), (R .BB_WR_CTL_STATUS, bitsOf x 23 16), (R .BB_WR_CTL_FATAL, bitOf x 24), (R .BB_WR_CTL_REDACT, bitOf x 25)]
    s.domOn 168 = true →
    ∃ t, exec (.bbWriteGo v) s = .next t
      ∧ (testB x 26 = false ∨ kind < 0x0100 ∨ 0x7FFF < kind ∨ s.rd .BB_WR_CTL_BUSY = 1 → Effect s t named [] s.parts)
      ∧ (testB x 26 = true → 0x0100 ≤ kind → kind ≤ 0x7FFF → s.rd .BB_WR_CTL_BUSY ≠ 1 →
          (testB x 24 = false ∧ s.vr .GASP ≠ 1 ∧ s.parts.rindQueue.length < 56) ∨ (testB x 24 = true ∧ s.parts.rindQueue.length < 64) →
          (∃ r, t.parts.rindQueue = s.parts.rindQueue ++ [r] ∧ r.source = 0x0500 ∧ r.kind = kind ∧ r.gtc = s.rd .BB_WR_GTC_GTC ∧ r.seq = s.rd .BB_SEQ_NEXT)
          ∧ t.rd .BB_SEQ_NEXT = (s.rd .BB_SEQ_NEXT + 1) % 2 ^ Fld.BB_SEQ_NEXT.width ∧ Within s t (fun l => rindPlaces l ∨ l ∈ named.map Prod.fst) (fun _ => False)))
  ∧ (∀ (s : State) (v : W64), s.domOn 168 = true →
    ∃ t, exec (.bbRead v) s = .next t ∧ Effect s t [(R .BB_RD_IDX_IDX, bitsOf v.toNat 19 0), (R .BB_RD_IDX_BUSY, 1), (V .BB_RD_AT, s.clock + 32)] [] s.parts)
  ∧ (∀ s : State, s.rd .BB_RD_IDX_BUSY = 1 → s.vr .BB_RD_AT ≤ s.clock →
    ∃ t, exec .bbReadDone s = .next t
      ∧ Effect s t ((R .BB_RD_IDX_BUSY, 0) :: (List.range 8).map fun i => (R .BB_RD_DATA_DATA 0 i, leNat (((s.recordBytes (s.rd .BB_RD_IDX_IDX)).drop (8 * i)).take 8))) [] s.parts)

/-- Register writes: an aligned store to a register of a block that takes it gives each field that has no command of its own what its access code and table allow, and changes no other register (R9, R10, Table 0.1). A store that is
misaligned, or to an offset that no table names, changes nothing (R10, R242). (Which blocks take writes while their domain is off is log entry 21.) -/
def Obligations.RegisterWrites : Prop :=
  (∀ (s : State) (addr : BitVec 48) (v : W64) (core : Bool) (b : Blk) (n o j : Nat) (r : RegRow), let a := addr.toNat
    a % 8 = 0 → mmioBytes a = false → s.mmioAt a = some (b, n, o) → (core = true → b = .tile) → s.takesWrite b n = true → (b = .tile → s.slotHeld n o core = true) → findReg b o regTable = some (r, j) →
    ∃ t, exec (.registerWrite addr v core) s = .next t
      ∧ (∀ c ∈ r.cells, let x := cellAt r.blk n j c.2.2 r.count
          let w := bitsOf v.toNat (c.2.1 + c.1.width - 1) c.2.1
          ownStep c.1 = false →
          (c.1.access = .rw ∨ c.1.access = .rws → t.rd c.1 x.1 x.2 = if fieldTakes c.1 w then w % 2 ^ c.1.width else s.rd c.1 x.1 x.2)
          ∧ (c.1.access = .w1c → t.rd c.1 x.1 x.2 = (s.rd c.1 x.1 x.2 &&& (2 ^ c.1.width - 1 - w)) % 2 ^ c.1.width))
      ∧ t.parts = s.parts
      ∧ Within s t (fun l => (∃ c ∈ r.cells, ownStep c.1 = false ∧ l = R c.1 (cellAt r.blk n j c.2.2 r.count).1 (cellAt r.blk n j c.2.2 r.count).2) ∨ l = V .THROT_AT
            ∨ l = R .TC_PREEMPT_PENDING n ∨ l = V .PREEMPT_AT n ∨ l = V .PREEMPT_TICKS n ∨ l = V .PREEMPT_LATE n) (fun _ => False))
  ∧ (∀ (s : State) (addr : BitVec 48) (v : W64) (core : Bool), let a := addr.toNat
    a % 8 ≠ 0 ∨ (mmioBytes a = false ∧ (s.mmioAt a = none ∨ ∃ b n o, s.mmioAt a = some (b, n, o) ∧ findReg b o regTable = none)) → exec (.registerWrite addr v core) s = .next s)
  ∧ (∀ (s : State) (addr : BitVec 48) (v : W64), let a := addr.toNat
    let f := (a - 0x018000100000) / 0x40000
    let held := mboxBase 0 ≤ a ∧ testB (s.rd .MB_OWN_OWN) ((a - mboxBase 0) / 0x1000) = true
    a % 8 = 0 → mmioBytes a = true →
    (held → ∃ t, exec (.registerWrite addr v false) s = .next t ∧ Effect s t [(R .MB_VIOL_FW_WR, satAdd Fld.MB_VIOL_FW_WR.width (s.rd .MB_VIOL_FW_WR) 1)] [] s.parts)
    ∧ (¬ held → (a < mboxBase 0 → s.dom (164 + f) ≠ 0) → ∃ t, exec (.registerWrite addr v false) s = .next t ∧ t.num a 8 = v.toNat ∧ t.parts = s.parts
        ∧ Within s t (fun l => a < mboxBase 0 ∧ ∃ k, ∃ x ∈ [Var.CE_SEQ, .CE_LATE, .CE_REM], l = V x k ((a - ctxAddr f 0) / 0x100)) (fun x => a ≤ x ∧ x < a + 8))
    ∧ exec (.registerWrite addr v true) s = .next s)

/-! ### Fabric links (R311 to R329) -/

/-- Link blocks: an ACTIVE link sends up to 47 payload flits of its queue under its credits and holds the block until it is acknowledged; with 64 held it sends none, and a block asked for again goes first (R313 to R318). A drain with nothing left
ends in DOWN (R327). A received block is delivered once when it is sound and next in order; a bad one is asked for again, counted once, and the 17th of a frame retrains the link; its acknowledgement drops what it covers and its message takes the link
to RETRAIN or DOWN (R312, R317 to R319). -/
def Obligations.LinkBlocks : Prop :=
  (∀ (s : State) (l : Link), s.linkActive l = true →
    let replay := s.parts.replay.at l
    let queue := s.parts.linkTx.at l
    let rs := s.vr .TX_RESEND l
    ∃ t, exec (.linkBlockSend l) s = .next t
      ∧ (rs = 0 → (s.vr .LINK_DRAIN l = 0 ∨ replay ≠ [] ∨ queue ≠ []) → replay.length < 64 →
          let b := fillBlock 47 (s.credits l) queue
          let flits := b.used.foldl (· + ·) 0 + b.syncs
          Effect s t ([(V .TX_SEQ l, (s.vr .TX_SEQ l + 1) % 65536), (R .FL_BLOCKS_PAYLOAD l, (s.rd .FL_BLOCKS_PAYLOAD l + flits) % 2 ^ Fld.FL_BLOCKS_PAYLOAD.width), (V .RX_NAK l, 0), (V .TX_RESEND l, 0), (V .TX_MSG l, 0)]
              ++ (List.range 4).map fun k => (V .CR_USED l k, (s.vr .CR_USED l k + b.used.getD k 0) % 2 ^ 24)) []
            { s.parts with linkTx := s.parts.linkTx.set l b.left, replay := s.parts.replay.set l (replay ++ [⟨s.vr .TX_SEQ l, flits, b.ended⟩]) })
      ∧ (rs = 0 → 64 ≤ replay.length → Effect s t [(V .TX_RESEND l, 0)] [] s.parts)
      ∧ (rs ≠ 0 → (replay.any fun b => b.seq == rs - 1) = true →
          Effect s t [(V .TX_RESEND l, if replay.any (fun b => b.seq == rs % 65536) then rs % 65536 + 1 else 0), (V .RX_NAK l, 0)] [] s.parts)
      ∧ (rs = 0 → s.vr .LINK_DRAIN l ≠ 0 → replay = [] → queue = [] → LinkIs t l 7 (if s.vr .LINK_DRAIN l = 1 then 12 else 13)
          ∧ Within s t (fun x => linkPlaces l x ∨ x = V .TX_SEQ l) (fun _ => False)))
  ∧ (∀ (s : State) (l : Link) (b : RxBlock), s.linkActive l = true →
    let sound := b.crcOk = true ∧ b.fecUncorrectable.toNat = 0
    let f := fdieOf l
    ∃ t, exec (.linkBlockReceive l b) s = .next t
      ∧ t.rd .FL_FEC_CORR_BITS l = satAdd Fld.FL_FEC_CORR_BITS.width (s.rd .FL_FEC_CORR_BITS l) b.fecCorrected.toNat
      ∧ (sound → b.seq.toNat = s.vr .RX_SEQ l → b.msg.toNat ∉ [1, 2] → t.vr .RX_SEQ l = (s.vr .RX_SEQ l + 1) % 65536 ∧ t.vr .RX_EVENT l = 0
          ∧ t.parts.fdiePkts.at f = s.parts.fdiePkts.at f ++ (b.packets.map fun x => ⟨x, some l.val⟩) ∧ t.linkState l = s.linkState l)
      ∧ (sound → b.seq.toNat = s.vr .RX_SEQ l → b.msg.toNat = 2 → LinkIs t l 7 11)
      ∧ (sound → b.seq.toNat = s.vr .RX_SEQ l → b.msg.toNat = 1 → LinkIs t l 6 0)
      ∧ (sound → b.msg.toNat ≠ 2 → t.parts.replay.at l = (s.parts.replay.at l).filter fun x => !seqBefore x.seq b.ackNext.toNat)
      ∧ (¬ sound ∨ b.seq.toNat ≠ s.vr .RX_SEQ l → t.vr .RX_SEQ l = s.vr .RX_SEQ l ∧ t.parts.fdiePkts = s.parts.fdiePkts
          ∧ (s.vr .RX_EVENT l ≠ 1 → t.vr .RX_NAK l = 1 ∧ t.vr .RX_EVENT l = 1 ∧ t.rd .FL_RETRY_EVENTS l = satAdd Fld.FL_RETRY_EVENTS.width (s.rd .FL_RETRY_EVENTS l) 1
              ∧ (17 ≤ s.vr .FR_RETRY l + 1 → LinkIs t l 6 0) ∧ (s.vr .FR_RETRY l + 1 < 17 → t.linkState l = s.linkState l))
          ∧ (s.vr .RX_EVENT l = 1 → t.rd .FL_RETRY_EVENTS l = s.rd .FL_RETRY_EVENTS l))
      ∧ Within s t (fun x => linkPlaces l x ∨ x ∈ [R .FL_FEC_CORR_BITS l, R .FL_FEC_UNCORR_CW l, R .FL_FEC_UNCORR_CRC l, R .FL_RETRY_EVENTS l, V .FR_RETRY l, V .RX_SEQ l] ∨ ∃ k, x = V .CR_LIMIT l k) (fun _ => False))

/-- Training: DETECT, ALIGN, CONFIG and QUALIFY take a link on or hold it with the cause of Table 13.2; a failed probation, a RETRAIN past its limit and a drain past its limit take it DOWN, from where it detects again or is disabled; a lane that
shorts or loses lock retrains the link that uses it; RESTART drains an ACTIVE link and takes a HELD one to DETECT (R320 to R328). -/
def Obligations.LinkTraining : Prop :=
  let flag := fun (b : Bool) => if b then 1 else 0
  (∀ (s : State) (l : Link) (c0 c1 c2 c3 : LaneClass), s.linkState l = 1 → s.vr .DETECT_AT l ≤ s.clock →
    let cs := [c0, c1, c2, c3]
    ∃ t, exec (.linkDetect l c0 c1 c2 c3) s = .next t
      ∧ (∀ k < 4, t.rd .FL_LANE_OPEN l k = flag (cs.getD k .open_ == .open_) ∧ t.rd .FL_LANE_SHORT l k = flag (cs.getD k .open_ == .short) ∧ t.rd .FL_LANE_DRIVER l k = flag (cs.getD k .open_ == .driver)
          ∧ testB (t.vr .LANE_USABLE l) k = (cs.getD k .open_ == .termination))
      ∧ (.driver ∈ cs → LinkIs t l 8 2) ∧ (.driver ∉ cs → .termination ∈ cs → LinkIs t l 2 0)
      ∧ (.driver ∉ cs → .termination ∉ cs → t.linkState l = 1 ∧ t.rd .FL_STAT_CAUSE l = 1 ∧ t.vr .DETECT_AT l = (s.clock + 1050000) % 2 ^ 64)
      ∧ Within s t (fun x => linkPlaces l x ∨ x = V .LANE_USABLE l ∨ x = V .LANE_LOCKED l ∨ ∃ k, x ∈ [R .FL_LANE_OPEN l k, R .FL_LANE_SHORT l k, R .FL_LANE_DRIVER l k, R .FL_LANE_USED l k]) (fun _ => False))
  ∧ (∀ (s : State) (l : Link) (a0 a1 a2 a3 : LaneAlign),
    let a := [a0, a1, a2, a3]
    let locked := fun k => match a[k]? with | some x => x.locked && testB (s.vr .LANE_USABLE l) k | none => false
    (∃ k < 4, locked k = true) →
    ∃ t, exec (.linkAlign l a0 a1 a2 a3) s = .next t
      ∧ (s.linkState l = 2 → s.clock ≤ s.vr .LINK_AT l + 2100000 → LinkIs t l 3 0 ∧ (∀ k < 4, testB (t.vr .LANE_LOCKED l) k = locked k)
          ∧ ∀ k < 4, ∀ x, a[k]? = some x → locked k = true → t.rd .FL_LANE_LOGICAL l k = x.laneId ∧ t.rd .FL_LANE_RX_POL_INV l k = flag x.inverted)
      ∧ (s.linkState l = 6 → s.clock ≤ s.vr .LINK_AT l + 210000 → t.vr .LINK_ALIGNED l = 1 ∧ t.linkState l = 6 ∧ (∀ k, t.rd .FL_LANE_LOGICAL l k = s.rd .FL_LANE_LOGICAL l k))
      ∧ Within s t (fun x => linkPlaces l x ∨ x = V .LANE_LOCKED l ∨ ∃ k, x = R .FL_LANE_LOGICAL l k ∨ x = R .FL_LANE_RX_POL_INV l k) (fun _ => False))
  ∧ (∀ (s : State) (l : Link), s.linkState l = 2 → s.vr .LINK_AT l + 2100000 ≤ s.clock →
    ∃ t, exec (.linkAlignTimeout l) s = .next t ∧ LinkIs t l 8 9 ∧ Within s t (linkPlaces l) (fun _ => False))
  ∧ (∀ (s : State) (l : Link) (p : PeerConfig), s.linkState l = 3 →
    let fl := flightOf p.roundTrip.toNat
    let own := s.ownLanes l
    let both := (List.range 4).foldl (fun m q => if testB own q ∧ testB p.lanes.toNat q then m + 2 ^ q else m) 0
    let set_ := lowestLanes both (min (s.rd .FL_CTL_MAX_W l) p.maxW)
    let mismatch := s.rd .FL_CTL_PEER_CHK l = 1 ∧ (s.rd .FL_PEER_EXP_NODE l ≠ p.node.toNat ∨ s.rd .FL_PEER_EXP_FDIE l ≠ p.fdie.toNat ∨ s.rd .FL_PEER_EXP_PORT l ≠ p.port.toNat)
    ∃ t, exec (.linkConfig l p) s = .next t ∧ t.rd .FL_PEER_NODE l = p.node.toNat ∧ t.rd .FL_PEER_FDIE l = p.fdie.toNat ∧ t.rd .FL_PEER_PORT l = p.port.toNat ∧ t.rd .FL_PEER_VALID l = 1
      ∧ t.rd .FL_LAT_FLIGHT l = min fl 255
      ∧ (p.conflict = true → LinkIs t l 8 8) ∧ (p.conflict = false → mismatch → LinkIs t l 8 7) ∧ (p.conflict = false → ¬ mismatch → classOf fl = 3 → LinkIs t l 8 6)
      ∧ (p.conflict = false → ¬ mismatch → classOf fl ≠ 3 → laneCount set_ = 0 → LinkIs t l 8 3)
      ∧ (p.conflict = false → ¬ mismatch → classOf fl ≠ 3 → laneCount set_ ≠ 0 → LinkIs t l 4 0 ∧ t.rd .FL_STAT_WIDTH l = laneCount set_ ∧ t.vr .LINK_SET l = set_ ∧ t.rd .FL_LAT_CLASS l = classOf fl)
      ∧ Within s t (fun x => linkPlaces l x ∨ x ∈ [R .FL_PEER_NODE l, R .FL_PEER_FDIE l, R .FL_PEER_PORT l, R .FL_PEER_VALID l, R .FL_LAT_FLIGHT l, R .FL_LAT_RT l, R .FL_LAT_CLASS l, V .LINK_SET l, V .TX_SEQ l]
          ∨ ∃ k, x = R .FL_LANE_USED l k) (fun _ => False))
  ∧ (∀ (s : State) (l : Link) (c0 c1 c2 c3 : BitVec 32) (unc : Bool), let w := s.rd .FL_STAT_WIDTH l
    let worst := worstLane (s.vr .LINK_SET l) [c0.toNat, c1.toNat, c2.toNat, c3.toNat]
    let pass := unc = false ∧ worst.1 * w ≤ 10 ^ 7
    s.linkState l = 4 → w ≠ 0 → s.vr .LINK_AT l + 52500000000 / w ≤ s.clock →
    ∃ t, exec (.linkQualifyEnd l c0 c1 c2 c3 unc) s = .next t ∧ t.rd .FL_QUAL_WORST l = worst.1 % 2 ^ 32
      ∧ (pass → LinkIs t l 5 0 ∧ t.rd .FL_QUAL_PASS l = 1 ∧ t.rd .FL_STAT_WIDTH l = w % 2 ^ Fld.FL_STAT_WIDTH.width ∧ ∀ k < 4, t.vr .CR_USED l k = 0 ∧ t.vr .CR_LIMIT l k = 0 ∧ t.vr .CR_FREED l k = ingressFlits k)
      ∧ (¬ pass → LinkIs t l 8 (if unc then 5 else 4) ∧ t.rd .FL_QUAL_PASS l = 0)
      ∧ Within s t (fun x => linkPlaces l x ∨ x ∈ [R .FL_QUAL_WORST l, R .FL_QUAL_WORST_LANE l, R .FL_QUAL_PASS l, R .FL_QUAL_POSTFEC_FAIL l, R .FL_QUAL_WIDTH l, V .LINK_QCLASS l, V .SOAK_OK l]
          ∨ ∃ k, x = V .CR_USED l k ∨ x = V .CR_LIMIT l k ∨ x = V .CR_FREED l k) (fun _ => False))
  ∧ (∀ (s : State) (l : Link) (worst : BitVec 32) (unc : Bool), s.linkActive l = true → s.rd .FL_STAT_PROBATION l = 1 → s.vr .LINK_AT l + 16777216 ≤ s.clock →
    ∃ t, exec (.linkProbationEnd l worst unc) s = .next t
      ∧ (unc = true ∨ 3195 < worst.toNat → LinkIs t l 7 14 ∧ Within s t (linkPlaces l) (fun _ => False))
      ∧ (unc = false → worst.toNat ≤ 3195 → Effect s t [(R .FL_STAT_PROBATION l, 0)] [] s.parts))
  ∧ (∀ (s : State) (l : Link) (noLane : Bool), s.linkState l = 6 → noLane = true ∨ s.vr .LINK_AT l + 210000 ≤ s.clock →
    ∃ t, exec (.linkRetrainTimeout l noLane) s = .next t ∧ LinkIs t l 7 10 ∧ t.parts.replay.at l = [] ∧ t.parts.linkTx.at l = [] ∧ Within s t (linkPlaces l) (fun _ => False))
  ∧ (∀ (s : State) (l : Link), s.linkState l = 7 → s.vr .LINK_AT l + 16 ≤ s.clock →
    ∃ t, exec (.linkDownEnd l) s = .next t ∧ LinkIs t l (if s.domOn (100 + l) then 1 else 0) (s.rd .FL_STAT_CAUSE l % 2 ^ Fld.FL_STAT_CAUSE.width) ∧ Within s t (linkPlaces l) (fun _ => False))
  ∧ (∀ (s : State) (l : Link) (k : Fin 4), s.linkState l ≠ 0 → ∀ c ∈ [(Instr.laneShort l k, Fld.FL_LANE_SHORT), (.laneLockLoss l k, .FL_LANE_LOCK_LOST)],
    ∃ t, exec c.1 s = .next t ∧ t.rd c.2 l k = 1 ∧ testB (t.vr .LANE_LOCKED l) k = false
      ∧ (s.linkActive l = true → s.rd .FL_LANE_USED l k = 1 → LinkIs t l 6 0) ∧ (s.linkActive l = false ∨ s.rd .FL_LANE_USED l k ≠ 1 → t.linkState l = s.linkState l)
      ∧ Within s t (fun x => linkPlaces l x ∨ x = R c.2 l k ∨ x = V .LANE_LOCKED l ∨ x = V .LANE_USABLE l) (fun _ => False))
  ∧ (∀ (s : State) (l : Link) (v : W64), let x := v.toNat
    let w := bitsOf x 6 4
    ∃ t, exec (.linkRestart l v) s = .next t ∧ t.rd .FL_CTL_PEER_CHK l = bitOf x 1 ∧ t.rd .FL_CTL_IRQ_EN l = bitOf x 2 ∧ t.rd .FL_CTL_LANE_MASK l = bitsOf x 11 8
      ∧ t.rd .FL_CTL_MAX_W l = (if 1 ≤ w ∧ w ≤ 4 then w else s.rd .FL_CTL_MAX_W l)
      ∧ (testB x 0 = true → s.linkState l = 5 → s.vr .LINK_DRAIN l = 0 → t.vr .LINK_DRAIN l = 2 ∧ t.linkState l = 5)
      ∧ (testB x 0 = true → s.linkState l = 8 → LinkIs t l 1 0) ∧ (testB x 0 = false ∨ s.linkState l ∉ [5, 8] → t.linkState l = s.linkState l ∧ t.vr .LINK_DRAIN l = s.vr .LINK_DRAIN l)
      ∧ Within s t (fun y => linkPlaces l y ∨ y ∈ [R .FL_CTL_PEER_CHK l, R .FL_CTL_IRQ_EN l, R .FL_CTL_LANE_MASK l, R .FL_CTL_MAX_W l, V .LINK_DRAIN_AT l]) (fun _ => False))
  ∧ (∀ (s : State) (l : Link), s.linkActive l = true → s.vr .LINK_DRAIN l ≠ 0 → s.vr .LINK_DRAIN_AT l + 1048576 ≤ s.clock → s.parts.replay.at l ≠ [] →
    ∃ t, exec (.linkDrainTimeout l) s = .next t ∧ LinkIs t l 7 (if s.vr .LINK_DRAIN l = 1 then 12 else 13) ∧ t.parts.replay.at l = [] ∧ t.parts.linkTx.at l = []
      ∧ (s.rd .FL_PEER_VALID l = 1 → (handbackOf s l).any (fun b => !b.pkts.isEmpty) = true → t.parts.handbacks.find l = some ⟨s.gtc, false, handbackOf s l⟩)
      ∧ Within s t (linkPlaces l) (fun _ => False))

/-! ### Fabric memory semantics (R330 to R359) -/

/-- Forwarding and release: an F-die delivers a packet of its own node to its NI, sends another on the link that its flow's bucket names, keeps one whose links retrain, and answers a request with no route, or out of hops, with 0x64 (R332). A packet is
delivered in the cycle its stamp and delay name, at once when late, and not at all when stale; a request is delivered to its target's point, or refused with its status (R54, R337, R339).
Reconciliation and the interface's registers: an answer to RECONCILE drops the blocks that arrived and sends the rest again in order, one with no route or none in time makes the peer unreachable, and its held requests are answered with 0x62 when they
are stale (R348 to R351). Routing entries are written and read through NI_RT, NODE is taken only while no link is up, NI_MAP until a tile first leaves OFF, and a replicated region's active buffer flips at the armed value (R330, R331, R357, R359). -/
def Obligations.ForwardingAndInterface : Prop :=
  (∀ (s : State) (f : FDie) (fp : FPacket) (rest : List FPacket), s.parts.fdiePkts.at f = fp :: rest →
    let p := if fp.via.isSome then { fp.pkt with ttl := fp.pkt.ttl - 1 } else fp.pkt
    let freed := match fp.via with | none => [] | some l => [(V .CR_FREED l (p.cls % 4), (s.vr .CR_FREED l (p.cls % 4) + p.flits) % 2 ^ 24)]
    let dead := fp.via.isSome = true ∧ p.ttl = 0
    let reply := fun (s : State) => if p.isResp then [] else
      let r := p.response 0x64 [] 0
      [(⟨{ r with ttl := 31, stamp := s.gtc % 2 ^ 32, d := bitsOf (s.vr .RT f r.dstNode) 47 28 }, none⟩ : FPacket)]
    let errs := (R .NI_ERR_NO_ROUTE f, satAdd Fld.NI_ERR_NO_ROUTE.width (s.rd .NI_ERR_NO_ROUTE f) 1)
    ∃ t, exec (.forwardPacket f) s = .next t
      ∧ (p.dstNode = s.node f → Effect s t freed [] { s.parts with fdiePkts := s.parts.fdiePkts.set f rest, niIn := s.parts.niIn.set f (s.parts.niIn.at f ++ [p]) })
      ∧ (p.dstNode ≠ s.node f → dead → Effect s t ([(R .NI_ERR_TTL f, satAdd Fld.NI_ERR_TTL.width (s.rd .NI_ERR_TTL f) 1), errs] ++ freed) [] t.parts ∧ t.parts.fdiePkts.at f = rest ++ reply s)
      ∧ (p.dstNode ≠ s.node f → ¬ dead → s.choose f p = .none → Effect s t (errs :: freed) [] t.parts ∧ t.parts.fdiePkts.at f = rest ++ reply s)
      ∧ (p.dstNode ≠ s.node f → ¬ dead → s.choose f p = .wait → Effect s t [] [] { s.parts with fdiePkts := s.parts.fdiePkts.set f (rest ++ [fp]) })
      ∧ (∀ l, p.dstNode ≠ s.node f → ¬ dead → s.choose f p = .link l →
          Effect s t freed [] { s.parts with fdiePkts := s.parts.fdiePkts.set f rest, linkTx := s.parts.linkTx.set l (s.parts.linkTx.at l ++ [⟨.pkt p, 0⟩]) }))
  ∧ (∀ (s : State) (f : FDie) (p : Packet) (rest : List Packet), s.parts.niIn.at f = p :: rest →
    let now := s.gtc % 2 ^ 32
    let rel := (p.stamp + p.d) % 2 ^ 32
    let late := before32 rel now = true
    let stale := late ∧ before32 now (rel + s.tStale f) = false
    let left := { s.parts with niIn := s.parts.niIn.set f rest }
    let counts := if before32 rel now then [(V .FR_LATE_REL, satAdd Var.FR_LATE_REL.width (s.vr .FR_LATE_REL) 1), (R .NI_LATE_COUNT f, satAdd Fld.NI_LATE_COUNT.width (s.rd .NI_LATE_COUNT f) 1)] else []
    ∃ t, exec (.packetArrival f) s = .next t
      ∧ (stale → Effect s t [(R .NI_ERR_STALE f, satAdd Fld.NI_ERR_STALE.width (s.rd .NI_ERR_STALE f) 1)] [] left)
      ∧ (¬ late → now ≠ rel → Effect s t [] [] { left with niHeld := s.parts.niHeld.set f (s.parts.niHeld.at f ++ [p]) })
      ∧ (¬ stale → late ∨ now = rel → p.isResp = false → s.refusal f true p = none → Effect s t counts [] { left with serving := s.parts.serving.set f (s.parts.serving.at f ++ [p]) })
      ∧ (∀ st, ¬ stale → late ∨ now = rel → p.isResp = false → s.refusal f true p = some st → s.Answered t f p st [] 0
          ∧ Within s t (fun x => x ∈ [V .FR_LATE_REL, R .NI_LATE_COUNT f, R .NI_ERR_REFUSED f] ∨ ∃ k, x = R .FS_FENCE_REFUSED k) (fun _ => False)))
  ∧ (∀ (s : State) (f : FDie) (p : Packet), (s.parts.niHeld.at f).find? (fun p => !before32 (s.gtc % 2 ^ 32) ((p.stamp + p.d) % 2 ^ 32)) = some p → p.isResp = false → s.refusal f true p = none →
    ∃ t, exec (.packetRelease f) s = .next t
      ∧ Effect s t [] [] { s.parts with niHeld := s.parts.niHeld.set f ((s.parts.niHeld.at f).erase p), serving := s.parts.serving.set f (s.parts.serving.at f ++ [p]) })
  ∧ (let held := fun (f : Nat) (x : Loc) => x = R .NI_STAT_HELD f ∨ x = R .NI_STAT_RECON_PEND f
  (∀ (s : State) (l : Link) (p : Packet) (rest : List Packet) (h : Handback), s.parts.responses.at (64 + l) = p :: rest → s.parts.handbacks.find l = some h → h.unreachable = false →
    let f := fdieOf l
    let keep := h.blocks.filter fun b => match b.seq with | some q => seqBefore (leNat (p.data.take 2)) q | none => true
    let pkts := keep.flatMap fun b => b.pkts
    ∃ t, exec (.reconcileAnswer l) s = .next t ∧ t.parts.responses.at (64 + l) = rest ∧ t.vr .RECON_AT l = 0
      ∧ (p.status ≠ 0 → t.parts.handbacks.find l = some { h with unreachable := true } ∧ t.parts.fdiePkts = s.parts.fdiePkts)
      ∧ (p.status = 0 → t.parts.handbacks.find l = none ∧ t.parts.fdiePkts.at f = s.parts.fdiePkts.at f ++ pkts.map fun q => ⟨{ q with resent := true }, none⟩)
      ∧ Within s t (fun x => held f x ∨ x ∈ [R .NI_RECON_UNREACH f, R .NI_RECON_COUNT f, R .NI_RECON_RESENT f, V .RECON_AT l]) (fun _ => False))
  ∧ (∀ (s : State) (l : Link) (h : Handback), s.parts.handbacks.find l = some h → h.unreachable = false → s.vr .RECON_AT l ≠ 0 → 1048576 ≤ (s.gtc + 2 ^ 64 - (s.vr .RECON_AT l - 1)) % 2 ^ 64 →
    ∃ t, exec (.reconcileTimeout l) s = .next t ∧ t.parts = { s.parts with handbacks := s.parts.handbacks.put l (some { h with unreachable := true }) } ∧ t.vr .RECON_AT l = 0
      ∧ Within s t (fun x => held (fdieOf l) x ∨ x = R .NI_RECON_UNREACH (fdieOf l) ∨ x = V .RECON_AT l) (fun _ => False))
  ∧ (∀ (s : State) (l : Link) (h : Handback), s.parts.handbacks.find l = some h → h.unreachable = true →
    let f := fdieOf l
    let reqs := (h.blocks.flatMap fun b => b.pkts).filter fun p => !p.isResp
    let due := reqs.find? fun p => !before32 (s.gtc % 2 ^ 32) ((p.stamp + p.d + s.tStale f) % 2 ^ 32)
    ∃ t, exec (.heldRequestAnswer l) s = .next t
      ∧ (∀ p, due = some p → s.Answered t f p 0x62 [] 0) ∧ (due = none → t.parts.fdiePkts = s.parts.fdiePkts) ∧ Within s t (held f) (fun _ => False))
  ∧ (∀ (s : State) (f : FDie) (v : W64), s.domOn (164 + f) = true → let i := v.toNat % 65536
    let n := bitsOf v.toNat 20 16
    (∃ t, exec (.routeEntryWrite f v) s = .next t ∧ Effect s t [(R .NI_RT_IDX_INDEX f, i), (V .RT f i, s.rd .NI_RT_DATA_ENTRY f % 2 ^ 49)] [] s.parts)
    ∧ (∃ t, exec (.routeEntryRead f v) s = .next t ∧ Effect s t [(R .NI_RT_IDX_INDEX f, i), (R .NI_RT_DATA_ENTRY f, s.vr .RT f i), (V .RT_READ_AT f, s.clock + 4)] [] s.parts)
    ∧ ∃ t, exec (.niCtlWrite f v) s = .next t
      ∧ Effect s t ((if s.linksUp then [] else (R .NI_CTL_NODE f, i) :: (tiles.filter fun k => homeF k == f).map fun k => (R .TC_ID_NODE k, i))
          ++ if 0x12 ≤ n then [(R .NI_CTL_STALE_LOG2 f, n)] else []) [] s.parts)
  ∧ (∀ (s : State) (f : FDie) (j : Fin 64) (v : W64), s.domOn (164 + f) = true → let x := v.toNat
    (s.vr .NI_MAP_SHUT = 1 → exec (.niMapWrite f j v) s = .next s)
    ∧ (s.vr .NI_MAP_SHUT ≠ 1 → ∃ t, exec (.niMapWrite f j v) s = .next t
      ∧ Effect s t ([(R .NI_MAP_PHYS f j, x % 64), (R .NI_MAP_VALID f j, bitOf x 6)] ++ if f.val = 0 ∧ testB x 6 ∧ x % 64 < 40 then [(R .TC_ID_LOGICAL (x % 64), j.val)] else []) [] s.parts)
    ∧ (s.rd .NI_REPL_SIZE_FLIP_PEND f j = 1 ∨ gtcBefore s.gtc x = false → ∃ t, exec (.niReplFlipWrite f j v) s = .next t ∧ Effect s t [(R .NI_STAT_REPL_REF f, 1)] [] s.parts)
    ∧ (s.rd .NI_REPL_SIZE_FLIP_PEND f j ≠ 1 → gtcBefore s.gtc x = true → ∃ t, exec (.niReplFlipWrite f j v) s = .next t
      ∧ Effect s t [(R .NI_REPL_FLIP_AT f j, x), (R .NI_REPL_SIZE_FLIP_PEND f j, 1)] [] s.parts))
  ∧ (∀ (s : State) (r : Fin 64), let armed := (List.range 4).filter fun f => s.rd .NI_REPL_SIZE_FLIP_PEND f r == 1 && s.gtc == s.rd .NI_REPL_FLIP_AT f r
    ∃ t, exec (.replFlipAt r) s = .next t
      ∧ Effect s t (armed.flatMap fun f => [(R .NI_REPL_SIZE_ACTIVE f r, 1 - s.rd .NI_REPL_SIZE_ACTIVE f r), (R .NI_REPL_SIZE_FLIP_PEND f r, 0)]) [] s.parts))

/-- Requests at their target: a LOAD answers with its bytes and 0x40 when any is poisoned; a STORE leaves its bytes and adds to the destination's counter where it counts; a FLAG leaves its value, with bit 63 set when tainted; an atomic answers with the
prior value and leaves its result; RECONCILE answers with the SEQ of the last block delivered (R339 to R341, R345, R349, R354).
Request trackers: a response completes the entry whose tag and operation it repeats and answers its owner; an entry past its limit ends with 0x62; a flag waits for every store before it, is sent, tainted by one that met poison, or ends unsent with the
status of the first that failed (R342 to R347, R352). No register and no byte of memory changes. -/
def Obligations.RemoteAccess : Prop :=
  (∀ (s : State) (pt : Fin 5) (p : Packet) (rest : List Packet), s.Served pt p rest → p.op = 0x01 →
    let a := s.flatOf p.addr p.len
    let r := s.readMem a p.len
    ∃ t, exec (.load pt) s = .next t ∧ s.Answered t pt p (if r.bad = [] then 0 else 0x40) r.data (poisonBits a r.bad) ∧ t.parts.serving.at pt = rest ∧ Within s t servePlaces (fun _ => False))
  ∧ (∀ (s : State) (pt : Fin 5) (p : Packet) (rest : List Packet), s.Served pt p rest → p.op = 0x02 → p.data.length = p.len → 0 < p.len →
    let a := s.flatOf p.addr p.len
    let counter := match targetOf p.addr p.span with | .tile l _ => if p.cntEn then s.physOf l else none | _ => none
    (a < stackTop → ∀ i < p.len, s.chFailed (a + i) = false) →
    ∃ t, exec (.store pt) s = .next t ∧ t.bytes a p.len = p.data ∧ s.Answered t pt p (if badGranules a p.len p.poison = [] then 0 else 0x40) [] 0 ∧ t.parts.serving.at pt = rest
      ∧ (∀ k c, t.rd .TC_CNT_VALUE k c = if counter = some k ∧ c = p.cnt % 32 then (s.rd .TC_CNT_VALUE k c + 1) % 2 ^ 32 else s.rd .TC_CNT_VALUE k c)
      ∧ Within s t servePlaces (fun x => a / 32 * 32 ≤ x ∧ x < (a + p.len + 31) / 32 * 32))
  ∧ (∀ (s : State) (pt : Fin 5) (p : Packet) (rest : List Packet), s.Served pt p rest → p.op = 0x03 →
    let a := s.flatOf p.addr 8
    let v := leNat (p.data.take 8)
    a % 8 = 0 → (a < stackTop → s.chFailed a = false) →
    ∃ t, exec (.flag pt) s = .next t ∧ t.num a 8 = (if p.taint then setB v 63 else v) ∧ s.Answered t pt p (if p.taint then 0x41 else 0) [] 0 ∧ t.parts.serving.at pt = rest
      ∧ Within s t servePlaces (fun x => a / 32 * 32 ≤ x ∧ x < a / 32 * 32 + 32))
  ∧ (∀ (s : State) (pt : Fin 5) (p : Packet) (rest : List Packet) (op : AmoOp), s.Served pt p rest →
    ∀ c ∈ [(Instr.amoAdd pt, AmoOp.add, 0x10), (.amoMin pt, .min, 0x11), (.amoMax pt, .max, 0x12), (.amoCas pt, .cas, 0x13)], op = c.2.1 → p.op = c.2.2 →
    let ty := atypeOf p.atype
    let n := atypeSize ty
    let a := s.flatOf p.addr n
    let x := leNat (if op = .cas then (p.data.drop n).take n else p.data.take n)
    let r := (amoMem a op ty x (leNat (p.data.take n)) s).1
    p.atype < 6 → a % n = 0 →
    ∃ t, exec c.1 s = .next t ∧ s.Answered t pt p r.1 r.2 (if r.1 = 0 then 0 else 1) ∧ t.parts.serving.at pt = rest
      ∧ (r.1 = 0 → t.num a n = amoValue op ty (leNat r.2) x (leNat (p.data.take n)) % 2 ^ (8 * n)) ∧ (r.1 ≠ 0 → t.mem = s.mem)
      ∧ Within s t servePlaces (fun y => a / 32 * 32 ≤ y ∧ y < a / 32 * 32 + 32))
  ∧ (∀ (s : State) (pt : Fin 5) (p : Packet) (rest : List Packet), s.parts.serving.at pt = p :: rest → p.op = 0x20 →
    ∃ t, exec (.reconcile pt) s = .next t ∧ s.Answered t pt p 0 (leBytes 2 (s.lastDelivered (p.addr % 64))) 0 ∧ t.parts.serving.at pt = rest ∧ Within s t (fun _ => False) (fun _ => False))
  ∧ (let idle := fun (s : State) (k : Tile) => ∀ x ∈ s.tracker k, x.sent = true ∨ x.pkt.op = 0x03
  let done := fun (s t : State) (k : Tile) (e : Track) (status : Nat) (data : List Byte) =>
    t.tracker k = (s.tracker k).filter (fun y => y.seq != e.seq)
      ∧ (e.ordersStore = true → t.parts.flagScope.at k = s.parts.flagScope.at k ++ [(e.seq, status)])
      ∧ (e.owner = .coreLoad → ∀ l ∈ t.parts.loads.at k, l.trk = e.seq + 1 → l.answered = true ∧ l.status = status ∧ l.data = leNat data)
      ∧ (e.owner = .coreStore → t.parts.loads = s.parts.loads ∧ t.parts.trkDone = s.parts.trkDone)
      ∧ Within s t (fun _ => False) (fun _ => False)
  (∀ (s : State) (k : Tile) (p : Packet) (rest : List Packet) (e : Track), s.parts.responses.at k = p :: rest →
    (s.tracker k).find? (fun e => e.sent && e.pkt.tag == p.tag && setB e.pkt.op 7 == p.op) = some e → idle s k →
    ∃ t, exec (.trackerResponse k) s = .next t ∧ t.parts.responses.at k = rest ∧ done s t k e p.status p.data)
  ∧ (∀ (s : State) (k : Tile) (e : Track), (s.tracker k).find? (fun e => (e.sent || e.local_) && !gtcBefore s.gtc e.expires) = some e → idle s k →
    ∃ t, exec (.trackerTimeout k) s = .next t ∧ done s t k e 0x62 [])
  ∧ (∀ (s : State) (k : Tile) (e : Track), (s.tracker k).find? (fun e => e.pkt.op == 0x03 && !e.sent) = some e → idle s k →
    (∀ x ∈ s.tracker k, x.seq < e.seq → x.ordersStore = false ∧ e.waitsFor x = false) →
    let scope := (s.parts.flagScope.at k).filter fun x => decide (x.1 < e.seq)
    ∃ t, exec (.flagSend k) s = .next t
      ∧ ((∀ x ∈ scope, flagFails x.2 = false) → e.local_ = true →
          let p := { e.pkt with taint := scope.any fun x => x.2 == 0x40 }
          t.parts.serving.at 4 = s.parts.serving.at 4 ++ [p] ∧ (∀ y ∈ t.tracker k, y.seq = e.seq → y.sent = true) ∧ (t.tracker k).length = (s.tracker k).length)
      ∧ ((∀ x ∈ scope, flagFails x.2 = false) → e.local_ = false →
          let p := { e.pkt with taint := scope.any fun x => x.2 == 0x40 }
          t.parts.fdiePkts.at (homeF k) = s.parts.fdiePkts.at (homeF k) ++ [⟨{ p with ttl := 31, stamp := s.gtc % 2 ^ 32, d := bitsOf (s.vr .RT (homeF k) p.dstNode) 47 28 }, none⟩]
            ∧ (∀ y ∈ t.tracker k, y.seq = e.seq → y.sent = true))
      ∧ (∀ x ∈ scope, flagFails x.2 = true → (∀ y ∈ scope, flagFails y.2 = true → x.1 ≤ y.1) → (∀ y ∈ scope, y.1 = x.1 → y = x) →
          t.tracker k = (s.tracker k).filter (fun y => y.seq != e.seq) ∧ (e.seq, x.2) ∈ t.parts.flagScope.at k)
      ∧ Within s t (fun _ => False) (fun _ => False)))

/-! ### Collectives (R360 to R381) -/

/-- A collective command takes the head of its tile's queue: refused 0x84 two cycles on, 0x8D at once under another epoch, 0x85 in the next cycle where the engine is off, held by speculation or an abort's stale time, else it runs with the next
SEQ of its communicator and its contribution in its work region (R363 to R366, R375, R379). A hold ends when the stale time has passed (R375). -/
def Obligations.CollectiveStarts : Prop :=
  (∀ (s : State) (k : Tile) (d : Desc) (rest : List Desc) (on : Bool),
    s.EngineHead k 2 d rest (s.vr .ENG_LAST k 2) (funcServes (s.rd .CE_STAT_FSTATE k) (s.rd .CE_STAT_PEND_EN k) (s.vr .FUNC_DIS_AT k 4) d.issued) on →
    ∀ c ∈ [(Instr.allreduce k, 1), (.reduceScatter k, 2), (.allgather k, 3), (.broadcast k, 4), (.barrier k, 5), (.permute k, 6)], d.opc = c.2 →
    let lv := (s.ceCtx (homeF k) (d.f 295 288) (s.logicalOf k)).named d
    let bad := (ceBadPlan (s.ceCtx (homeF k) (d.f 295 288) (s.logicalOf k)) d lv || s.ceBadAddr k d (lv.headD ⟨0, 1, 0, 1, 0, 1, false⟩)) = true
    let epoch := d.f 367 352 = s.rd .CE_EPOCH_EPOCH k
    let spec := s.readsCaldera k d (s.ceReads k d) = true
    let held := s.rd .CE_STAT_SPEC_HOLD k = 1 ∧ s.clock < s.vr .SPEC_RELEASE k
    let comm := d.f 295 288
    let seq := s.vr .CE_SEQ k comm
    let ends := fun (t : State) (done status : Nat) =>
      Effect s t [s.popTakes k 2 rest, (R .CE_STAT_BUSY k, 1), (R .CE_STAT_SPEC_HOLD k, 0)] [] (s.parts.starts k 2 rest ⟨d, s.clock, done, status, 0, 0, false⟩)
    ∃ t, exec c.1 s = .next t
      ∧ (bad → ends t (s.clock + 2) 0x84)
      ∧ (¬ bad → ¬ epoch → ends t s.clock 0x8D)
      ∧ (¬ bad → epoch → on = false → ends t (s.clock + 1) 0x85)
      ∧ (¬ bad → epoch → on = true → spec → Effect s t [(R .CE_STAT_SPEC_HOLD k, 1)] [] s.parts)
      ∧ (¬ bad → epoch → on = true → ¬ spec → ¬ held → s.clock < s.vr .CE_STALE k comm → Effect s t [(R .CE_STAT_STALE_HOLD k, 1)] [] s.parts)
      ∧ (¬ bad → epoch → on = true → ¬ spec → ¬ held → s.vr .CE_STALE k comm ≤ s.clock → s.vr .CE_LATE k comm = 0 → (s.vr .CE_REM k comm = 0 ∨ (s.vr .CE_REM k comm - 1) % 65536 ≠ seq) →
          s.parts.ceOut.at k = [] → (∀ x ∈ s.parts.trkDone.at k, x.owner ≠ .collective) → (∀ x ∈ s.parts.ceTok.at k, x.kind = 1 → x.comm = comm → x.seq = seq → x.digest = d.digest) →
          t.queue k 2 = rest ∧ t.rd .CE_STAT_BUSY k = 1 ∧ t.rd .CE_STAT_CUR_COMM k = comm ∧ t.rd .CE_STAT_CUR_SEQ k = seq % 65536 ∧ t.vr .CE_SEQ k comm = (seq + 1) % 65536
          ∧ (∃ r, t.ceRun k = some r ∧ r.desc = d ∧ r.start = s.clock ∧ r.seq = seq ∧ r.readySent = false ∧ r.pieces = 0 ∧ r.fin = none
              ∧ (let n := d.ceIn r.d
                 r.rblk = 0 → 0 < n → t.bytes (storeBase k + r.work + if d.opc = 3 then r.d * n else 0) n = (s.ceSource k (d.f 111 64) n).1))
          ∧ Within s t (collPlaces k) (fun x => storeBase k ≤ x ∧ x < storeBase (k + 1))))
  ∧ (∀ (s : State) (k : Tile) (d : Desc) (rest : List Desc), s.queue k 2 = d :: rest → s.vr .CE_STALE k (d.f 295 288) ≤ s.clock →
    ∃ t, exec (.staleHoldEnd k) s = .next t ∧ Effect s t [(R .CE_STAT_STALE_HOLD k, 0)] [] s.parts)

/-- A collective in progress: READY goes to its senders 8 cycles after the start, a piece of data goes when its paced cycle and its receiver's READY have come, and final pieces are counted (R370, R371). It aborts where something awaited passes its limit or
software asks (R374, R375), and completes in its cycle with its status, the lateness and, after a barrier with EPOCH_ADV, the new epoch (R364, R371, R377, R379). -/
def Obligations.CollectiveRuns : Prop :=
  (∀ (s : State) (a : Fin 44) (r : CeRun), s.CeCalm a r →
    ∃ t r', exec (.collectivePieceSend a) s = .next t ∧ t.ceRun a = some r' ∧ r'.desc = r.desc ∧ r'.start = r.start ∧ r'.seq = r.seq
      ∧ (r.start + 8 ≤ s.clock → r'.readySent = true)
      ∧ (∀ m ms, a.val < 40 → r.readySent = false → r.start + 8 ≤ s.clock → r.readyTo = m :: ms → s.trackerFull a = false →
          ∃ x ∈ t.tracker a, x.owner = .collective ∧ x.pkt.op = 0x30 ∧ x.pkt.cls = 2
            ∧ x.pkt.data = tokenBytes 1 (r.desc.f 295 288) r.seq r.member (if r.rblk = 0 then 0 else 1) (0x010000000000 + s.logicalOf a * 0x1000000 + r.work) r.desc.digest)
      ∧ (∀ (o : CeOp) (os : List CeOp) (y : CeTok), a.val < 40 → r.readySent = true → r.ops = o :: os → o.act = .send → o.fin = false → o.cnt = 0 → 0 < o.n → (∀ x ∈ r.ops, x.got = []) → s.trackerFull a = false →
          s.readyOf a r o.peer = some y → y.b6 % 2 = 0 → r.rblk = 0 → max (r.start + o.at_ + r.late) y.at_ ≤ s.clock →
          let len := min o.n (4096 - (y.base + o.lo) % 4096)
          ∃ x ∈ t.tracker a, x.owner = .collective ∧ x.pkt.op = 0x04 ∧ x.pkt.cls = 0 ∧ x.pkt.addr = (y.base + o.lo) % 2 ^ 48 ∧ x.pkt.len = len ∧ x.pkt.data = (s.ceRead a r o.lo len).1)
      ∧ (∀ p c, r.piece r.pieces = some p → r.finalAt p.1 p.2.1 p.2.2.2 = some c → c < s.clock → r.pieces < r'.pieces)
      ∧ (a.val < 40 → r.desc.b 311 = true → t.rd .TC_CNT_VALUE a (r.desc.f 321 317) % 2 ^ 32 = (s.rd .TC_CNT_VALUE a (r.desc.f 321 317) + (r'.pieces - r.pieces)) % 2 ^ 32)
      ∧ Within s t (fun x => collPlaces a x) (fun x => a.val < 40 ∧ storeBase a ≤ x))
  ∧ (∀ (s : State) (a : Fin 44) (r : CeRun), s.ceRun a = some r → s.perform (ceGo a) = s → r.fin = none → (∃ x ∈ s.ceAwaits a r, r.start + x + r.late + s.ceLimit a ≤ s.clock) →
    ∃ t, exec (.collectiveTimeout a) s = .next t ∧ s.CeAborted t a r 1 r.member)
  ∧ (∀ (s : State) (k : Tile) (r : CeRun), s.ceRun k = some r → s.domOn k = true → ∃ t, exec (.collectiveSoftwareAbort k) s = .next t ∧ s.CeAborted t k r 4 r.member)
  ∧ (∀ (s : State) (a : Fin 44) (r : CeRun), s.ceRun a = some r → s.perform (ceGo a) = s → r.fin = none → (∀ o ∈ r.ops, o.fin = true) →
    (r.desc.opc = 6 → r.acks = 0 ∧ r.desc.f 431 400 ≤ r.landed) →
    let due := r.start + r.eLast + r.late
    let more := r.lastAt - due
    let c := max (due + more + 32) (if r.desc.opc = 6 then r.ackAt else 0)
    let st := s.ceStatus a r
    c ≤ s.clock →
    ∃ t, exec (.collectiveCompletion a) s = .next t ∧ t.ceRun a = none
      ∧ (a.val < 40 → t.running a 2 = none ∧ t.vr .ENG_LAST a 2 = c % 2 ^ 64 ∧ t.rd .CE_STAT_BUSY a = 0 ∧ t.rd .CE_STAT_LAST_STATUS a = st.1 ∧ t.rd .CE_CNT_DONE a = satAdd Fld.CE_CNT_DONE.width (s.rd .CE_CNT_DONE a) 1
          ∧ (∀ e ∈ s.completes a 2 r.desc st.1 (r.val0 0 0) (min (r.late + more) (2 ^ 32 - 1) + min st.2 (2 ^ 32 - 1) * 2 ^ 32) (c - r.start) false, t.get e.1 = e.2 % 2 ^ e.1.width)
          ∧ t.rd .CE_EPOCH_EPOCH a = if r.desc.opc = 5 ∧ r.desc.b 310 = true ∧ st.1 = 0 then r.desc.f 383 368 else s.rd .CE_EPOCH_EPOCH a)
      ∧ (40 ≤ a.val → t.rd .CE_TRIG_CTL_STATUS 0 (a.val - 40) = st.1 ∧ t.rd .CE_TRIG_CTL_STATE 0 (a.val - 40) = 3)
      ∧ Within s t (collPlaces a) (fun _ => False))
  ∧ (∀ (s : State) (k : Tile) (q : Running), s.ceRun k = none → s.running k 2 = some q → s.parts.ceOut.at k = [] → q.done ≤ s.clock →
    ∃ t, exec (.collectiveCompletion (k.castLE (by decide))) s = .next t
      ∧ Effect s t ([(V .ENG_LAST k 2, q.done), (R .CE_STAT_BUSY k, 0), (R .CE_STAT_LAST_STATUS k, q.status), (R .CE_STAT_LAST_TAG k, q.desc.f 47 32), (R .CE_CNT_DONE k, satAdd Fld.CE_CNT_DONE.width (s.rd .CE_CNT_DONE k) 1)]
          ++ s.completes k 2 q.desc q.status q.val0 q.val1 (q.done - q.start) false) [] { s.parts with running := s.parts.running.put (eKey k 2) none })

/-- Collective traffic at its target: data that a run awaits is taken in its turn as the operand its step names, any other lands as a store, and a permutation counts it (R367, R370, R372); a token is kept for its run, an ABORT stops the collective
it names, comes late or is remembered, and a READY of another plan aborts (R370, R374 to R376). A slot of the triggered agent starts in the cycle after GO, or where the GTC meets its time (R380). -/
def Obligations.CollectiveTraffic : Prop :=
  (∀ (s : State) (pt : Fin 5) (p : Packet) (rest : List Packet) (l off : Nat) (k : Tile), s.parts.serving.at pt = p :: rest → p.op = 0x04 → p.len = p.data.length → (pt = 4 → s.refusal 0 false p = none) →
    targetOf p.addr (max 1 p.data.length) = .tile l off → l ≠ 63 → s.physOf l = some k.val →
    let n := p.data.length
    let entry := p.srcNode + 65536 * p.srcTile
    let status := if p.poison = 0 then 0 else 0x40
    let other := ∀ r, s.ceRun k = some r → s.ceAwaiting r off n entry = none
    ∃ t, exec (.ceData pt) s = .next t ∧ t.parts.serving.at pt = rest ∧ s.Answered t pt p status [] 0
      ∧ (other → t.bytes (storeBase k + off) n = p.data
          ∧ ∀ r, s.ceRun k = some r → t.ceRun k = some (if r.desc.opc = 6 ∧ r.work ≤ off ∧ off < r.work + r.desc.f 431 400 then { r with landed := r.landed + n, ackAt := s.clock } else r))
      ∧ (∀ r i lo o, s.ceRun k = some r → s.ceAwaiting r off n entry = some (i, lo) → r.ops[i]? = some o → o.cnt + n < o.n →
          ∃ r' o', t.ceRun k = some r' ∧ r'.ops[i]? = some o' ∧ o'.cnt = o.cnt + n ∧ o'.fin = o.fin ∧ o'.reg = s.clock ∧ o'.got.length = o.got.length + 1)
      ∧ (∀ r i lo o, s.ceRun k = some r → s.ceAwaiting r off n entry = some (i, lo) → r.ops[i]? = some o → o.cnt + n = o.n → o.got = [] → o.fin = false → r.rblk = 0 → 0 < n → n % 8 = 0 →
          (∀ b ∈ r.before i o, b.fin = true) → (∀ j o', r.ops[j]? = some o' → j ≠ i → o'.fin = true ∨ o'.receives = false ∨ o'.cnt ≠ o'.n) →
          let own := (s.ceRead k r lo n).1
          let dt := r.desc.f 299 296
          let rop := r.desc.f 301 300
          (o.act = .left → t.bytes (storeBase k + off) n = ceBytes dt rop p.data own) ∧ (o.act = .right → t.bytes (storeBase k + off) n = ceBytes dt rop own p.data)
            ∧ (o.act = .take → t.bytes (storeBase k + off) n = p.data))
      ∧ Within s t (fun x => ofTile k x ∨ errorCounts x) (fun x => storeBase k ≤ x))
  ∧ (∀ (s : State) (pt : Fin 5) (p : Packet) (rest : List Packet) (l off : Nat) (k : Tile), s.parts.serving.at pt = p :: rest → p.op = 0x30 → targetOf p.addr 1 = .tile l off → l ≠ 63 → s.physOf l = some k.val →
    s.tileReset (if pt.val = 4 then homeF k else pt.val) l k = false →
    let f := fun lo n => leNat ((p.data.drop lo).take n)
    let x : CeTok := ⟨f 0 1, f 1 1, f 2 2, f 4 2, f 6 1, f 8 6, f 16 4, s.clock⟩
    let det := f 8 2
    let noted := [(V .CE_LATE k x.comm, 1 + x.seq + 2 ^ 17 * det), (R .CE_CNT_LATE k, satAdd Fld.CE_CNT_LATE.width (s.rd .CE_CNT_LATE k) 1)]
    ∃ t, exec (.ceToken pt) s = .next t ∧ t.parts.serving.at pt = rest
      ∧ (x.kind ≠ 2 ∧ s.ceRun k = none → s.Answered t pt p 0 [] 0)
      ∧ (x.kind ≠ 2 → s.ceRun k = none → t.parts.ceTok.at k = s.parts.ceTok.at k ++ [x] ∧ Within s t (fun _ => False) (fun _ => False))
      ∧ (∀ r, x.kind = 1 → s.ceRun k = some r → x.comm = r.desc.f 295 288 → x.seq = r.seq → x.digest ≠ r.desc.digest → s.CeAborted t k r 3 r.member)
      ∧ (∀ r, x.kind = 2 → s.ceRun k = some r → r.fin = none → r.desc.f 295 288 = x.comm → r.seq = x.seq → s.CeAborted t k r 5 det)
      ∧ (x.kind = 2 → s.ceRun k = none → seqBefore x.seq (s.vr .CE_SEQ k x.comm) = true → Effect s t noted [] t.parts)
      ∧ (x.kind = 2 → s.ceRun k = none → seqBefore x.seq (s.vr .CE_SEQ k x.comm) = false → ¬ (s.vr .CE_ABSEQ k x.comm = x.seq + 1 ∧ s.clock < s.vr .CE_STALE k x.comm) →
          Effect s t [(V .CE_REM k x.comm, 1 + x.seq + 2 ^ 17 * det)] [] t.parts))
  ∧ (∀ (s : State) (j : Fin 4), s.domOn 164 = true → s.rd .CE_TRIG_CTL_STATE 0 j ≠ 2 →
    let d := s.slotDesc j
    let comm := d.f 295 288
    let c := s.ceCtx 0 comm 63
    let good := d.opc ∈ [1, 4, 5] ∧ ceBadPlan c d (c.named d) = false
    let starts := fun (t : State) (at_ : Nat) =>
      let start := max at_ (s.vr .CE_STALE 40 comm)
      let r := s.ceNew (40 + j.val) d start (s.vr .CE_SEQ 40 comm) []
      (good → Effect s t [(R .CE_TRIG_CTL_STATE 0 j, 2), (V .CE_SEQ 40 comm, r.seq + 1)] [] { s.parts with ce := s.parts.ce.put (40 + j.val) (some r) })
        ∧ (¬ good → Effect s t [(R .CE_TRIG_CTL_STATE 0 j, 2)] [] { s.parts with ce := s.parts.ce.put (40 + j.val) (some { r with ops := [], readyTo := [], fin := some (start + 2, 0x84) }) })
    (∃ t, exec (.triggeredGo j) s = .next t ∧ starts t (s.clock + 1))
    ∧ (s.gtc = s.rd .CE_TRIG_AT_AT 0 j → s.gtc ≠ 0 → ∃ t, exec (.triggeredAt j) s = .next t ∧ starts t s.clock))

/-! ### Host mailboxes (R422 to R441, R509) -/

/-- Commands that only report: an acknowledged GET_VERSION, GET_STATUS, GET_FABRIC_MAP, FUNC_GET, TELEM_READ, RIND_READ or RESTORE_RESULT returns its mailbox with status 0 and the response of Table 18.6, and changes nothing else. An unsampled group
and a record never written answer zeros, and an unknown restore 0x84 (log entries 5, 56, 59).
Commands that set registers: POWER_CAP, NODE_SET (0x8C while a link is in ACTIVE or RETRAIN), ROUTE_WRITE in all four interfaces with the new ROUTES in the set-up record, LINK_CTL, TIME_CTL, REPL_SET and REPL_FLIP on all four interfaces, each returned
with its response (Table 18.6, R330, R355, R357, R396). -/
def Obligations.HostQueriesAndSettings : Prop :=
  (∀ (s : State) (m : Fin 64), let a := s.mbArg m
    let sampled := (s.parts.telem.find (a 0 2)).getD ⟨(s.groupWords (a 0 2)).map fun _ => 0, 0⟩
    let links_ := links.flatMap fun l => leBytes 1 (s.rd .FL_STAT_STATE l) ++ leBytes 1 (s.rd .FL_STAT_WIDTH l) ++ leBytes 1 (s.rd .FL_LAT_CLASS l) ++ leBytes 1 (s.rd .FL_STAT_CAUSE l)
      ++ leBytes 2 (s.rd .FL_PEER_NODE l) ++ leBytes 1 (s.rd .FL_PEER_FDIE l) ++ leBytes 1 (s.rd .FL_PEER_PORT l)
    let doms := (List.range 174).flatMap fun d => leBytes 1 (packFields [(0, s.dom d), (2, s.rd .PM_DOM_PEND_EN 0 d), (3, s.rd .PM_DOM_PEND_DIS 0 d)])
    let index := fun (i : Nat) => if i < 1048576 then i else 4096 + (i - 1048576)
    let offender := fun (x : Nat × Nat × Nat × Nat) => leBytes 1 x.1 ++ leBytes 1 x.2.1 ++ leBytes 2 x.2.2.1 ++ leBytes 8 x.2.2.2 ++ leBytes 4 0
    (s.serves m 0x0001 = true → ∃ t, exec (.getVersion m) s = .next t
      ∧ s.Returns t m 0 (leBytes 2 0x0301 ++ leBytes 2 s.inService.length ++ sha3_256 s.fwImage ++ (List.range 64).flatMap fun l => leBytes 1 (s.vbeatsOf l)) [] s.parts)
    ∧ (s.serves m 0x0002 = true → ∃ t, exec (.getStatus m) s = .next t ∧ s.Returns t m 0 (leBytes 8 (s.regWord .mb 0 "MB_STAT") ++ doms) [] s.parts)
    ∧ (s.serves m 0x0003 = true → ∃ t, exec (.getFabricMap m) s = .next t ∧ s.Returns t m 0 (leBytes 8 (s.node 0) ++ links_) [] s.parts)
    ∧ (∀ f, s.serves m 0x0102 = true → s.funcOf (a 0 2) = some f → ∃ t, exec (.funcGet m) s = .next t ∧ s.Returns t m 0 (leBytes 1 (s.fstate f) ++ leBytes 1 (s.pendEn f + 2 * s.pendDis f)) [] s.parts)
    ∧ (s.serves m 0x0401 = true → ∃ t, exec (.telemRead m) s = .next t ∧ s.Returns t m 0 (sampled.words.flatMap (leBytes 8) ++ leBytes 8 sampled.gtc) [] s.parts)
    ∧ (s.serves m 0x0402 = true → ∃ t, exec (.rindRead m) s = .next t ∧ s.Returns t m 0 ((List.range (a 4 2)).flatMap fun k => s.recordBytes (index (a 0 4 + k))) [] s.parts)
    ∧ (∀ r, s.serves m 0x0309 = true → s.parts.restore = some r → r.jobId = a 0 8 → ∃ t, exec (.restoreResult m) s = .next t
      ∧ s.Returns t m 0 (leBytes 1 r.status ++ leBytes 3 0 ++ leBytes 4 r.bad.length ++ leBytes 8 0 ++ (r.bad.take 64).flatMap offender) [] s.parts)
    ∧ (s.serves m 0x0309 = true → (∀ r, s.parts.restore = some r → r.jobId ≠ a 0 8) → ∃ t, exec (.restoreResult m) s = .next t ∧ s.Returns t m 0x84 [] [] s.parts))
  ∧ (∀ (s : State) (m : Fin 64), let a := s.mbArg m
    let faces := ∀ f < 4, s.domOn (164 + f) = true
    (s.serves m 0x0103 = true → ∃ t, exec (.powerCap m) s = .next t ∧ s.Returns t m 0 (leBytes 2 (a 0 2 % 2 ^ Fld.PM_CAP_WATTS.width)) [(R .PM_CAP_WATTS, a 0 2)] s.parts)
    ∧ (s.serves m 0x0201 = true → s.linksUp = true → ∃ t, exec (.nodeSet m) s = .next t ∧ s.Returns t m 0x8C [] [] s.parts)
    ∧ (s.serves m 0x0201 = true → s.linksUp = false → faces → ∃ t, exec (.nodeSet m) s = .next t
      ∧ s.Returns t m 0 [] (((List.range 4).map fun f => (R .NI_CTL_NODE f, a 0 2)) ++ tiles.map fun k => (R .TC_ID_NODE k, a 0 2)) s.parts)
    ∧ (s.serves m 0x0202 = true → let n := a 0 2
      let dst := fun i => a (16 + 16 * i) 2
      ∃ t, exec (.routeWrite m) s = .next t ∧ t.IsReturned m 0 (leBytes 2 n)
        ∧ (∀ f < 4, ∀ i < n, (∀ j < n, i < j → dst j ≠ dst i) → t.vr .RT f (dst i) = a (16 + 16 * i + 8) 8 % 2 ^ 49)
        ∧ t.parts = { s.parts with setup := s.parts.setup.map fun r => { r with routes := t.routesDigest } }
        ∧ Within s t (fun x => mboxPlaces x ∨ ∃ f < 4, ∃ i < n, x = V .RT f (dst i)) (mboxBytes m))
    ∧ (s.serves m 0x0203 = true → a 0 1 < 4 → a 1 1 < 16 → let l := 16 * a 0 1 + a 1 1
      let v := a 4 4
      ∃ t, exec (.linkCtl m) s = .next t ∧ t.IsReturned m 0 (leBytes 1 (t.linkState l))
        ∧ (a 2 1 = 0 → (s.linkState l = 8 → LinkIs t l 1 0) ∧ (s.linkState l = 5 → s.vr .LINK_DRAIN l = 0 → t.vr .LINK_DRAIN l = 2))
        ∧ (a 2 1 = 1 → s.Returns t m 0 (leBytes 1 (s.linkState l)) [(R .FL_CTL_LANE_MASK l, v)] s.parts)
        ∧ (a 2 1 = 2 → s.Returns t m 0 (leBytes 1 (s.linkState l)) [(R .FL_CTL_MAX_W l, v)] s.parts)
        ∧ (a 2 1 = 3 → s.Returns t m 0 (leBytes 1 (s.linkState l)) [(R .FL_PEER_EXP_NODE l, bitsOf v 15 0), (R .FL_PEER_EXP_FDIE l, bitsOf v 17 16), (R .FL_PEER_EXP_PORT l, bitsOf v 21 18)] s.parts))
    ∧ (s.serves m 0x0204 = true → s.domOn 171 = true → a 0 1 < 4 → ∃ t, exec (.timeCtl m) s = .next t ∧ t.IsReturned m 0 (leBytes 8 (t.regWord .gt 0 "GT_STAT"))
        ∧ t.rd .GT_CTL_MODE = a 0 1 ∧ t.rd .GT_CTL_SYNC_OUT_EN = a 1 1 % 2 ∧ t.rd .GT_CABLE_DLY_DLY = a 2 2 % 2 ^ Fld.GT_CABLE_DLY_DLY.width
        ∧ (a 0 1 ≠ s.rd .GT_CTL_MODE → t.rd .GT_STAT_LOCKED = a 0 1 % 2 ∧ t.rd .GT_STAT_HOLDOVER = 1 - a 0 1 % 2)
        ∧ Within s t (fun x => mboxPlaces x ∨ x ∈ [R .GT_CTL_MODE, R .GT_CTL_SYNC_OUT_EN, R .GT_CTL_OVR_IRQ, R .GT_STAT_LOCKED, R .GT_STAT_HOLDOVER, R .GT_STAT_HOPS, R .GT_STAT_LOCK_LOST, V .FIRST_LOCK, V .SYNC_RUN, V .FR_UNLOCKED,
            R .GT_CABLE_DLY_DLY]) (mboxBytes m))
    ∧ (s.serves m 0x0205 = true → faces → ∃ t, exec (.replSet m) s = .next t
      ∧ s.Returns t m 0 [] ((List.range 4).flatMap fun f => [(R .NI_REPL_HOME_NODE f (a 0 1), a 2 2), (R .NI_REPL_HOME_BASE f (a 0 1), a 4 4), (R .NI_REPL_SIZE_UNITS f (a 0 1), a 8 2), (R .NI_REPL_BUF_BUF0 f (a 0 1), a 12 4),
          (R .NI_REPL_BUF_BUF1 f (a 0 1), a 16 4), (R .NI_REPL_SIZE_VALID f (a 0 1), a 20 1)]) s.parts)
    ∧ (s.serves m 0x0206 = true → faces → (∀ f < 4, s.rd .NI_REPL_SIZE_FLIP_PEND f (a 0 1) ≠ 1) → gtcBefore s.gtc (a 8 8) = true → ∃ t, exec (.replFlip m) s = .next t
      ∧ s.Returns t m 0 [] ((List.range 4).flatMap fun f => [(R .NI_REPL_FLIP_AT f (a 0 1), a 8 8), (R .NI_REPL_SIZE_FLIP_PEND f (a 0 1), 1)]) s.parts))

/-- Serving the host: a handover gives the firmware the mailbox or is counted as a violation (R427, R429); a management period acknowledges every mailbox handed over, returning with 0x84 what R433 says, and starts work in class order (R422, R424, R430);
telemetry samples every group (R509); FUNC_SET returns at once, with 0x83, or at the end of the transition it starts (R434); DORMANT is refused while a job is set up or turns domains 0 to 79 off (R473); events go to the first mailbox that waits, and its
time out returns it (R436, R437). -/
def Obligations.HostService : Prop :=
  (∀ (s : State) (m : Fin 64) (port : Fin 2) (seq : BitVec 8) (cmd : BitVec 16) (ifver : BitVec 8) (len : BitVec 16) (tag : W64) (payload : List Byte), s.domOn (172 + port) = true → s.domOn 169 = true →
    let c := Instr.mailboxHandover m port seq cmd ifver len tag payload
    let b := mboxBase m
    let mine := bitOf (s.rd .MB_PORT_MAP_PORT) m = port.val
    (¬ mine → ∃ t, exec c s = .next t ∧ Effect s t [(R .MB_VIOL_PORT, satAdd Fld.MB_VIOL_PORT.width (s.rd .MB_VIOL_PORT) 1)] [] s.parts)
    ∧ (mine → s.mbOwn m = true → ∃ t, exec c s = .next t ∧ Effect s t [(R .MB_VIOL_HOST_WR, satAdd Fld.MB_VIOL_HOST_WR.width (s.rd .MB_VIOL_HOST_WR) 1)] [] s.parts)
    ∧ (mine → s.mbOwn m = false → ∃ t, exec c s = .next t
      ∧ Effect s t [(R .MB_OWN_OWN, setB (s.rd .MB_OWN_OWN) m), (R .MB_PEND_PEND, setB (s.rd .MB_PEND_PEND) m), (V .MB_AT 0 m, s.clock), (V .MB_BEGUN 0 m, 0)]
          (storedAt (b + 64) (payload.take 4032) ++ storedAt (b + 8) (leBytes 8 len.toNat) ++ storedAt (b + 16) (leBytes 16 0) ++ storedAt (b + 32) (leBytes 8 tag.toNat)
            ++ storedAt b (leBytes 8 (1 + seq.toNat * 2 ^ 8 + cmd.toNat * 2 ^ 16 + ifver.toNat * 2 ^ 40))) s.parts))
  ∧ (∀ (s : State) (n : BitVec 16), s.periodDue = true →
    let refused := fun (m : Nat) => cmdKnown (s.mbCmd m) = false ∨ 4032 < s.mbReqLen m ∨ s.num (mboxBase m + 5) 1 ≠ 3 ∨ s.reqBad m = true
    ∃ t, exec (.managementPeriod n) s = .next t ∧ t.vr .PERIOD_AT = (s.gtc + 1) % 2 ^ Var.PERIOD_AT.width
      ∧ (∀ m < 64, testB (s.rd .MB_PEND_PEND) m = true → t.mbAck m = true ∧ t.num (mboxBase m + 16) 8 = s.gtc % 2 ^ 64
          ∧ (refused m → t.mbOwn m = false ∧ t.num (mboxBase m + 4) 1 = 0x84) ∧ (¬ refused m → t.mbOwn m = s.mbOwn m ∧ testB (t.rd .MB_PEND_PEND) m = false))
      ∧ (∀ m < 64, testB (s.rd .MB_PEND_PEND) m = false → ∀ i < 0x1000, t.byte (mboxBase m + i) = s.byte (mboxBase m + i))
      ∧ t.parts.work = ((List.range 4).flatMap fun c => s.parts.work.filter fun w => classOrder w == c).drop n.toNat
      ∧ Within s t (fun x => mboxPlaces x ∨ x ∈ [R .MB_STAT_TELEM_SHIFT, R .MB_STAT_BUSY, V .CALM, V .PERIOD_AT, V .PERIOD_CNT, R .MB_ACK_MAX_CYCLES, V .FREE_CTR]) (fun x => ∃ m < 64, mboxBytes m x))
  ∧ (∀ s : State, s.fwReady = true → 8 * 2 ^ s.rd .MB_STAT_TELEM_SHIFT ≤ s.vr .PERIOD_CNT →
    ∃ t, exec .telemetrySample s = .next t ∧ t.vr .PERIOD_CNT = 0 ∧ (∀ g, g < 6 ∨ (256 ≤ g ∧ g < 256 + s.inService.length) → t.parts.telem.find g = some ⟨s.groupWords g, s.gtc⟩)
      ∧ Within s t (fun x => x = V .PERIOD_CNT) (fun _ => False))
  ∧ (∀ (s : State) (m : Fin 64) (f : Func), s.serves m 0x0101 = true → s.vr .MB_BEGUN 0 m ≠ 1 → s.funcOf (s.mbArg m 0 2) = some f →
    let on := (s.mbArg m 2 1 == 1) = true
    ∃ t, exec (.funcSet m) s = .next t
      ∧ (s.fstate f = 1 ∨ s.fstate f = 3 → t.IsReturned m 0x83 (leBytes 1 (s.fstate f)) ∧ t.fstate f = s.fstate f ∧ t.parts.funcWait = s.parts.funcWait ++ [⟨f, s.mbArg m 0 2, none⟩])
      ∧ (s.fstate f = 2 → on → s.pendEn f = 0 → s.pendDis f = 0 → t.IsReturned m 0 (leBytes 1 2) ∧ t.fstate f = 2)
      ∧ (s.fstate f = 0 → ¬ on → s.pendEn f = 0 → s.pendDis f = 0 → t.IsReturned m 0 (leBytes 1 0) ∧ t.fstate f = 0)
      ∧ (s.fstate f = 0 → on → staggered f = false → (∀ k, funcTile f = some k → s.dom k = 2) → t.fstate f = 1 ∧ t.vr .MB_BEGUN 0 m = 1 ∧ t.mbOwn m = true
          ∧ t.parts.funcWait = s.parts.funcWait ++ [⟨f, s.mbArg m 0 2, some m⟩]))
  ∧ (∀ (s : State) (m : Fin 64), s.serves m 0x0104 = true → s.vr .MB_BEGUN 0 m ≠ 1 →
    (s.jobActive = true → ∃ t, exec (.dormant m) s = .next t ∧ s.Returns t m 0x8C [] [] s.parts)
    ∧ (s.jobActive = false → (∃ d < 80, s.dom d = 2) → ∃ t, exec (.dormant m) s = .next t ∧ t.rd .PM_STAT_PSTATE = 5 ∧ t.vr .MB_BEGUN 0 m = 1 ∧ t.mbOwn m = true
        ∧ (∀ d, 40 ≤ d → d < 80 → s.dom d = 2 → t.dom d = 3) ∧ (∀ d < 40, s.dom d = 2 → s.dom (40 + d) = 0 → t.dom d = 3)
        ∧ (∀ d < 40, s.dom d = 2 → s.dom (40 + d) ≠ 0 → t.dom d = 2 ∧ t.rd .PM_DOM_PEND_DIS 0 d = 1)))
  ∧ (∀ (s : State) (m : Fin 64), s.waitsEvents m = true →
    let lost := s.vr .EVENTS_LOST
    let head := if lost = 0 then [] else [(⟨s.gtc, 0x000D, 0, 0xFF, [lost]⟩ : Event)]
    let es := (head ++ s.parts.events).take 125
    let filled := fun (t : State) => s.Returns t m 0 (leBytes 32 es.length ++ es.flatMap Event.bytes) [(V .EVENTS_LOST, 0)] { s.parts with events := s.parts.events.drop (es.length - head.length) }
    (s.firstWaiter m = true → s.parts.events ≠ [] ∨ lost ≠ 0 → ∃ t, exec (.eventWait m) s = .next t ∧ filled t)
    ∧ (s.mbArg m 0 8 ≠ 0 → s.ackGtc m + s.mbArg m 0 8 ≤ s.gtc → ∃ t, exec (.eventWaitTimeout m) s = .next t ∧ filled t))

/-! ### Jobs (R382 to R400, R442, R443, R464 to R466) -/

/-- JOB_SETUP refuses with 0x8C, 0x84, 0x8E or 0x8F in this order, else it keeps the job record, makes the communicator contexts of all four interfaces valid for the job, writes the four stream images of its curd's stack region, keeps the set-up record,
extends measurement slot 3 and returns READY_AT, STREAMS_AT and whether the set-up was reused (R384, R388, R396 to R399, R442, R485); SETUP_READY follows at those times. That reuse is an operand is the model's choice (log entry 61). -/
def Obligations.JobSetup : Prop :=
  (∀ (s : State) (m : Fin 64) (agree : Bool), s.serves m 0x0301 = true →
    let a := s.mbArg m
    let y := s.layoutAt (a 32 8 % 2 ^ 48)
    let j := a 16 1
    let bad := s.layoutInvalid y (s.reqNodes m) = true
    let tooBig := y.overLimit (a 20 4) (a 24 4) = true
    let c := Instr.jobSetup m agree
    (s.jobReady = false → ∃ t, exec c s = .next t ∧ s.Returns t m 0x8C [] [] s.parts)
    ∧ (s.jobReady = true → (s.jobAt j).isSome = true → ∃ t, exec c s = .next t ∧ s.Returns t m 0x84 [] [] s.parts)
    ∧ (s.jobReady = true → s.jobAt j = none → bad → ∃ t, exec c s = .next t ∧ s.Returns t m 0x8E [] [] s.parts)
    ∧ (s.jobReady = true → s.jobAt j = none → ¬ bad → tooBig → ∃ t, exec c s = .next t ∧ s.Returns t m 0x8F [] [] s.parts)
    ∧ (s.jobReady = true → s.jobAt j = none → j < 64 → ¬ bad → ¬ tooBig →
      let reused := s.reuses agree
      let x := s.newJob m y reused
      let src := a 56 8 % 2 ^ 48
      ∃ t, exec c s = .next t ∧ t.parts.jobs.find j = some x ∧ t.parts.setup = some ⟨nodesetOf (s.reqNodes m), s.routesDigest⟩
        ∧ t.IsReturned m 0 (leBytes 8 x.readyAt ++ leBytes 8 x.streamsAt ++ leBytes 1 (if reused then 1 else 0))
        ∧ t.meas 3 = sha3_256 (s.meas 3 ++ sha3_256 (s.bytes (mboxBase m + 64) (s.mbReqLen m) ++ y.bytes))
        ∧ (reused = false → src + 65536 ≤ stackTop → ∀ n < min 256 (a 64 2), ∀ f < 4, t.num (ctxAddr f n) 8 = putBits (setB (s.num (src + 256 * n) 8) 0) 1 6 j
            ∧ t.bytes (ctxAddr f n + 8) 248 = s.bytes (src + 256 * n + 8) 248)
        ∧ (∀ n e, a 17 1 = 0 → y.mine (s.node 0) = [(n, e)] → e.stkBase * 65536 + 621824 ≤ stackTop → (∀ i < 621824, s.chFailed (e.stkBase * 65536 + i) = false) →
            ∀ k < 4, t.bytes (e.stkBase * 65536 + 155456 * k) 155456 = streamImage (originWords (a 8 8)) 0 (streamKey 0 n (s.node 0) e.tile k) j)
        ∧ Within s t (fun l => mboxPlaces l ∨ errorCounts l ∨ l = R .SC_OPS_EXTEND ∨ (∃ i, l = R .SC_MEAS_VALUE 0 (12 + i)) ∨ (∃ n, l = V .STK_CHK n)
              ∨ ∃ k n, l = V .CE_SEQ k n ∨ l = V .CE_LATE k n ∨ l = V .CE_REM k n)
            (fun b => mboxBytes m b ∨ b < 0x010000100000 ∨ (0x018000100000 ≤ b ∧ b < 0x018000200000))))
  ∧ (∀ (s : State) (j : Fin 64) (x : Job), s.jobAt j = some x → s.fwReady = true → x.posted = false → gtcBefore s.gtc x.readyAt = false → gtcBefore s.gtc x.streamsAt = false → s.parts.events.length < 4096 →
    ∃ t, exec (.setupReady j) s = .next t
      ∧ Effect s t [] [] { s.parts with jobs := s.parts.jobs.put j (some { x with posted := true }), events := s.parts.events ++ [⟨s.gtc, 0x0005, 0, j, [x.readyAt, x.streamsAt]⟩] })

/-- JOB_ARM loads and arms the lowest free slot, or returns 0x8C, and an armed message goes out by tree broadcast; JOB_CANCEL cancels the job's armed slots and broadcasts the cancel (R443). JOB_END waits for a tick, then stops the job's tiles and releases
its context (R400). PREEMPT gives each named tile its context address and request, and returns when all are saved or with 0x12 when they are late (R81). TILE_RESET holds the named tiles in reset, or releases them to their start slots (R465, R466). -/
def Obligations.JobCommands : Prop :=
  (∀ (s : State) (m : Fin 64), s.serves m 0x0302 = true →
    (s.freeSlot = none → ∃ t, exec (.jobArm m) s = .next t ∧ s.Returns t m 0x8C [] [] s.parts)
    ∧ (∀ k, s.freeSlot = some k → s.domOn 171 = true → ∃ t, exec (.jobArm m) s = .next t
      ∧ t.IsReturned m 0 (leBytes 1 k ++ leBytes 1 (t.rd .GT_LAUNCH_CTL_STATE 0 k))
      ∧ t.rd .GT_LAUNCH_AT_L 0 k = s.mbArg m 8 8 ∧ t.rd .GT_LAUNCH_CUTOFF_K 0 k = s.mbArg m 16 8 ∧ t.rd .GT_LAUNCH_CTL_JOB 0 k = s.mbArg m 0 1 % 64
      ∧ (t.rd .GT_LAUNCH_CTL_STATE 0 k = 1 ∨ t.rd .GT_LAUNCH_CTL_STATE 0 k = 4)
      ∧ t.parts.bcastOut = s.parts.bcastOut ++ (if t.rd .GT_LAUNCH_CTL_STATE 0 k = 1 then [s.armMsg m] else [])
      ∧ Within s t (fun l => mboxPlaces l ∨ l ∈ [R .GT_LAUNCH_AT_L 0 k, R .GT_LAUNCH_CUTOFF_K 0 k, R .GT_LAUNCH_CTL_JOB 0 k, R .GT_LAUNCH_CTL_WITH_SCHED 0 k, R .GT_LAUNCH_CTL_STATE 0 k, V .LAUNCH_STAGED 0 k, R .GT_FRAME_LEN_LEN,
          R .GT_FRAME_BASE_BASE, R .GT_FRAME_NUM_BASE_NUM, R .GT_FRAME_CTL_PEND, R .GT_FRAME_CTL_REFUSED, V .SCHED_BY_SLOT]) (mboxBytes m)))
  ∧ (∀ (s : State) (m : Fin 64), s.serves m 0x0303 = true → s.domOn 171 = true →
    let j := s.mbArg m 0 1 % 64
    ∃ t, exec (.jobCancel m) s = .next t ∧ t.mbOwn m = false ∧ t.num (mboxBase m + 4) 1 = 0 ∧ (∃ c, t.parts.bcastOut = s.parts.bcastOut ++ [.cancel c 0] ∧ c.val = j)
      ∧ (∀ k < 4, s.rd .GT_LAUNCH_CTL_STATE 0 k = 1 → s.rd .GT_LAUNCH_CTL_JOB 0 k = j → gtcBefore s.gtc (s.rd .GT_LAUNCH_AT_L 0 k) = true → t.rd .GT_LAUNCH_CTL_STATE 0 k = 2)
      ∧ (∀ k, s.rd .GT_LAUNCH_CTL_JOB 0 k ≠ j → t.rd .GT_LAUNCH_CTL_STATE 0 k = s.rd .GT_LAUNCH_CTL_STATE 0 k)
      ∧ Within s t (fun l => mboxPlaces l ∨ l ∈ [R .GT_FRAME_CTL_PEND, V .SCHED_BY_SLOT, V .EVENTS_LOST] ∨ ∃ k, l ∈ [R .GT_LAUNCH_CTL_STATE 0 k, R .GT_LAUNCH_CTL_TOO_LATE 0 k, V .LAUNCH_NODE 0 k]) (mboxBytes m))
  ∧ (∀ (s : State) (m : Fin 64), s.serves m 0x0304 = true →
    let j := s.mbArg m 0 1
    let ended := fun (t : State) => t.IsReturned m 0 [] ∧ t.parts.jobs.find j = none ∧ t.parts.ck.find j = none
      ∧ (∀ k < 40, s.vr .TILE_JOB k = j + 1 → t.vr .TILE_JOB k = 0 ∧ t.vr .IN_FRAMES k = 0 ∧ t.parts.openFrames.at k = [] ∧ (s.domOn k = true → t.rd .TC_CTL_RUN k = 0))
      ∧ Within s t (fun l => mboxPlaces l ∨ ∃ k < 40, s.vr .TILE_JOB k = j + 1 ∧ l ∈ [R .TC_CTL_RUN k, R .TC_STAT_RUNNING k, V .TILE_JOB k, V .IN_FRAMES k, R .GT_TILE_OPEN k]) (mboxBytes m)
    (s.jobAt j = none → ∃ t, exec (.jobEnd m) s = .next t ∧ s.Returns t m 0x84 [] [] s.parts)
    ∧ (∀ x, s.jobAt j = some x →
      (s.scheduled = false → ∃ t, exec (.jobEnd m) s = .next t ∧ ended t)
      ∧ (s.scheduled = true → x.ending = 0 → ∃ t, exec (.jobEnd m) s = .next t ∧ Effect s t [] [] { s.parts with jobs := s.parts.jobs.put j (some { x with ending := s.gtc + 1 }) })
      ∧ (s.scheduled = true → x.ending ≠ 0 → s.atTick = true → x.ending ≠ s.gtc + 1 → ∃ t, exec (.jobEnd m) s = .next t ∧ ended t)))
  ∧ (∀ (s : State) (m : Fin 64), s.serves m 0x0305 = true →
    let ts := s.maskTiles (s.mbArg m 0 8)
    let done := leBytes 8 (maskOf ts fun k => s.rd .TC_PREEMPT_DONE k == 1)
    let all := ∀ x ∈ ts, s.rd .TC_PREEMPT_DONE x.2 = 1
    let late := (∃ x ∈ ts, s.vr .PREEMPT_LATE x.2 = 1) ∨ s.ackGtc m + s.eightFrames ≤ s.gtc
    (s.vr .MB_BEGUN 0 m = 0 → ∃ t, exec (.preempt m) s = .next t ∧ t.vr .MB_BEGUN 0 m = 1 ∧ t.parts = s.parts
      ∧ (∀ l k, (l, k) ∈ ts → (∀ l', (l', k) ∈ ts → l' = l) → t.rd .TC_PREEMPT_REQ k = 1
          ∧ t.rd .TC_CTX_ADDR_ADDR k = (s.mbArg m 8 8 + s.mbArg m 16 4 * l) % 2 ^ 64 / 4096 % 2 ^ Fld.TC_CTX_ADDR_ADDR.width ∧ (s.rd .TC_PREEMPT_REQ k = 0 → t.vr .PREEMPT_AT k = (s.gtc + 1) % 2 ^ Var.PREEMPT_AT.width))
      ∧ Within s t (fun l => l = V .MB_BEGUN 0 m ∨ ∃ x ∈ ts, l ∈ [R .TC_CTX_ADDR_ADDR x.2, R .TC_PREEMPT_REQ x.2, R .TC_PREEMPT_PENDING x.2, V .PREEMPT_AT x.2, V .PREEMPT_TICKS x.2, V .PREEMPT_LATE x.2]) (fun _ => False))
    ∧ (s.vr .MB_BEGUN 0 m ≠ 0 → all → ∃ t, exec (.preempt m) s = .next t ∧ s.Returns t m 0 done [] s.parts)
    ∧ (s.vr .MB_BEGUN 0 m ≠ 0 → ¬ all → late → ∃ t, exec (.preempt m) s = .next t ∧ s.Returns t m 0x12 done [] s.parts))
  ∧ (∀ (s : State) (m : Fin 64), s.serves m 0x0306 = true →
    let ts := s.maskTiles (s.mbArg m 0 8)
    ∃ t, exec (.tileReset m) s = .next t ∧ t.IsReturned m 0 (leBytes 8 (maskOf ts fun k => t.vr .TILE_HELD k == 1))
      ∧ (s.mbArg m 8 1 = 0 → ∀ l k, (l, k) ∈ ts → s.logicalOf k = l → l < 40 → t.vr .TILE_HELD k = 1 ∧ t.rd .TC_CTL_RUN k = 0 ∧ t.vr .TILE_JOB k = 0 ∧ (∀ f < 4, testB (t.rd .NI_RESET_TILES f) l = true)
          ∧ t.tracker k = [] ∧ (∀ e < 8, t.queue k e = [] ∧ t.running k e = none) ∧ (s.dom k = 2 → s.dom (40 + k) = 0 → t.dom k = 3))
      ∧ (s.mbArg m 8 1 ≠ 0 → ∀ l k, (l, k) ∈ ts → s.vr .TILE_HELD k ≠ 0 → s.dom k = 0 → t.rd .PM_DOM_PEND_EN 0 k = 1 ∧ t.rd .PM_DOM_SLOT_WAIT 0 k = 1 ∧ t.rd .PM_DOM_EN 0 k = 1)
      ∧ (∀ k, (∀ x ∈ ts, x.2.val ≠ k) → t.vr .TILE_HELD k = s.vr .TILE_HELD k ∧ t.rd .TC_CTL_RUN k = s.rd .TC_CTL_RUN k))

/-! ### Checkpoint and restore (R401 to R419) -/

/-- Checkpoints: CKPT_POLICY takes effect from the first step that opens at least 8 frames later (R402); a triggering step gets the next generation number and its cut orders (R403); its end is the cut, after which the next step opens CK_FRAMES frames later, or, while
an earlier generation is unfinished, a skipped generation with status 0x17 and no pause (R404, R413); shards go to host storage, and the generation ends with the manifest's status, with 0x81 for mixed shards, or with 0x82 at its deadline (R411, R413, R415).
Where shards go, and what other packages post, are operands (log entries 54, 62). -/
def Obligations.Checkpoints : Prop :=
  (∀ (s : State) (m : Fin 64) (j : Job), s.serves m 0x0307 = true → s.jobAt (s.mbArg m 0 1) = some j →
    let a := s.mbArg m
    let limit := s.gtc + s.eightFrames
    let first := if j.opened = 0 then j.s0 else if limit ≤ j.opened - 1 then j.step else j.step + ceilDiv (limit - (j.opened - 1)) (max 1 (s.stepLen j))
    ∃ t k, exec (.ckptPolicy m) s = .next t ∧ t.parts.ck.find (a 0 1) = some k ∧ k.policy.first = first ∧ k.policy.interval = a 4 4 ∧ k.policy.period = a 8 8 ∧ k.policy.ckFrames = a 16 1
      ∧ k.policy.sign = (a 17 1 == 1) ∧ k.policy.dests.length = a 18 1 ∧ t.IsReturned m 0 (leBytes 8 first)
      ∧ (∀ old, s.parts.ck.find (a 0 1) = some old → k.next = old.next ∧ k.gens = old.gens ∧ ∀ c < first, old.policy.first ≤ c → k.at c = some old.policy)
      ∧ Within s t mboxPlaces (mboxBytes m))
  ∧ (∀ (s : State) (n : Fin 64) (step : W64) (orders : List TileOrder) (j : Job) (k : Ck) (p : CkPolicy), s.jobAt n = some j → s.parts.ck.find n = some k → s.fwReady = true → j.opened ≠ 0 → s.scheduled = true →
    j.step ≤ step.toNat → gtcBefore (s.stepOpen j step.toNat) s.gtc = false → s.triggers j k step.toNat = true → (∀ g ∈ k.gens, g.step ≠ step.toNat) → k.at step.toNat = some p →
    let idle := ∀ o ∈ orders, s.domOn o.tile = true ∧ s.rd .MB_F2T_CTL_OWN o.tile = 0
    ∃ t k' g, exec (.cutOrder n step orders) s = .next t ∧ t.parts.ck.find n = some k' ∧ k'.gens = k.gens ++ [g] ∧ k'.next = (k.next + 1) % 2 ^ 32
      ∧ g.gen = k.next ∧ g.step = step.toNat ∧ g.slots = k.slots ∧ g.cut = 0 ∧ g.shards = [] ∧ g.ordered = k.gens.isEmpty
      ∧ (k.gens = [] → idle → orders.Pairwise (fun a b => a.tile ≠ b.tile) → ∀ o ∈ orders, t.rd .MB_F2T_CTL_OWN o.tile = 1 ∧ t.rd .MB_F2T_CTL_KIND o.tile = 1
          ∧ t.rd .MB_F2T_DATA_DATA o.tile 0 = step.toNat ∧ t.rd .MB_F2T_DATA_DATA o.tile 1 = k.next % 2 ^ 64 ∧ t.rd .MB_F2T_DATA_DATA o.tile 2 = o.trailer.toNat ∧ testB (t.rd .TC_IPEND_SRC o.tile) 0 = true)
      ∧ (k.gens ≠ [] → Within s t (fun _ => False) (fun _ => False)))
  ∧ (∀ (s : State) (n : Fin 64) (entry : BitVec 48) (p1 p2 : Place) (j : Job) (k : Ck) (p : CkPolicy) (c : Nat), s.CutDue n j k p c →
    let g := (k.gens.find? fun g => g.step == c).getD ⟨k.next, c, k.slots, [], false, 0, []⟩
    let goesOn := fun (t : State) (pause : Nat) => t.parts.jobs.find n = some { j with step := c + 1, opened := (s.gtc + pause) % 2 ^ 64 + 1, prevEnd := s.gtc }
    ((∃ x ∈ k.gens, x.step ≠ c) → ∃ t, exec (.checkpointCut n entry p1 p2) s = .next t ∧ goesOn t 0 ∧ s.GenEnded t n g 0x17 ∧ Within s t (fun l => l = V .EVENTS_LOST) (fun _ => False))
    ∧ ((∀ x ∈ k.gens, x.step = c) → s.node 0 ≠ j.root → ∃ t, exec (.checkpointCut n entry p1 p2) s = .next t ∧ goesOn t (p.ckFrames * s.rd .GT_FRAME_CUR_LEN)
        ∧ (∃ k' x, t.parts.ck.find n = some k' ∧ x ∈ k'.gens ∧ x.gen = g.gen ∧ x.step = g.step ∧ x.cut = s.gtc + 1) ∧ Within s t (fun _ => False) (fun _ => False)))
  ∧ (∀ (s : State) (n : Fin 64) (kind : Fin 3) (curd : BitVec 16) (j : Job) (g : CkGen) (x : Shard), s.jobAt n = some j → s.cutGen n = some g → s.fwReady = true →
    (g.shards.find? fun x => x.kind == kind.val && x.curd == curd.toNat && x.host && !x.stored) = some x →
    ∃ t, exec (.hostShardTransfer n kind curd) s = .next t ∧ t.parts.hostOut = s.parts.hostOut ++ [⟨j.jobId, g.gen, kind, curd.toNat, x.addr, x.len + 64⟩]
      ∧ (∃ k' g', t.parts.ck.find n = some k' ∧ g' ∈ k'.gens ∧ g'.gen = g.gen ∧ ∀ y ∈ g'.shards, y.kind = kind.val → y.curd = curd.toNat → y.stored = true) ∧ Within s t (fun _ => False) (fun _ => False))
  ∧ (∀ (s : State) (n : Fin 64) (others : List Shard) (places : List (BitVec 48)) (status : Byte) (j : Job) (k : Ck) (g : CkGen), s.jobAt n = some j → s.parts.ck.find n = some k → s.cutGen n = some g → s.fwReady = true →
    let y := s.layoutAt j.layoutAddr
    let l := g.shards ++ others
    (s.node 0 ≠ j.root → ∃ t, exec (.manifestWrite n others places status) s = .next t ∧ s.GenEnded t n g status.toNat ∧ Within s t (fun x => x = V .EVENTS_LOST) (fun _ => False))
    ∧ (∀ p, s.node 0 = j.root → k.at g.step = some p → complete_ y.curds l = true →
      (mixed l = true → ∃ t, exec (.manifestWrite n others places status) s = .next t ∧ s.GenEnded t n g 0x81 ∧ Within s t (fun x => x = V .EVENTS_LOST) (fun _ => False))
      ∧ (mixed l = false → ∃ t, exec (.manifestWrite n others places status) s = .next t ∧ s.GenEnded t n g (if l.any (·.poison) then 0x40 else 0)
          ∧ (∀ d a, p.dests = [d] → places = [a] → (d.host = true ∨ d.node = s.node 0) → a.toNat % 64 = 0 → let bs := s.manifest j y g p.sign l
              a.toNat + bs.length ≤ stackTop → (∀ i < bs.length, s.chFailed (a.toNat + i) = false) → t.bytes a.toNat bs.length = bs)
          ∧ (∀ k', l.any (·.poison) = false → t.parts.ck.find n = some k' → k'.newest = g.slots.map some))))
  ∧ (∀ (s : State) (n : Fin 64) (others : List Shard) (j : Job) (k : Ck) (g : CkGen) (p : CkPolicy), s.jobAt n = some j → s.parts.ck.find n = some k → s.cutGen n = some g → k.at g.step = some p → s.fwReady = true →
    gtcBefore s.gtc ((g.cut - 1 + (p.ckFrames + 8) * s.rd .GT_FRAME_CUR_LEN) % 2 ^ 64) = false →
    complete_ (s.layoutAt j.layoutAddr).curds ((g.shards ++ others).map fun x => { x with stored := true }) = false →
    ∃ t, exec (.checkpointDeadline n others) s = .next t ∧ s.GenEnded t n g 0x82 ∧ Within s t (fun x => x = V .EVENTS_LOST) (fun _ => False))

/-- RESTORE refuses with 0x8C, the selection's status, 0x8E or 0x8F, else it selects a generation, returns it and begins to load (R416, R417). Loading that finds a shard at fault ends with the first one's status and changes nothing else; one that finds none
sets the epoch of the job's tiles, and the job goes on from the step after the checkpoint (R418, R419). -/
def Obligations.Restores : Prop :=
  (∀ (s : State) (m : Fin 64) (copies headers : List (List Byte)), s.serves m 0x0308 = true →
    let a := s.mbArg m
    let y := s.layoutAt (a 24 8 % 2 ^ 48)
    let busy := ∃ p ∈ y.mine (s.node 0), ∃ k, s.physOf p.2.tile = some k ∧ s.vr .TILE_JOB k ≠ 0
    let sel := selectManifest (copies.map (readManifest · (a 32 32))) (a 0 8) (a 8 4)
    let c := Instr.restore m copies headers
    (busy → ∃ t, exec c s = .next t ∧ s.Returns t m 0x8C [] [] s.parts)
    ∧ (∀ st, ¬ busy → sel = .inr st → ∃ t, exec c s = .next t ∧ s.Returns t m st [] [] s.parts)
    ∧ (∀ x, ¬ busy → sel = .inl x → x.curds ≠ y.curds → ∃ t, exec c s = .next t ∧ s.Returns t m 0x8E [] [] s.parts)
    ∧ (∀ x j, ¬ busy → sel = .inl x → x.curds = y.curds → s.parts.jobs.find y.job = some j → s.layoutInvalid y j.nodes = false → sizesDiffer y headers = false → y.overLimit j.tsLimit j.stackLimit = true →
        ∃ t, exec c s = .next t ∧ s.Returns t m 0x8F [] [] s.parts)
    ∧ (∀ x, ¬ busy → sel = .inl x → x.curds = y.curds → sizesDiffer y headers = false → (∀ j, s.parts.jobs.find y.job = some j → s.layoutInvalid y j.nodes = false ∧ y.overLimit j.tsLimit j.stackLimit = false) →
        ∃ t r, exec c s = .next t ∧ t.parts.restore = some r ∧ r.jobId = x.jobId ∧ r.gen = x.gen ∧ r.step = x.step ∧ r.entries = x.entries ∧ r.loading = true
          ∧ t.mbOwn m = false ∧ t.num (mboxBase m + 4) 1 = 0 ∧ t.num (mboxBase m + 64) 4 = x.gen % 2 ^ 32 ∧ Within s t (fun l => mboxPlaces l ∨ l = V .FREE_CTR) (mboxBytes m)))
  ∧ (∀ (s : State) (shards : List ShardCheck) (l k : W64) (depth : BitVec 8) (sched : Option SchedMsg) (r : RestoreRun), s.parts.restore = some r → s.fwReady = true → r.loading = true → s.parts.events.length < 4096 →
    let bad := offenders r shards
    let c := Instr.restoreLoadComplete shards l k depth sched
    (∀ x xs, bad = x :: xs → ∃ t, exec c s = .next t
      ∧ Effect s t [] [] { s.parts with restore := some { r with loading := false, status := x.2.1, bad := bad }, events := s.parts.events ++ [⟨s.gtc, 0x0004, x.2.1, r.job, [r.gen]⟩] })
    ∧ (∀ j, bad = [] → s.parts.jobs.find r.job = some j → let ts := (((s.layoutAt r.layoutAddr).mine (s.node 0)).filterMap fun p => s.physOf p.2.tile).eraseDups
      ∃ t, exec c s = .next t ∧ t.parts.jobs.find r.job = some (j.restored r ts) ∧ t.parts.restore = some { r with loading := false, status := 0, bad := [] }
        ∧ (∀ n ∈ ts, s.domOn n = true → t.rd .CE_EPOCH_EPOCH n = r.epoch % 65536) ∧ t.parts.events = s.parts.events ++ [⟨s.gtc, 0x0004, 0, r.job, [r.gen]⟩]))

/-- Messages between the firmware and a tile: a post fills a free slot and raises its interrupt, a return frees it (R438 to R440). The firmware takes a shard post into its generation, a failure into status 0x82, a debug message into an event, and any other kind back with 0x84;
ATTEST answers one SPDM request, an unsupported or out-of-order one with an SPDM error, under mailbox status 0 (R490; the message layouts are PRESUMED, log entry 60). -/
def Obligations.TileMessages : Prop :=
  (∀ (s : State) (k : Tile) (kind len seq : BitVec 8), s.fwReady = true → s.domOn k = true → s.rd .MB_F2T_CTL_OWN k ≠ 1 →
    ∃ t, exec (.f2tPost k kind len seq) s = .next t
      ∧ Effect s t [(R .MB_F2T_CTL_KIND k, kind.toNat), (R .MB_F2T_CTL_LEN k, len.toNat), (R .MB_F2T_CTL_SEQ k, seq.toNat), (R .MB_F2T_CTL_STATUS k, 0), (R .MB_F2T_CTL_OWN k, 1), (R .TC_IPEND_SRC k, setB (s.rd .TC_IPEND_SRC k) 0)] [] s.parts)
  ∧ (∀ (s : State) (k : Tile) (v : W64), s.domOn k = true → s.rd .MB_F2T_CTL_OWN k ≠ 0 →
    ∃ t, exec (.f2tReturn k v) s = .next t ∧ Effect s t ((R .MB_F2T_CTL_STATUS k, bitsOf v.toNat 39 32) :: if testB v.toNat 0 then [] else [(R .MB_F2T_CTL_OWN k, 0)]) [] s.parts)
  ∧ (∀ (s : State) (k : Tile) (v : W64), s.domOn k = true → s.rd .MB_T2F_CTL_OWN k ≠ 1 → let x := v.toNat
    let fields := [(R .MB_T2F_CTL_KIND k, bitsOf x 15 8), (R .MB_T2F_CTL_LEN k, bitsOf x 23 16), (R .MB_T2F_CTL_SEQ k, bitsOf x 31 24), (R .MB_T2F_CTL_STATUS k, bitsOf x 39 32)]
    ∃ t, exec (.tileMessagePost k v) s = .next t
      ∧ (testB x 0 = false → Effect s t fields [] s.parts)
      ∧ (testB x 0 = true → Effect s t (fields ++ [(R .MB_T2F_CTL_OWN k, 1), (R .MB_TILE_PEND_TILES, setB (s.rd .MB_TILE_PEND_TILES) (s.logicalOf k))]) []
          { s.parts with work := s.parts.work ++ [⟨.job, .tileMessage, k, s.gtc⟩] }))
  ∧ (∀ (s : State) (k : Tile) (step : W64) (epoch : BitVec 16), s.fwReady = true → s.domOn k = true → s.rd .MB_T2F_CTL_OWN k ≠ 0 → s.parts.events.length < 4095 →
    let kind := s.rd .MB_T2F_CTL_KIND k
    let w := fun i => s.rd .MB_T2F_DATA_DATA k i
    let n := s.jobOf k
    let st := bitsOf (w 0) 23 16
    let given := fun (status : Nat) => [(R .MB_T2F_CTL_STATUS k, status), (R .MB_T2F_CTL_OWN k, 0), (R .MB_TILE_PEND_TILES, clrB (s.rd .MB_TILE_PEND_TILES) (s.logicalOf k))]
    ∃ t, exec (.tileMessageTake k step epoch) s = .next t
      ∧ (kind ∉ [2, 3, 4] → Effect s t (given 0x84) [] s.parts)
      ∧ (kind = 4 → Effect s t (given 0) [] { s.parts with events := s.parts.events ++ [⟨s.gtc, 0x000B, 0, n, [s.logicalOf k, w 0, w 1]⟩] })
      ∧ (kind = 3 → s.cutGen n = none → Effect s t (given 0) [] { s.parts with events := s.parts.events ++ [⟨s.gtc, 0x000A, 0, n, [s.logicalOf k, bitsOf (w 0) 7 0, w 1]⟩] })
      ∧ (∀ g, kind = 3 → s.cutGen n = some g → Effect s t (given 0) [] t.parts ∧ (∀ c, t.parts.ck.find n = some c → ∀ x ∈ c.gens, x.gen ≠ g.gen)
          ∧ ⟨s.gtc, 0x0003, 0x82, n, [g.gen, g.step]⟩ ∈ t.parts.events)
      ∧ (∀ g, kind = 2 → s.cutGen n = some g → st ≠ 0 → Effect s t (given 0) [] t.parts ∧ s.GenEnded t n g 0x82)
      ∧ (∀ g, kind = 2 → s.cutGen n = some g → st = 0 → (∀ x ∈ g.shards, x.step = step.toNat ∧ x.epoch = epoch.toNat) → Effect s t (given 0) [] t.parts ∧ t.parts.events = s.parts.events
          ∧ ∃ c g' x, t.parts.ck.find n = some c ∧ g' ∈ c.gens ∧ g'.gen = g.gen ∧ x ∈ g'.shards ∧ x.kind = 0 ∧ x.curd = bitsOf (w 0) 15 0 ∧ x.step = step.toNat ∧ x.epoch = epoch.toNat ∧ x.status = 0
              ∧ x.poison = testB (w 0) 24 ∧ x.crc = w 5 % 2 ^ 32 ∧ x.len = w 6 % 2 ^ 64))
  ∧ (∀ (s : State) (m : Fin 64), s.serves m 0x0501 = true →
    let req := s.bytes (mboxBase m + 64) (min 4032 (s.mbReqLen m))
    let ans := s.spdm req
    let code := leNat ((req.drop 1).take 1)
    ∃ t, exec (.attest m) s = .next t
      ∧ s.Returns t m 0 ans.rsp ((V .FREE_CTR, s.vr .FREE_CTR + 1) :: if ans.signed then [(R .SC_OPS_SIGN, satAdd Fld.SC_OPS_SIGN.width (s.rd .SC_OPS_SIGN) 1)] else []) { s.parts with spdm := ans.next }
      ∧ (code ∉ [0x81, 0x82, 0x83, 0x84, 0xE0, 0xE1, 0xE3] → ans.rsp = spdmHead 0x7F 7 code) ∧ (code ∈ [0x81, 0x82, 0x83, 0xE0] → leNat (req.take 1) = 0x12 → s.parts.spdm.stage < 3 → ans.rsp = spdmHead 0x7F 4 0))

/-! ### The broadcast tree (R459 to R462) -/

/-- The broadcast tree. A received broadcast is acknowledged first; one already held does nothing more, and a new one is held, forwarded to every child, and takes effect (R460); a hop acknowledgement marks its child. A child silent for T_ack is failed: it enters the
report and a record, and each of its children is named to its alternate parent or is unreached (R461); ADOPT makes the package that receives it the parent, and one unacknowledged for T_ack leaves its subtree unreached. A package with a report or a failure for every
child reports to its parent, once (R462). (The tree's children, alternates and digests are operands, log entry 62.) -/
def Obligations.TreeBroadcasts : Prop :=
  (∀ (s : State) (f : BitVec 16) (m : BMsg) (cs : List (BitVec 16)), s.fwReady = true →
    let held := ∃ b ∈ s.parts.bcasts, b.msg.ident = m.ident ∧ b.msg.digest = m.digest
    let all := (cs ++ (s.parts.adoptWait.filter fun x => x.1 == m.ident).map (·.2)).eraseDups
    let ack : FwMsg := ⟨f, .hopAck m.ident⟩
    ∃ t, exec (.treeBroadcast (some f) m cs) s = .next t
      ∧ (held → Effect s t [] [] { s.parts with fwOut := s.parts.fwOut ++ [ack] })
      ∧ (¬ held → t.parts.fwOut = s.parts.fwOut ++ ack :: all.map (fun c => ⟨c, .bcast m⟩)
          ∧ (∃ b, t.parts.bcasts = s.parts.bcasts ++ [b] ∧ b.msg = m ∧ b.parent = some f ∧ b.children = all.map (fun c => ⟨c, s.gtc, 0⟩) ∧ b.reported = false
              ∧ b.report = ⟨[], [], match m.content with | .rennet r => if s.rennetGood r then [] else [s.self16] | _ => []⟩)
          ∧ (∀ r, m.content = .rennet r → t.parts.rennet = if s.rennetGood r then some ⟨r.entry.toNat, r.imem, r.dmem⟩ else s.parts.rennet)
          ∧ (∀ job depth l k n, m.content = .arm job depth l k none → s.domOn 171 = true → s.freeSlot = some n →
              t.rd .GT_LAUNCH_AT_L 0 n = l.toNat ∧ t.rd .GT_LAUNCH_CUTOFF_K 0 n = k.toNat ∧ t.rd .GT_LAUNCH_CTL_JOB 0 n = job ∧ t.rd .GT_LAUNCH_CTL_STATE 0 n = if launchTimely t n depth.toNat then 1 else 4)
          ∧ (∀ job node n, m.content = .cancel job node → s.domOn 171 = true → n < 4 → s.rd .GT_LAUNCH_CTL_STATE 0 n = 1 → s.rd .GT_LAUNCH_CTL_JOB 0 n = job.val → gtcBefore s.gtc (s.rd .GT_LAUNCH_AT_L 0 n) = true →
              t.rd .GT_LAUNCH_CTL_STATE 0 n = 2)))
  ∧ (∀ (s : State) (m : BMsg) (cs : List (BitVec 16)), s.fwReady = true → s.bcast m.ident = none → s.parts.bcastOut.head? = some m.content → (∀ r, m.content ≠ .rennet r) → s.parts.adoptWait = [] →
    ∃ t, exec (.treeBroadcast none m cs) s = .next t
      ∧ Effect s t [] [] { s.parts with bcastOut := s.parts.bcastOut.drop 1, bcasts := s.parts.bcasts ++ [⟨m, none, cs.eraseDups.map fun c => ⟨c, s.gtc, 0⟩, [], ⟨[], [], []⟩, false⟩], fwOut := s.parts.fwOut ++ cs.eraseDups.map fun c => ⟨c, .bcast m⟩ })
  ∧ (∀ (s : State) (from_ : BitVec 16) (id : BitVec 32) (named : Option (BitVec 16)), s.fwReady = true →
    ∃ t, exec (.hopAck from_ id named) s = .next t
      ∧ Effect s t [] [] { s.parts with bcasts := s.parts.bcasts.map fun b => if b.msg.ident = id then
          match named with
          | none => { b with children := b.children.map fun c => { c with state := if c.node = from_ ∧ c.state = 0 then 1 else c.state } }
          | some y => { b with adopts := b.adopts.filter fun a => decide (a.node ≠ y ∨ a.parent ≠ from_) } else b })
  ∧ (∀ (s : State) (child : BitVec 16) (id : BitVec 32) (orphans : List Orphan) (b : BState), s.fwReady = true → s.bcast id = some b → (∃ c ∈ b.children, c.node = child ∧ c.state = 0 ∧ c.sentAt + s.tAck ≤ s.gtc) →
    s.parts.rindQueue.length < 56 → s.vr .GASP ≠ 1 → (b.parent = none → ∀ job d l k sc, b.msg.content ≠ .arm job d l k sc) →
    ∃ t b' r, exec (.hopAckTimeout child id orphans) s = .next t ∧ t.bcast id = some b' ∧ (∀ c ∈ b'.children, c.node = child → c.state = 3) ∧ b'.report.failed = b.report.failed ++ [child]
      ∧ b'.report.unreached = b.report.unreached ++ (orphans.filter fun o => o.alternate.isNone).map (·.node)
      ∧ t.parts.fwOut = s.parts.fwOut ++ orphans.filterMap (fun o => o.alternate.map fun a => ⟨a, .adopt id o.node⟩)
      ∧ t.parts.rindQueue = s.parts.rindQueue ++ [r] ∧ r.source = 0x0500 ∧ Within s t rindPlaces (fun _ => False))
  ∧ (∀ (s : State) (from_ : BitVec 16) (id : BitVec 32) (named : BitVec 16), s.fwReady = true → let ack : FwMsg := ⟨from_, .adoptAck id named⟩
    ∃ t, exec (.adopt from_ id named) s = .next t
      ∧ (s.bcast id = none → Effect s t [] [] { s.parts with fwOut := s.parts.fwOut ++ [ack], adoptWait := s.parts.adoptWait ++ [(id, named)] })
      ∧ (∀ b, s.bcast id = some b → (∀ c ∈ b.children, c.node ≠ named) → Within s t (fun _ => False) (fun _ => False) ∧ t.parts.fwOut = s.parts.fwOut ++ [ack, ⟨named, .bcast b.msg⟩]
          ∧ ∃ b', t.bcast id = some b' ∧ b'.children = b.children ++ [⟨named, s.gtc, 0⟩] ∧ b'.reported = false))
  ∧ (∀ (s : State) (id : BitVec 32) (named : BitVec 16) (b : BState), s.fwReady = true → s.bcast id = some b → (∃ a ∈ b.adopts, a.node = named ∧ a.since + s.tAck ≤ s.gtc) →
    ∃ t b', exec (.adoptTimeout id named) s = .next t ∧ t.bcast id = some b' ∧ b'.report.unreached = b.report.unreached ++ [named] ∧ (∀ a ∈ b'.adopts, a.node = named → s.gtc < a.since + s.tAck)
      ∧ Within s t (fun _ => False) (fun _ => False))
  ∧ (∀ (s : State) (id : BitVec 32) (child : BitVec 16) (rep : SubReport) (b : BState), s.fwReady = true → s.bcast id = some b → b.reported = false → (∃ c ∈ b.children, c.node = child ∧ c.state ≤ 1) → rep.failed = [] →
    let rest := ∃ c ∈ b.children, c.node ≠ child ∧ c.state < 2
    let sum : SubReport := ⟨b.report.failed, b.report.unreached ++ rep.unreached, b.report.refused ++ rep.refused⟩
    ∃ t b', exec (.subtreeReport id (some child) rep) s = .next t ∧ t.bcast id = some b' ∧ b'.report = sum ∧ (∀ c ∈ b'.children, c.node = child → c.state = 2) ∧ Within s t (fun _ => False) (fun _ => False)
      ∧ (rest → b'.reported = false ∧ t.parts.fwOut = s.parts.fwOut)
      ∧ (¬ rest → b.adopts = [] → b'.reported = true ∧ ∀ p, b.parent = some p → t.parts.fwOut = s.parts.fwOut ++ [⟨p, .report id sum⟩]))

/-! ### Functions and power domains (Tables 19.3, 19.4) -/

/-- Enable and disable requests of the switchable functions (Table 19.3, R467). A write of EN registers the request: an engine function of a tile whose domain is ON acts on it at once, of a tile in STARTING only stores it, and of a tile that is OFF ignores it;
domains 164 to 168, and every domain before the rails are good, ignore PM_DOM.EN. A tile domain whose array is not OFF latches its disable and drives the array off first (R30); an ACTIVE link whose port drains finishes what it has accepted (R327). -/
def Obligations.FunctionRequests : Prop :=
  (∀ (s : State) (k : Tile) (v : Bool), ∀ c ∈ [(Instr.vxCtlEnWrite k v, Func.vx k), (.svCtlEnWrite k v, .sv k), (.fsCtlEnWrite k v, .fs k), (.dmCtlEnWrite k v, .dm k), (.ceCtlEnWrite k v, .ce k)],
    ∃ t, exec c.1 s = .next t
      ∧ (2 ≤ s.dom k → s.dom k ≤ 3 → Effect s t (if v then s.enableTakes c.2 else s.disableTakes c.2) [] s.parts)
      ∧ (s.dom k = 1 → Effect s t [((funcRegs c.2).en, if v then 1 else 0)] [] s.parts)
      ∧ (s.dom k = 0 → t = s))
  ∧ (∀ (s : State) (k : Tile) (v w : Bool), let takes := fun (f : Func) (v : Bool) => if v then s.enableTakes f else s.disableTakes f
    s.domOn k = true → ∃ t, exec (.cvCtlEnWrite k v w) s = .next t ∧ Effect s t (takes (.cv k 0) v ++ takes (.cv k 1) w) [] s.parts)
  ∧ (∀ (s : State) (v : Bool), ∃ t, exec (.ecScrubCtlEnWrite v) s = .next t
      ∧ (s.dom 169 ≠ 0 → Effect s t (if v then s.enableTakes .scrub else s.disableTakes .scrub) [] s.parts) ∧ (s.dom 169 = 0 → t = s))
  ∧ (∀ (s : State) (d : Fin 174) (v : Bool), (164 ≤ d.val ∧ d.val ≤ 168) ∨ s.rd .PM_STAT_RAILS_OK = 0 → exec (.pmDomEnWrite d v) s = .next s)
  ∧ (∀ (s : State) (d : Fin 174), ¬ (164 ≤ d.val ∧ d.val ≤ 168) → s.rd .PM_STAT_RAILS_OK ≠ 0 →
    let a := 40 + d.val
    let l := d.val - 100
    (∃ t, exec (.pmDomEnWrite d true) s = .next t ∧ Effect s t (s.enableTakes (.dom d)) [] s.parts)
    ∧ ∃ t, exec (.pmDomEnWrite d false) s = .next t
      ∧ (40 ≤ d.val → ¬ (100 ≤ d.val ∧ d.val < 164 ∧ s.dom d = 2) → Effect s t (s.disableTakes (.dom d)) [] s.parts)
      ∧ (d.val < 40 → ¬ (s.dom d = 2 ∧ s.dom a ≠ 0) → Effect s t (s.disableTakes (.dom d) ++
          if s.dom a = 0 ∧ s.rd .PM_DOM_PEND_EN 0 a = 1 then [(R .PM_DOM_EN 0 a, 0), (R .PM_DOM_PEND_EN 0 a, 0), (R .PM_DOM_SLOT_WAIT 0 a, 0)] else []) [] s.parts)
      ∧ (∀ h : d.val < 40, s.dom d = 2 → s.dom a ≠ 0 → Effect s t ([(R .PM_DOM_EN 0 d, 0), (V .DOM_DIS_AT 0 d, s.clock), (R .PM_DOM_PEND_DIS 0 d, 1)] ++ s.disableTakes (arrayOf ⟨d.val, h⟩)) [] s.parts)
      ∧ (100 ≤ d.val → d.val < 164 → s.dom d = 2 →
          (s.linkActive l = true → Effect s t (s.disableTakes (.dom d) ++ if s.vr .LINK_DRAIN l = 0 then [(V .LINK_DRAIN l, 1), (V .LINK_DRAIN_AT l, s.clock)] else []) [] s.parts)
          ∧ (s.linkState l = 0 ∨ s.linkState l = 7 → Effect s t (s.disableTakes (.dom d)) [] s.parts)
          ∧ (s.linkState l ∈ [1, 2, 3, 4, 8] → LinkIs t l 0 12 ∧ t.dom d = 3)
          ∧ (s.linkState l = 6 → LinkIs t l 7 12 ∧ t.dom d = 3)))

/-- Transitions of the switchable functions. STARTING ends after its time: ON, or DRAINING where a disable was latched; DRAINING ends when its condition holds: OFF, or STARTING again where an enable was latched, a domain among 0 to 79 waiting for its slot (Tables 19.3,
19.4). A start slot goes to the lowest waiting domain, 31,500 cycles after the one before (R468); the tile's engines start with it, and a domain that goes OFF loses what it holds (R11; R9's RWS fields stay, log entry 40); the GTC starts at 0 with domain 171. -/
def Obligations.FunctionTransitions : Prop :=
  (∀ (s : State) (f : Func) (failed : List FailedLine), s.fstate f = 1 → s.funcAt f + s.startCycles f ≤ s.clock →
    ∃ t, exec (.functionStartingEnd f failed) s = .next t
      ∧ (s.pendDis f = 1 → t.fstate f = 3 ∧ t.pendDis f = 0 ∧ t.gtc = s.gtc)
      ∧ (s.pendDis f ≠ 1 → t.fstate f = 2 ∧ t.gtc = (if f = .dom 171 then 0 else s.gtc))
      ∧ (s.pendDis f ≠ 1 → funcTile f ≠ none ∨ f = .scrub →
          (s.parts.funcWait = [] → Effect s t (s.stateTakes f 2) [] s.parts)
          ∧ (∀ w m, s.parts.funcWait = [w] → w.func = f → w.mbox = some m → s.mbOwn m = true → t.IsReturned m 0 [2] ∧ t.parts.funcWait = []))
      ∧ (∀ k : Tile, f = .dom ⟨k.val, by omega⟩ → s.pendDis f ≠ 1 → s.vr .TILE_HELD k = 0 → s.parts.funcWait = [] →
          t.rd .VX_STAT_FSTATE k = 2 * s.rd .VX_CTL_EN k % 4 ∧ t.rd .SV_STAT_FSTATE k = 2 * s.rd .SV_CTL_EN k % 4 ∧ t.rd .FS_STAT_FSTATE k = 2 * s.rd .FS_CTL_EN k % 4 ∧ t.rd .DM_STAT_FSTATE k = 2 * s.rd .DM_CTL_EN k % 4
          ∧ t.rd .CE_STAT_FSTATE k = 2 * s.rd .CE_CTL_EN k % 4 ∧ ∀ x, tileBytes k x = true → t.byte x = 0)
      ∧ (∀ c : CDie, f = .dom ⟨80 + c.val, by omega⟩ → s.pendDis f ≠ 1 → s.parts.funcWait = [] → t.rd .LS_STAT_INIT_DONE c = 1 ∧ (s.vr .SELF_REF c ≤ 1 → t.vr .SELF_REF c = 0)
          ∧ (s.vr .SELF_REF c ≠ 1 → ∀ x < stackTop, (stackMap x).stack = c → t.byte x = 0)
          ∧ ∀ x < stackTop, (stackMap x).stack = c → t.chFailed x = decide (2 ≤ ((failed.filter fun y => y.channel.val == (stackMap x).ch).eraseDups).length)))
  ∧ (∀ (s : State) (f : Func) (failed : List FailedLine), s.fstate f ≠ 1 ∨ s.clock < s.funcAt f + s.startCycles f → exec (.functionStartingEnd f failed) s = .next s)
  ∧ (∀ (s : State) (f : Func), s.fstate f = 3 → s.drained f = true → s.vr .DORM_STAGE = 0 → s.parts.funcWait = [] →
    ∃ t, exec (.functionDrainingEnd f) s = .next t
      ∧ t.fstate f = (if s.pendEn f = 1 ∧ staggered f = false then 1 else 0)
      ∧ (s.pendEn f = 1 → t.pendEn f = if staggered f then 1 else 0)
      ∧ (funcTile f ≠ none ∨ f = .scrub → Effect s t (if s.pendEn f = 1 then (funcR f (funcRegs f).pendEn, 0) :: s.stateTakes f 1 else s.stateTakes f 0) [] s.parts)
      ∧ (∀ d : Fin 174, f = .dom d → d.val < 80 ∨ (169 ≤ d.val ∧ d.val ≤ 171) → ∀ l : Loc, l.holder = some d.val → l.sticky = false → t.get l = l.resetVal)
      ∧ (∀ k : Tile, f = .dom ⟨k.val, by omega⟩ → (∀ x, tileBytes k x = true → t.byte x = 0) ∧ t.parts = s.parts.dropTile k))
  ∧ (∀ (s : State) (f : Func), s.fstate f ≠ 3 ∨ s.drained f = false → exec (.functionDrainingEnd f) s = .next s)
  ∧ (∀ s : State, let free := s.vr .SLOT_AT = 0 ∨ s.vr .SLOT_AT - 1 + 31500 ≤ s.clock
    (∀ d, free → (List.range 80).find? s.slotReady = some d → ∃ t, exec .staggerSlotGrant s = .next t
      ∧ Effect s t ([(V .SLOT_AT, s.clock + 1), (R .PM_DOM_PEND_EN 0 d, 0), (R .PM_DOM_SLOT_WAIT 0 d, 0), (R .PM_DOM_FSTATE 0 d, 1), (V .FUNC_AT 40 d, s.clock)] ++ if d < 40 then [(V .NI_MAP_SHUT, 1)] else []) [] s.parts)
    ∧ (¬ free ∨ (List.range 80).find? s.slotReady = none → exec .staggerSlotGrant s = .next s))

/-! ### Rails, resets and Dormant (R446 to R450, R454, R473 to R475) -/

/-- Power-on and resets. Good rails start domains 169 to 171 (R446); when aux rises only the fuses, the rind log and what the silicon keeps remain, and the log resumes from the newer write-state copy (R447, R497); a package reset takes every domain but 168 to OFF,
every memory to zero and every mailbox to 0xF1, and leaves RWS fields and domain 168 alone (R449, Table 19.2); the loss of a rail is recorded first and loses RWS fields too. (That domain 170 starts with 169 and 171 is log entry 41; what survives of RWS fields log
entry 40; fuse, map and MRAM contents log entry 3.)
Waking from Dormant. An enabled source wakes the package: it is shown in LAST_WAKE, every stack and the domains 169, 170, 172 and 173 that are OFF start, and the tiles and arrays in service wait for their slots; while the package still enters Dormant
the first source is latched (R473 to R475). The wake ends, once the stacks and 169 are up, in the saved state, or in recovery when the digest of the saved copy differs. -/
def Obligations.ResetsAndWakes : Prop :=
  (∀ s : State, s.domOn 168 = true → s.rd .PM_STAT_RAILS_OK = 0 →
    ∃ t, exec .railsGood s = .next t ∧ Effect s t ((R .PM_STAT_RAILS_OK, 1) :: (List.range 4).map (fun f => (R .PM_DOM_FSTATE 0 (164 + f), 2))
      ++ s.enableTakes (.dom 169) ++ s.enableTakes (.dom 170) ++ s.enableTakes (.dom 171)) [] s.parts)
  ∧ (∀ (s : State) (reversed : Bool), let c := if s.vr .WS_SEQ 0 1 ≤ s.vr .WS_SEQ 0 0 then 0 else 1
    ∃ t, exec (.auxPowerOn reversed) s = .next t ∧ t.gtc = 0 ∧ t.mem = [] ∧ t.parts = { Parts.mk0 with repairs := s.parts.repairs } ∧ t.fuses = s.fuses ∧ t.mram = s.mram
      ∧ t.rd .BB_HEAD_IDX = s.vr .WS_HEAD 0 c % 2 ^ Fld.BB_HEAD_IDX.width ∧ t.rd .BB_SEQ_NEXT = s.vr .WS_SEQ 0 c % 2 ^ Fld.BB_SEQ_NEXT.width ∧ t.dom 168 = (if reversed then 0 else 2)
      ∧ ∀ l, l ∉ [R .BB_HEAD_IDX, R .BB_SEQ_NEXT, R .BB_STAT_LAST_GASP, R .PM_DOM_FSTATE 0 168] → t.get l = if outlastsAux l then s.get l else l.resetVal)
  ∧ (∀ s : State, s.domOn 168 = true →
    let after := fun (t : State) => t.gtc = 0 ∧ t.parts = s.parts.aux ∧ t.rd .PM_STAT_LAST_RESET ∈ [1, 2] ∧ t.rd .PM_STAT_PSTATE = 0
      ∧ (∀ m < 64, t.byte (mboxBase m + 4) = 0xF1) ∧ (∀ a, (∀ m < 64, a ≠ mboxBase m + 4) → t.byte a = 0)
      ∧ (∀ l d, l.holder = some d → d ≠ 168 → t.get l = if l.sticky then s.get l else l.resetVal)
      ∧ (∀ l, l.sticky = true → l ≠ R .PM_STAT_LAST_RESET → t.get l = s.get l)
    (∃ t, exec .pkgResetPin s = .next t ∧ after t ∧ t.rd .PM_STAT_LAST_RESET = 1 ∧ t.rd .PM_STAT_RAILS_OK = 0 ∧ ∀ d < 174, d ≠ 168 → t.dom d = (Loc.reg .PM_DOM_FSTATE 0 d).resetVal)
    ∧ (s.rd .PM_STAT_RAILS_OK = 1 → ∃ t, exec .pkgReset s = .next t ∧ after t ∧ t.rd .PM_STAT_LAST_RESET = 2 ∧ ∀ d < 174, t.dom d = if 164 ≤ d ∧ d ≤ 168 then 2 else if 169 ≤ d ∧ d ≤ 171 then 1 else 0))
  ∧ (∀ (s : State) (rails : BitVec 3), s.domOn 168 = true → rails ≠ 0 → s.parts.rindQueue.length < 64 →
    ∃ t r, exec (.railLoss rails) s = .next t ∧ t.gtc = 0 ∧ t.rd .PM_STAT_RAILS_OK = 0 ∧ (∀ f < 4, t.dom (164 + f) = 0)
      ∧ t.parts.rindQueue = s.parts.rindQueue ++ [r] ∧ r.source = 0x0200 ∧ r.kind = 0x0002 ∧ r.fatal = true ∧ r.data.take 4 = leBytes 4 rails.toNat
      ∧ (∀ l d, l.holder = some d → d ≠ 168 → t.get l = l.resetVal))
  ∧ (∀ (s : State) (core : Fin 8) (periods : BitVec 32) (offset : BitVec 22), s.domOn 169 = true → s.parts.rindQueue.length < 64 →
    ∀ c ∈ [(Instr.mgmtWatchdog core periods, 0x0300 + core.val, 0x0005, 3), (.mgmtSramUe offset, 0x0200, 0x0006, 4)],
    ∃ t r, exec c.1 s = .next t ∧ t.parts = { s.parts.dropFirmware with rindQueue := s.parts.rindQueue ++ [r] } ∧ r.source = c.2.1 ∧ r.kind = c.2.2.1 ∧ r.fatal = true
      ∧ t.rd .PM_STAT_LAST_RESET = c.2.2.2 ∧ t.dom 169 = 1 ∧ t.rd .PM_STAT_PSTATE = 3
      ∧ (∀ m < 64, t.byte (mboxBase m + 4) = 0xF1) ∧ (∀ l, l.holder = some 169 → l.sticky = false → t.get l = l.resetVal)
      ∧ Within s t (fun l => (l.holder = some 169 ∧ l.sticky = false) ∨ rindPlaces l ∨ l ∈ [R .PM_STAT_LAST_RESET, R .PM_STAT_PSTATE, R .PM_DOM_EN 0 169, R .PM_DOM_FSTATE 0 169, R .PM_DOM_PEND_EN 0 169, R .PM_DOM_PEND_DIS 0 169,
            R .PM_DOM_SLOT_WAIT 0 169, V .FUNC_AT 40 169, R .SC_BOOT_VERIFIED, R .SC_LC_DEBUG])
          (fun x => (mboxBase 0 ≤ x ∧ x < mboxBase 64) ∨ (sramBase ≤ x ∧ x < sramBase + sramSize)))
  ∧ (∀ s : State, ∀ c ∈ [(Instr.wakePin, 2, s.rd .PM_DORM_WAKE_PIN_EN = 1), (.wakeWrite, 3, s.rd .PM_DORM_WAKE_I3C_EN = 1),
      (.wakeAlarm, 4, s.rd .PM_DORM_WAKE_ALARM_EN = 1 ∧ s.rd .PM_WAKE_AT_AT ≠ 0 ∧ s.gtc = s.rd .PM_WAKE_AT_AT)],
    (c.2.2 → s.rd .PM_STAT_PSTATE = 6 → ∃ t, exec c.1 s = .next t ∧ t.rd .PM_STAT_PSTATE = 7 ∧ t.rd .PM_DORM_LAST_WAKE = c.2.1 ∧ t.rd .PM_STAT_LAST_RESET = 5 ∧ t.vr .WAKE_LATCH = 0
        ∧ (∀ d, (80 ≤ d ∧ d < 100) ∨ d ∈ [169, 170, 172, 173] → s.dom d = 0 → t.dom d = 1)
        ∧ (∀ k ∈ s.inService, k < 40 → (s.dom k = 0 → t.rd .PM_DOM_PEND_EN 0 k = 1 ∧ t.rd .PM_DOM_SLOT_WAIT 0 k = 1) ∧ (s.dom (40 + k) = 0 → t.rd .PM_DOM_PEND_EN 0 (40 + k) = 1))
        ∧ Within s t (fun l => l ∈ [R .PM_STAT_PSTATE, R .PM_DORM_LAST_WAKE, R .PM_STAT_LAST_RESET, V .WAKE_LATCH, V .WAKE_AT, V .SLOT_AT]
            ∨ ∃ d, l ∈ [R .PM_DOM_EN 0 d, R .PM_DOM_FSTATE 0 d, R .PM_DOM_PEND_EN 0 d, R .PM_DOM_PEND_DIS 0 d, R .PM_DOM_SLOT_WAIT 0 d, V .FUNC_AT 40 d]) (fun _ => False))
    ∧ (c.2.2 → s.rd .PM_STAT_PSTATE = 5 → s.vr .WAKE_LATCH = 0 → ∃ t, exec c.1 s = .next t ∧ Effect s t [(V .WAKE_LATCH, c.2.1)] [] s.parts)
    ∧ (¬ c.2.2 ∨ (s.rd .PM_STAT_PSTATE ≠ 6 ∧ s.rd .PM_STAT_PSTATE ≠ 5) → exec c.1 s = .next s))
  ∧ (∀ s : State, s.rd .PM_STAT_PSTATE = 7 → s.domOn 169 = true → (∀ c < 20, s.domOn (80 + c) = true) → s.vr .WAKE_AT + 189000 ≤ s.clock →
    (s.savedBad = true → ∃ t, exec .wakeComplete s = .next t ∧ t.rd .PM_STAT_PSTATE = 3 ∧ t.rd .MB_STAT_FW_READY = 0 ∧ t.parts = s.parts.dropFirmware
        ∧ Within s t (fun l => l ∈ [R .PM_STAT_PSTATE, R .MB_STAT_FW_READY, R .SC_BOOT_VERIFIED, R .SC_LC_DEBUG]) (fun x => sramBase ≤ x ∧ x < sramBase + sramSize))
    ∧ (s.savedBad = false → s.wf = true → (∀ e ∈ s.parts.secSaved, secEntry e.1 = true) → (s.parts.secSaved.map Prod.fst).Nodup → s.vr .WAKE_AT + 1470000 ≤ s.clock →
        ∃ t, exec .wakeComplete s = .next t ∧ t.rd .PM_STAT_PSTATE = 4 ∧ t.rd .MB_STAT_FW_READY = 1 ∧ t.rd .MB_STAT_IFVER_MAJOR = 3 ∧ t.rd .MB_STAT_IFVER_MINOR = 1
          ∧ (∀ i < sramSize, t.byte (sramBase + i) = s.byte (fwRegion + i)) ∧ (∀ e ∈ s.parts.secSaved, t.get e.1 = e.2 % 2 ^ e.1.width) ∧ t.parts = s.parts))

/-! ### Power cap, heat and the field fuse bank (R456, R470 to R472) -/

/-- The power cap and heat. A sample of package power enters PM_POWER with its average over the last 1,024 samples, and the cap duty falls by 1 where the average passes the cap, at most once per 1,050,000 cycles, and to at most 4 after 16 samples above 1.1 times the
cap (R470); a die at DIE_WARN sets the thermal duty to 2 (R471); D steps by 1 toward the smaller duty, at most once in 128 cycles, and D = 1 is reported; a critical temperature asserts THERMTRIP_N and is recorded (R472). The field fuse bank takes the entry written 105,000
cycles after PROG, and refuses one while it programs or is full (R456). -/
def Obligations.PowerHeatAndFuses : Prop :=
  (∀ (s : State) (w hot16 : BitVec 16) (die : Fin 25), s.domOn 168 = true → s.vr .POW_AT = 0 ∨ s.vr .POW_AT - 1 + 1050 ≤ s.clock → s.vr .CAP_DUTY ≤ 8 → s.vr .CAP_OVER ≤ 16 →
    let watts := w.toNat
    let l := (watts :: s.parts.powSamples).take 1024
    let avg := l.foldl (· + ·) 0 / l.length
    let cap := s.rd .PM_CAP_WATTS
    let d := s.vr .CAP_DUTY
    let due := s.vr .CAP_FALL_AT = 0 ∨ s.vr .CAP_FALL_AT - 1 + 1050000 ≤ s.clock
    ∃ t, exec (.powerSample w hot16 die) s = .next t ∧ t.parts = { s.parts with powSamples := l } ∧ t.rd .PM_POWER_INST = watts ∧ t.rd .PM_POWER_AVG = avg % 65536
      ∧ t.rd .PM_POWER_PEAK = max watts (s.rd .PM_POWER_PEAK) % 65536 ∧ t.rd .PM_TEMP_DIE_MAX = hot16.toNat ∧ t.rd .PM_TEMP_HOT_DIE = die
      ∧ t.rd .PM_THROT_BY_CAP = (if t.vr .CAP_DUTY < 8 then 1 else 0)
      ∧ (cap < avg → due → 10 * watts ≤ 11 * cap → t.vr .CAP_DUTY = max 1 (d - 1))
      ∧ (15 ≤ s.vr .CAP_OVER → 11 * cap < 10 * watts → t.vr .CAP_DUTY ≤ 4)
      ∧ (avg ≤ cap → 98 * cap ≤ 100 * avg → 10 * watts ≤ 11 * cap → t.vr .CAP_DUTY = d)
      ∧ (100 * avg < 98 * cap → d < 8 → s.vr .CAP_RISE_AT + 1050000 ≤ s.clock → 10 * watts ≤ 11 * cap → t.vr .CAP_DUTY = d + 1)
      ∧ (16 * (s.rd .PM_TRIP_DIE_WARN : Int) ≤ toSigned 16 hot16.toNat → t.vr .THERM_DUTY = 2 ∧ t.rd .PM_THROT_BY_DIE = 1)
      ∧ Within s t (fun l => l ∈ [R .PM_POWER_INST, R .PM_POWER_AVG, R .PM_POWER_PEAK, R .PM_TEMP_DIE_MAX, R .PM_TEMP_HOT_DIE, R .PM_TEMP_PEAK, V .POW_AT, V .CAP_OVER, V .CAP_DUTY, R .PM_THROT_BY_CAP, V .CAP_FALL_AT, V .CAP_RISE_AT,
            R .PM_THROT_BY_DIE, R .PM_THROT_BY_STACK, V .THERM_DUTY, V .THERM_AT]) (fun _ => False))
  ∧ (∀ (s : State) (temp : BitVec 16) (die : Fin 25), s.domOn 168 = true → 16 * (s.rd .PM_TRIP_DIE_WARN : Int) ≤ toSigned 16 temp.toNat →
    ∃ t, exec (.dieWarning temp die) s = .next t ∧ t.rd .PM_TEMP_DIE_MAX = temp.toNat ∧ t.rd .PM_TEMP_HOT_DIE = die ∧ t.vr .THERM_DUTY = 2 ∧ t.rd .PM_THROT_BY_DIE = 1
      ∧ t.parts.work = s.parts.work ++ (if s.rd .PM_THROT_BY_DIE = 0 then [⟨.safety, .dieWarning, die, s.gtc⟩] else [])
      ∧ Within s t (fun l => l ∈ [R .PM_TEMP_DIE_MAX, R .PM_TEMP_HOT_DIE, R .PM_TEMP_PEAK, R .PM_THROT_BY_DIE, R .PM_THROT_BY_STACK, V .THERM_DUTY, V .THERM_AT]) (fun _ => False))
  ∧ (∀ s : State, let d := s.rd .PM_THROT_DUTY
    let target := min (s.vr .CAP_DUTY) (s.vr .THERM_DUTY)
    let free := s.vr .DUTY_AT = 0 ∨ s.vr .DUTY_AT - 1 + 128 ≤ s.clock
    let d' := if d < target then d + 1 else d - 1
    (d = target ∨ ¬ free → exec .dutyStep s = .next s)
    ∧ (s.domOn 168 = true → free → d ≠ target → d ≤ 8 → target ≤ 8 → ∃ t, exec .dutyStep s = .next t ∧ t.rd .PM_THROT_DUTY = d'
        ∧ (d' = 1 → s.fwReady = true → s.parts.events.length < 4096 → t.parts.events = s.parts.events ++ [⟨s.gtc, 0x0009, 0, 0xFF, [s.rd .PM_TEMP_HOT_DIE, s.rd .PM_TEMP_DIE_MAX]⟩])
        ∧ (d' ≠ 1 → t.parts.events = s.parts.events)
        ∧ ((target = s.vr .CAP_DUTY ∧ s.rd .PM_CTL_CAP_IRQ = 1) ∨ (target = s.vr .THERM_DUTY ∧ s.rd .PM_CTL_THERM_IRQ = 1) → t.parts.work = s.parts.work ++ [⟨.safety, .dutyChange, d', s.gtc⟩])
        ∧ Within s t (fun l => l ∈ [R .PM_THROT_DUTY, V .DUTY_AT, V .FR_THROTTLED, V .THROT_AT, R .PM_THROT_CYCLES, V .EVENTS_LOST]) (fun _ => False)))
  ∧ (∀ s : State, s.domOn 168 = true → s.vr .THERMTRIP ≠ 1 → s.parts.rindQueue.length < 64 →
    s.dieAt (s.rd .PM_TRIP_DIE_CRIT) = true ∨ (∃ c < 20, s.vr .TEMP_AT c ≠ 0 ∧ s.domOn (80 + c) = true ∧ 16 * ((s.rd .LS_CTL_TRIP c : Int) + 5) ≤ toSigned 16 (s.rd .LS_TEMP_CUR c)) →
    ∃ t r, exec .thermalCritical s = .next t ∧ t.vr .THERMTRIP = 1 ∧ t.rd .PM_STAT_CRIT = 1 ∧ t.parts.rindQueue = s.parts.rindQueue ++ [r] ∧ r.source = 0x0200 ∧ r.kind = 0x0003 ∧ r.fatal = true
      ∧ Within s t (fun l => rindPlaces l ∨ l = V .THERMTRIP ∨ l = R .PM_STAT_CRIT) (fun _ => False))
  ∧ (∀ s : State, s.domOn 168 = true → let n := s.fuses.entries.length
    ∃ t, exec .fuseProgram s = .next t
      ∧ (256 ≤ n → Effect s t [(R .PM_FUSE_CTL_STATUS, 0x8B)] [] s.parts)
      ∧ (n < 256 → s.rd .PM_FUSE_CTL_BUSY = 1 → Effect s t [(R .PM_FUSE_CTL_STATUS, 0x8C)] [] s.parts)
      ∧ (n < 256 → s.rd .PM_FUSE_CTL_BUSY ≠ 1 → Effect s t [(R .PM_FUSE_CTL_STATUS, 0), (R .PM_FUSE_CTL_BUSY, 1), (V .FUSE_WORD, s.fuseWord), (V .FUSE_AT, s.clock + 105000)] [] s.parts))
  ∧ (∀ s : State, s.domOn 168 = true → s.rd .PM_FUSE_CTL_BUSY = 1 → s.vr .FUSE_AT ≤ s.clock →
    ∃ t, exec .fuseProgramDone s = .next t ∧ t.fuses = { s.fuses with entries := s.fuses.entries ++ [s.vr .FUSE_WORD] } ∧ t.rd .PM_FUSE_CTL_BUSY = 0
      ∧ (∀ l, l ≠ R .PM_FUSE_CTL_BUSY → t.get l = s.get l) ∧ t.mem = s.mem ∧ t.parts = s.parts ∧ t.mram = s.mram ∧ t.gtc = s.gtc)

/-! ### Firmware load, the defect map, identity and the sideband (R452 to R458, R477 to R491, R500, R522) -/

/-- Firmware load. BOOT_IMAGE is served in BOOT_WAIT or RECOVERY: an image that fails R480's checks is refused with its status, counted and recorded, and the package is in recovery (R453, R480); one that passes all six is measured into slot 0, commits its fuses, and starts the
firmware, which applies the defect map, so that the logical tiles are the tiles in service in order, and starts the stacks (R452, R455, R479 to R481, R485). The verified rennet image goes to every tile in service, once all of them are ON (R458). SCRAP ends the lifecycle in RMA
(R487). (Signatures and key hashes are free values; repairs recorded at boot are log entry 45.) -/
def Obligations.FirmwareLoad : Prop :=
  (∀ (s : State) (image : List Byte), s.bootReady = false → exec (.bootImage image) s = .next s)
  ∧ (∀ (s : State) (image : List Byte), s.bootReady = true → let len := s.mbArg 0 0 4
    let img := image.take len ++ List.replicate (len - image.length) 0
    let st := if s.bootChecks img len ≠ 0 then s.bootChecks img len else if imageSigned img then 0 else 0x8A
    let h := leNat (img.take 64)
    let es := (s.fuses.entries ++ s.parts.repairs).take 256
    let good := tiles.filter fun t => !s.retiredTile es t
    (st ≠ 0 → ∃ t, exec (.bootImage image) s = .next t ∧ t.IsReturned 0 st [] ∧ t.rd .SC_BOOT_LAST_STATUS = st ∧ t.rd .PM_STAT_BOOT_FAILS = satAdd 16 (s.rd .PM_STAT_BOOT_FAILS) 1 % 65536 ∧ t.rd .PM_STAT_PSTATE = 3
        ∧ t.rd .SC_BOOT_VERIFIED = 0 ∧ t.fuses = s.fuses
        ∧ (s.parts.rindQueue.length < 56 → s.vr .GASP ≠ 1 → ∃ r, t.parts.rindQueue = s.parts.rindQueue ++ [r] ∧ r.source = 0x0400 ∧ r.kind = 0x0007 ∧ r.status = st))
    ∧ (st = 0 → ∃ t, exec (.bootImage image) s = .next t ∧ t.IsReturned 0 0 [] ∧ t.fuses = { fusesAfterBoot s.fuses h with entries := es } ∧ t.parts.repairs = []
        ∧ t.rd .PM_STAT_PSTATE = 4 ∧ t.rd .MB_STAT_FW_READY = 1 ∧ t.rd .SC_BOOT_VERIFIED = 1 ∧ t.rd .SC_BOOT_KEY_SLOT = bitsOf h 17 16 ∧ t.rd .SC_BOOT_SVN = bitsOf h 38 32 ∧ t.rd .SC_BOOT_LAST_STATUS = 0
        ∧ (∀ i < sramSize, t.byte (sramBase + i) = img.getD i 0)
        ∧ (∀ i < 4, t.rd .SC_MEAS_VALUE 0 i = leNat (((sha3_256 (img.take (2688 + bitsOf h 95 64))).drop (8 * i)).take 8))
        ∧ (s.vr .NI_MAP_SHUT = 0 → (∀ f < 4, ∀ l < 64, t.rd .NI_MAP_VALID f l = (if l < good.length then 1 else 0) ∧ t.rd .NI_MAP_PHYS f l = good.getD l 0) ∧ ∀ c < 20, s.dom (80 + c) = 0 → t.dom (80 + c) = 1)))
  ∧ (∀ (s : State) (bad : List Tile) (r : Rennet), s.parts.rennet = some r → s.rd .PM_STAT_PSTATE = 4 ∨ s.rd .PM_STAT_PSTATE = 7 → (∀ k ∈ s.inService, k < 40 ∧ s.domOn k = true) → s.inService.Nodup →
    ∃ t, exec (.rennetLoad none bad) s = .next t
      ∧ (∀ k ∈ s.inService, s.vr .TILE_HELD k = 0 → s.vr .RENNET_RUN k = 0 → (∀ b ∈ bad, b.val ≠ k) →
          t.rd .TC_CTL_RUN k = 1 ∧ t.vr .RENNET_RUN k = 1 ∧ (∀ i < 65536, t.byte (imemBase k + i) = r.imem.getD i 0 ∧ t.byte (dmemBase k + i) = r.dmem.getD i 0)
          ∧ (s.rd .TC_CTL_RUN k ≠ 1 → t.pc k = 4 * (r.entry % 2 ^ Fld.TC_EPC_PC.width) % 65536))
      ∧ (∀ k ∈ s.inService, (∃ b ∈ bad, b.val = k) → s.vr .TILE_HELD k = 0 → s.vr .RENNET_RUN k = 0 → packFields [(0, 1), (4, k)] ∈ t.parts.repairs ∧ t.rd .TC_CTL_RUN k = s.rd .TC_CTL_RUN k))
  ∧ (∀ s : State, exec .lifecycleScrap s = .next (if s.fuses.lifecycle = 2 ∧ s.dom 170 ≠ 0 then { s with fuses := { s.fuses with lifecycle := 3 } } else s))

/-- Measurements, boundary scan and the I3C sideband. An extend of slot 3 to 7 replaces it by the hash of the slot and the value; one that names another slot, or comes while an extend runs, is refused (R486). The TAP loads any instruction (R489). The I3C target sets its pointer, reads
records and registers from it and moves it on, wakes the package by its one write, takes an address, reports a swap in GETSTATUS, and exchanges swapped lines (R500, R522). (The other bits of GETSTATUS are free; the TAP's instruction after reset is PRESUMED, in the log.) -/
def Obligations.MeasurementsAndSideband : Prop :=
  (∀ (s : State) (v : W64), s.dom 170 ≠ 0 → testB v.toNat 5 = false → let k := bitsOf v.toNat 2 0
    ∃ t, exec (.measurementExtend v) s = .next t
      ∧ (testB v.toNat 3 = false → Effect s t [(R .SC_EXT_CTL_SLOT, k)] [] s.parts)
      ∧ (testB v.toNat 3 = true → s.rd .SC_EXT_CTL_BUSY = 1 ∨ k < 3 → Effect s t [(R .SC_EXT_CTL_REFUSED, 1)] [] s.parts)
      ∧ (testB v.toNat 3 = true → s.rd .SC_EXT_CTL_BUSY ≠ 1 → 3 ≤ k →
          Effect s t ([(R .SC_EXT_CTL_SLOT, k), (R .SC_EXT_CTL_BUSY, 1), (V .EXT_SLOT, k)] ++ (List.range 4).map fun i => (V .EXT_VAL 0 i, s.rd .SC_EXT_DATA_DATA 0 i)) [] s.parts))
  ∧ (∀ s : State, s.rd .SC_EXT_CTL_BUSY ≠ 0 → let k := s.vr .EXT_SLOT
    let new := sha3_256 (s.meas k ++ (List.range 4).flatMap fun i => leBytes 8 (s.vr .EXT_VAL 0 i))
    ∃ t, exec .measurementExtendDone s = .next t
      ∧ Effect s t ([(R .SC_EXT_CTL_BUSY, 0), (R .SC_OPS_EXTEND, satAdd 16 (s.rd .SC_OPS_EXTEND) 1)] ++ (List.range 4).map fun i => (R .SC_MEAS_VALUE 0 (4 * k + i), leNat ((new.drop (8 * i)).take 8))) [] s.parts)
  ∧ (∀ (s : State) (i : TapInstr), s.domOn 168 = true → ∃ t, exec (.tapInstruction i) s = .next t ∧ Effect s t [(V .TAP, tapCode i)] [] s.parts)
  ∧ (∀ s : State, s.domOn 168 = true → let bus := [(V .I3C_BUS_AT, s.clock), (V .I3C_SEEN, 1)]
    (∀ p : BitVec 32, ∃ t, exec (.i3cPointerWrite p) s = .next t ∧ Effect s t (bus ++ [(V .I3C_PTR, p.toNat)]) [] s.parts)
    ∧ (∀ (p : BitVec 32) (b : Byte), ∃ t, exec (.i3cWakeWrite p b) s = .next t
        ∧ (p ≠ 0x04000008 ∨ b ≠ 2 → Effect s t bus [] s.parts)
        ∧ (p = 0x04000008 → b = 2 → s.rd .PM_STAT_PSTATE ∉ [5, 6] → Effect s t (bus ++ [(V .I3C_PTR, p.toNat)]) [] s.parts)
        ∧ (p = 0x04000008 → b = 2 → s.rd .PM_STAT_PSTATE = 6 → s.rd .PM_DORM_WAKE_I3C_EN = 1 → t.rd .PM_STAT_PSTATE = 7 ∧ t.rd .PM_DORM_LAST_WAKE = 3))
    ∧ (∀ n : BitVec 16, let p := s.vr .I3C_PTR
        ∃ t, exec (.i3cPrivateRead n) s = .next t ∧ Effect s t (bus ++ [(V .I3C_PTR, p + n.toNat)]) [] { s.parts with i3cOut := (List.range n.toNat).map fun k => s.i3cByte ((p + k) % 2 ^ 32) })
    ∧ (∀ a : BitVec 7, ∃ t, exec (.i3cDynamicAddress a) s = .next t ∧ Effect s t (bus ++ [(V .I3C_DYN, a.toNat + 1)]) [] s.parts)
    ∧ (∃ t out, exec .i3cGetstatus s = .next t ∧ Effect s t (bus ++ [(V .FREE_CTR, s.vr .FREE_CTR + 1)]) [] { s.parts with i3cOut := out } ∧ out.length = 2 ∧ bitOf (leNat out) 8 = s.vr .I3C_SWAP % 2)
    ∧ (∀ e : BitVec 16, let swap := (s.vr .I3C_SEEN = 0 ∨ s.vr .I3C_BUS_AT + 1048576 ≤ s.clock) ∧ 16 ≤ e.toNat
        ∃ t, exec (.i3cSwapDetect e) s = .next t ∧ (swap → Effect s t ((V .I3C_SWAP, 1) :: bus) [] s.parts) ∧ (¬ swap → t = s)))

/-! ### Rules of the spec stated whole -/

/-- R62: a cancel inside the window [arm, L) of an Armed slot puts it in Cancelled, and the job does not start, neither now nor at L; a cancel at L or later changes nothing but TOO_LATE. -/
def Obligations.CancelWindow : Prop :=
  (∀ (s : State) (k : Fin 4) (node : BitVec 16), s.domOn 171 = true → s.rd .GT_LAUNCH_CTL_STATE 0 k = 1 →
    ∃ t, exec (.launchCancel k node) s = .next t
      ∧ (gtcBefore s.gtc (s.rd .GT_LAUNCH_AT_L 0 k) = true → t.rd .GT_LAUNCH_CTL_STATE 0 k = 2 ∧ ∀ n, t.rd .TC_CTL_RUN n = s.rd .TC_CTL_RUN n)
      ∧ (gtcBefore s.gtc (s.rd .GT_LAUNCH_AT_L 0 k) = false → Effect s t [(R .GT_LAUNCH_CTL_TOO_LATE 0 k, 1)] [] s.parts))
  ∧ (∀ (s : State) (k : Fin 4), s.rd .GT_LAUNCH_CTL_STATE 0 k = 2 → exec (.launchTaken k) s = .next s)

/-- R412: when a triggering step ends while a generation of an earlier step has no manifest yet, the cut is skipped. No cut order was posted for it, its generation ends with status 0x17, no slot is touched, and the next step opens at the cut. -/
def Obligations.SkippedCut : Prop :=
  (∀ (s : State) (n : Fin 64) (step : W64) (orders : List TileOrder) (j : Job) (k : Ck), s.jobAt n = some j → s.parts.ck.find n = some k → k.gens ≠ [] →
    ∃ t, exec (.cutOrder n step orders) s = .next t ∧ Within s t (fun _ => False) (fun _ => False))
  ∧ (∀ (s : State) (n : Fin 64) (entry : BitVec 48) (p1 p2 : Place) (j : Job) (k : Ck) (p : CkPolicy) (c : Nat), s.CutDue n j k p c → (∃ x ∈ k.gens, x.step ≠ c) → s.parts.events.length < 4096 →
    let g := ((k.gens.find? fun g => g.step == c).map CkGen.gen).getD k.next
    ∃ t k', exec (.checkpointCut n entry p1 p2) s = .next t
      ∧ t.parts.events = s.parts.events ++ [⟨s.gtc, 0x0003, 0x17, n, [g, c]⟩]
      ∧ t.parts.jobs.find n = some { j with step := c + 1, opened := s.gtc % 2 ^ 64 + 1, prevEnd := s.gtc }
      ∧ t.parts.ck.find n = some k' ∧ k'.newest = k.newest ∧ (∀ x ∈ k'.gens, x.gen ≠ g) ∧ t.parts.hostOut = s.parts.hostOut ∧ t.parts.fwOut = s.parts.fwOut
      ∧ Within s t (fun _ => False) (fun _ => False))

/-- R489: the TAP takes every instruction. BYPASS, IDCODE and SAMPLE/PRELOAD are served always, EXTEST and its kin only in AUX_ONLY and BOOT_WAIT and as BYPASS otherwise; while one of them is current BOOT_IMAGE is not acknowledged, and once another is loaded it is. -/
def Obligations.BoundaryScan : Prop :=
  (∀ (s : State) (i : TapInstr), s.domOn 168 = true →
    ∃ t, exec (.tapInstruction i) s = .next t
      ∧ (i ∈ [.bypass, .idcode, .samplePreload] → t.tapServed = tapCode i)
      ∧ (i ∈ [.extest, .extestPulse, .extestTrain] → t.tapServed = if s.rd .PM_STAT_PSTATE = 0 ∨ s.rd .PM_STAT_PSTATE = 1 then tapCode i else tapCode .bypass))
  ∧ (∀ (s : State) (i : TapInstr) (image : List Byte), i ∈ [.extest, .extestPulse, .extestTrain] → s.vr .TAP = tapCode i → exec (.bootImage image) s = .next s)
  ∧ (∀ (s : State) (i : TapInstr) (image : List Byte), i ∉ [.extest, .extestPulse, .extestTrain] → s.vr .TAP = tapCode i → s.domOn 169 = true → s.domOn 170 = true →
    s.rd .PM_STAT_PSTATE = 1 ∨ s.rd .PM_STAT_PSTATE = 3 → s.mbOwn 0 = true → s.mbCmd 0 = 0xFF01 → ∃ t, exec (.bootImage image) s = .next t ∧ t.mbAck 0 = true)

/-- R522: at the start of domain 168 and after 1,048,576 cycles of silence, 16 or more edges on SDA are taken as swapped lines; GETSTATUS shows the swap in bit 8, and no command but the next aux power-on takes it back. -/
def Obligations.LineSwap : Prop :=
  (∀ (s : State) (e : BitVec 16), s.domOn 168 = true → s.vr .I3C_SEEN = 0 ∨ s.vr .I3C_BUS_AT + 1048576 ≤ s.clock →
    ∃ t, exec (.i3cSwapDetect e) s = .next t ∧ (16 ≤ e.toNat → t.vr .I3C_SWAP = 1) ∧ (e.toNat < 16 → t = s))
  ∧ (∀ s : State, s.domOn 168 = true → ∃ t, exec .i3cGetstatus s = .next t ∧ t.parts.i3cOut.length = 2 ∧ bitOf (leNat t.parts.i3cOut) 8 = s.vr .I3C_SWAP % 2)
  ∧ (∀ (s t : State) (c : Instr), exec c s = .next t → (∀ r, c ≠ .auxPowerOn r) → s.vr .I3C_SWAP = 1 → t.vr .I3C_SWAP = 1)
  ∧ (∀ (s : State) (r : Bool), ∃ t, exec (.auxPowerOn r) s = .next t ∧ t.vr .I3C_SWAP = 0 ∧ t.vr .I3C_SEEN = 0)

/-- R464: while JOB_READY is 0, JOB_SETUP returns 0x8C; TELEM_READ of group 0x0000 returns PM_READY and PM_STAT as they were when the group was sampled. -/
def Obligations.ReadinessGate : Prop :=
  (∀ (s : State) (m : Fin 64) (agree : Bool), s.serves m 0x0301 = true → s.jobReady = false → ∃ t, exec (.jobSetup m agree) s = .next t ∧ t.IsReturned m 0x8C [])
  ∧ (∀ s : State, s.fwReady = true → 8 * 2 ^ s.rd .MB_STAT_TELEM_SHIFT ≤ s.vr .PERIOD_CNT →
    ∃ t g, exec .telemetrySample s = .next t ∧ t.parts.telem.find 0 = some ⟨[s.regWord .pm 0 "PM_READY", s.regWord .pm 0 "PM_STAT"], g⟩)
  ∧ (∀ (s : State) (m : Fin 64) (ready stat g : Nat), s.serves m 0x0401 = true → s.mbArg m 0 2 = 0 → s.parts.telem.find 0 = some ⟨[ready, stat], g⟩ →
    ∃ t, exec (.telemRead m) s = .next t ∧ t.mbOwn m = false ∧ t.num (mboxBase m + 4) 1 = 0 ∧ t.num (mboxBase m + 64) 8 = ready % 2 ^ 64 ∧ t.num (mboxBase m + 72) 8 = stat % 2 ^ 64)
end

