-- ==== Sys2Proof/Laws/Sparse.lean ====
section
/-! SUPPORT. Sparse data: what a read gives after a write, and that writes and clears keep the canonical form. -/
namespace Sys2Proof.Machine

theorem sget_filter_same {κ α : Type} (num : κ → Nat) (dflt : κ → α) (l : List (κ × α)) (k : κ) :
    sget num dflt (l.filter (fun e => num e.1 != num k)) k = dflt k := by
  induction l with
  | nil => rfl
  | cons e t ih =>
    obtain ⟨k', v'⟩ := e
    by_cases h : num k' = num k
    · simp [List.filter, h, ih]
    · have : (num k' != num k) = true := by simp [h]
      simp [List.filter, this, sget, h, ih]

theorem sget_filter_other {κ α : Type} (num : κ → Nat) (dflt : κ → α) (l : List (κ × α)) (k a : κ) (h : num a ≠ num k) :
    sget num dflt (l.filter (fun e => num e.1 != num k)) a = sget num dflt l a := by
  induction l with
  | nil => rfl
  | cons e t ih =>
    obtain ⟨k', v'⟩ := e
    by_cases hk : num k' = num k
    · have : num k' ≠ num a := by omega
      simp [List.filter, hk, sget, ih, Ne.symm h]
    · have : (num k' != num k) = true := by simp [hk]
      simp [List.filter, this, sget, ih]

theorem sget_sins_same {κ α : Type} (num : κ → Nat) (dflt : κ → α) (l : List (κ × α)) (k : κ) (v : α) :
    sget num dflt (sins num l k v) k = v := by
  induction l with
  | nil => simp [sins, sget]
  | cons e t ih =>
    obtain ⟨k', v'⟩ := e
    unfold sins
    split
    · simp [sget]
    · split
      · simp [sget]
      · simp [sget, *]

theorem sget_sins_other {κ α : Type} (num : κ → Nat) (dflt : κ → α) (l : List (κ × α)) (k a : κ) (v : α) (h : num a ≠ num k) :
    sget num dflt (sins num l k v) a = sget num dflt l a := by
  induction l with
  | nil => simp [sins, sget, Ne.symm h]
  | cons e t ih =>
    obtain ⟨k', v'⟩ := e
    unfold sins
    split
    · simp [sget, Ne.symm h]
    · split
      · rename_i h2
        simp [sget, Ne.symm h, h2]
      · simp [sget, ih]

/-- A read of the key just written gives the value written. -/
theorem sget_sput_same {κ α : Type} [DecidableEq α] (num : κ → Nat) (dflt : κ → α) (l : List (κ × α)) (k : κ) (v : α) :
    sget num dflt (sput num dflt l k v) k = v := by
  unfold sput
  split
  · rename_i h
    rw [sget_filter_same, h]
  · exact sget_sins_same num dflt l k v

/-- A write leaves every other key alone. -/
theorem sget_sput_other {κ α : Type} [DecidableEq α] (num : κ → Nat) (dflt : κ → α) (l : List (κ × α)) (k a : κ) (v : α)
    (h : num a ≠ num k) : sget num dflt (sput num dflt l k v) a = sget num dflt l a := by
  unfold sput
  split
  · exact sget_filter_other num dflt l k a h
  · exact sget_sins_other num dflt l k a v h

/-! ### The canonical form -/

theorem swfFrom_weaken {κ α : Type} [DecidableEq α] (num : κ → Nat) (dflt : κ → α) (l : List (κ × α)) (m n : Nat) (hmn : m ≤ n)
    (h : swfFrom num dflt (some n) l = true) : swfFrom num dflt (some m) l = true := by
  cases l with
  | nil => rfl
  | cons e t =>
    obtain ⟨k, v⟩ := e
    simp only [swfFrom, Bool.and_eq_true, decide_eq_true_eq] at h ⊢
    exact ⟨⟨by omega, h.1.2⟩, h.2⟩

theorem swfFrom_none {κ α : Type} [DecidableEq α] (num : κ → Nat) (dflt : κ → α) (l : List (κ × α)) (n : Nat)
    (h : swfFrom num dflt (some n) l = true) : swfFrom num dflt none l = true := by
  cases l with
  | nil => rfl
  | cons e t =>
    obtain ⟨k, v⟩ := e
    simp only [swfFrom, Bool.and_eq_true, Bool.true_and] at h ⊢
    exact ⟨h.1.2, h.2⟩

/-- Dropping entries keeps the canonical form. -/
theorem swfFrom_filter {κ α : Type} [DecidableEq α] (num : κ → Nat) (dflt : κ → α) (p : κ × α → Bool) (l : List (κ × α)) :
    ∀ lo, swfFrom num dflt lo l = true → swfFrom num dflt lo (l.filter p) = true := by
  induction l with
  | nil => intro lo _; cases lo <;> rfl
  | cons e t ih =>
    obtain ⟨k, v⟩ := e
    intro lo h
    have h' := h
    simp only [swfFrom, Bool.and_eq_true] at h'
    have ht := ih (some (num k)) h'.2
    by_cases hp : p (k, v) = true
    · rw [List.filter_cons_of_pos hp]
      simp only [swfFrom, Bool.and_eq_true]
      exact ⟨h'.1, ht⟩
    · rw [List.filter_cons_of_neg hp]
      cases lo with
      | none => exact swfFrom_none num dflt _ _ ht
      | some n =>
        have : n < num k := by simpa using h'.1.1
        exact swfFrom_weaken num dflt _ n (num k) (by omega) ht

theorem swfFrom_sins {κ α : Type} [DecidableEq α] (num : κ → Nat) (dflt : κ → α) (k : κ) (v : α) (hv : v ≠ dflt k)
    (l : List (κ × α)) : ∀ lo : Option Nat, (∀ n, lo = some n → n < num k) → swfFrom num dflt lo l = true →
      swfFrom num dflt lo (sins num l k v) = true := by
  induction l with
  | nil =>
    intro lo hlo _
    cases lo with
    | none => simp [sins, swfFrom, hv]
    | some n => simp [sins, swfFrom, hv, hlo n rfl]
  | cons e t ih =>
    obtain ⟨k', v'⟩ := e
    intro lo hlo h
    have h' := h
    simp only [swfFrom, Bool.and_eq_true] at h'
    unfold sins
    split
    · rename_i hlt
      simp only [swfFrom, Bool.and_eq_true, decide_eq_true_eq]
      refine ⟨⟨?_, by simp [hv]⟩, ⟨⟨hlt, h'.1.2⟩, h'.2⟩⟩
      cases lo with
      | none => rfl
      | some n => simpa using hlo n rfl
    · split
      · rename_i heq
        simp only [swfFrom, Bool.and_eq_true]
        refine ⟨⟨?_, by simp [hv]⟩, by rw [← heq]; exact h'.2⟩
        cases lo with
        | none => rfl
        | some n => simpa using hlo n rfl
      · rename_i h1 h2
        simp only [swfFrom, Bool.and_eq_true]
        exact ⟨h'.1, ih (some (num k')) (by intro n hn; cases hn; omega) h'.2⟩

/-- A write keeps the canonical form. -/
theorem swf_sput {κ α : Type} [DecidableEq α] (num : κ → Nat) (dflt : κ → α) (l : List (κ × α)) (k : κ) (v : α)
    (h : swf num dflt l = true) : swf num dflt (sput num dflt l k v) = true := by
  unfold sput
  split
  · exact swfFrom_filter num dflt _ l none h
  · exact swfFrom_sins num dflt k v (by assumption) l none (by intro n hn; cases hn) h

/-- A clear keeps the canonical form. -/
theorem swf_filter {κ α : Type} [DecidableEq α] (num : κ → Nat) (dflt : κ → α) (l : List (κ × α)) (p : κ × α → Bool)
    (h : swf num dflt l = true) : swf num dflt (l.filter p) = true :=
  swfFrom_filter num dflt p l none h

/-! ### Reads after a clear -/

/-- A cleared key reads as an unlisted one. -/
theorem sget_clear_same {κ α : Type} (num : κ → Nat) (hinj : ∀ a b, num a = num b → a = b) (dflt : κ → α) (l : List (κ × α))
    (p : κ → Bool) (k : κ) (h : p k = true) : sget num dflt (l.filter fun e => !p e.1) k = dflt k := by
  induction l with
  | nil => rfl
  | cons e t ih =>
    obtain ⟨k', v'⟩ := e
    by_cases hp : p k' = true
    · simp [List.filter, hp, ih]
    · have hp' : p k' = false := by simpa using hp
      have : num k' ≠ num k := fun hk => by rw [hinj _ _ hk, h] at hp; exact hp rfl
      simp [List.filter, hp', sget, this, ih]

/-- A clear leaves the keys outside it alone. -/
theorem sget_clear_other {κ α : Type} (num : κ → Nat) (hinj : ∀ a b, num a = num b → a = b) (dflt : κ → α) (l : List (κ × α))
    (p : κ → Bool) (k : κ) (h : p k = false) : sget num dflt (l.filter fun e => !p e.1) k = sget num dflt l k := by
  induction l with
  | nil => rfl
  | cons e t ih =>
    obtain ⟨k', v'⟩ := e
    by_cases hp : p k' = true
    · have : num k' ≠ num k := fun hk => by rw [hinj _ _ hk, h] at hp; cases hp
      simp [List.filter, hp, sget, this, ih]
    · have hp' : p k' = false := by simpa using hp
      simp [List.filter, hp', sget, ih]

/-! ### Maps on numbers -/

@[simp] theorem NMap.find_put_same {α : Type} [DecidableEq α] (m : NMap α) (k : Nat) (v : Option α) : (m.put k v).find k = v :=
  sget_sput_same _ _ m k v

@[simp] theorem NMap.find_put_other {α : Type} [DecidableEq α] (m : NMap α) (k j : Nat) (v : Option α) (h : j ≠ k) :
    (m.put k v).find j = m.find j := sget_sput_other _ _ m k j v h

@[simp] theorem LMap.at_set_same {α : Type} [DecidableEq α] (m : LMap α) (k : Nat) (v : List α) : (m.set k v).at k = v :=
  sget_sput_same _ _ m k v

@[simp] theorem LMap.at_set_other {α : Type} [DecidableEq α] (m : LMap α) (k j : Nat) (v : List α) (h : j ≠ k) :
    (m.set k v).at j = m.at j := sget_sput_other _ _ m k j v h

/-! ### The numbers of places -/

theorem pairNat_inj (a b c d : Nat) (h : pairNat a b = pairNat c d) : a = c ∧ b = d := by
  unfold pairNat at h
  have key : ∀ m n x y : Nat, x < 2 * m + 1 → y < 2 * n + 1 → m * m + x = n * n + y → m = n := by
    intro m n x y hx hy he
    rcases Nat.lt_trichotomy m n with hlt | heq | hgt
    · have : (m + 1) * (m + 1) ≤ n * n := Nat.mul_le_mul hlt hlt
      have : (m + 1) * (m + 1) = m * m + 2 * m + 1 := by rw [Nat.mul_add, Nat.add_mul]; omega
      omega
    · exact heq
    · have : (n + 1) * (n + 1) ≤ m * m := Nat.mul_le_mul hgt hgt
      have : (n + 1) * (n + 1) = n * n + 2 * n + 1 := by rw [Nat.mul_add, Nat.add_mul]; omega
      omega
  split at h <;> split at h
  · have := key b d a c (by omega) (by omega) h; subst this; omega
  · have := key b c a (c + d) (by omega) (by omega) (by omega); subst this; omega
  · have := key a d (a + b) c (by omega) (by omega) (by omega); subst this; omega
  · have := key a c (a + b) (c + d) (by omega) (by omega) (by omega); subst this; omega

/-- No two places share a number. -/
theorem Loc.num_inj (a b : Loc) (h : a.num = b.num) : a = b := by
  cases a <;> cases b <;> simp only [Loc.num] at h <;> obtain ⟨h1, h2⟩ := pairNat_inj _ _ _ _ h
  · obtain ⟨rfl, rfl⟩ := pairNat_inj _ _ _ _ h1
    rename_i f _ _ g
    have hc : f.ctorIdx = g.ctorIdx := by omega
    have := congrArg Fld.ofNat hc
    simp only [Fld.ofNat_ctorIdx] at this
    rw [this]
  · omega
  · omega
  · obtain ⟨rfl, rfl⟩ := pairNat_inj _ _ _ _ h1
    rename_i f _ _ g
    have hc : f.ctorIdx = g.ctorIdx := by omega
    have := congrArg Var.ofNat hc
    simp only [Var.ofNat_ctorIdx] at this
    rw [this]

end Sys2Proof.Machine
end

