-- ==== Sys2Proof/Laws/State.lean ====
section
/-! SUPPORT. What each act changes, and that it changes nothing else; runs of acts and plans. -/
namespace Sys2Proof.Machine

/-! ### One act -/

theorem get_act_reg (s : State) (f : Fld) (i j v : Nat) (l : Loc) :
    (s.act (.reg f i j v)).get l = if l = .reg f i j then v % 2 ^ f.width else s.get l := by
  split
  · rename_i h; subst h; exact sget_sput_same _ _ _ _ _
  · rename_i h; exact sget_sput_other _ _ _ _ _ _ (fun e => h (Loc.num_inj _ _ e))

theorem get_act_var (s : State) (x : Var) (i j v : Nat) (l : Loc) :
    (s.act (.var x i j v)).get l = if l = .var x i j then v % 2 ^ x.width else s.get l := by
  split
  · rename_i h; subst h; exact sget_sput_same _ _ _ _ _
  · rename_i h; exact sget_sput_other _ _ _ _ _ _ (fun e => h (Loc.num_inj _ _ e))

@[simp] theorem get_act_byte (s : State) (a : Nat) (b : Byte) (l : Loc) : (s.act (.byte a b)).get l = s.get l := rfl

@[simp] theorem get_act_parts (s : State) (f : Parts → Parts) (l : Loc) : (s.act (.parts f)).get l = s.get l := rfl

@[simp] theorem get_act_clearMem (s : State) (p : Nat → Bool) (l : Loc) : (s.act (.clearMem p)).get l = s.get l := rfl

theorem get_act_clear (s : State) (p : Loc → Bool) (l : Loc) :
    (s.act (.clear p)).get l = if p l then l.resetVal else s.get l := by
  split
  · rename_i h; exact sget_clear_same _ Loc.num_inj _ _ p l h
  · rename_i h; exact sget_clear_other _ Loc.num_inj _ _ p l (by simpa using h)

@[simp] theorem byte_act_reg (s : State) (f : Fld) (i j v a : Nat) : (s.act (.reg f i j v)).byte a = s.byte a := rfl
@[simp] theorem byte_act_var (s : State) (x : Var) (i j v a : Nat) : (s.act (.var x i j v)).byte a = s.byte a := rfl
@[simp] theorem byte_act_parts (s : State) (f : Parts → Parts) (a : Nat) : (s.act (.parts f)).byte a = s.byte a := rfl
@[simp] theorem byte_act_clear (s : State) (p : Loc → Bool) (a : Nat) : (s.act (.clear p)).byte a = s.byte a := rfl

theorem byte_act_byte (s : State) (x : Nat) (b : Byte) (a : Nat) :
    (s.act (.byte x b)).byte a = if a = x then b else s.byte a := by
  split
  · rename_i h; subst h; exact sget_sput_same _ _ _ _ _
  · rename_i h; exact sget_sput_other _ _ _ _ _ _ h

theorem byte_act_clearMem (s : State) (p : Nat → Bool) (a : Nat) :
    (s.act (.clearMem p)).byte a = if p a then 0 else s.byte a := by
  split
  · rename_i h; exact sget_clear_same _ (fun _ _ e => e) _ _ p a h
  · rename_i h; exact sget_clear_other _ (fun _ _ e => e) _ _ p a (by simpa using h)

@[simp] theorem parts_act_reg (s : State) (f : Fld) (i j v : Nat) : (s.act (.reg f i j v)).parts = s.parts := rfl
@[simp] theorem parts_act_var (s : State) (x : Var) (i j v : Nat) : (s.act (.var x i j v)).parts = s.parts := rfl
@[simp] theorem parts_act_byte (s : State) (a : Nat) (b : Byte) : (s.act (.byte a b)).parts = s.parts := rfl
@[simp] theorem parts_act_parts (s : State) (f : Parts → Parts) : (s.act (.parts f)).parts = f s.parts := rfl
@[simp] theorem parts_act_clear (s : State) (p : Loc → Bool) : (s.act (.clear p)).parts = s.parts := rfl
@[simp] theorem parts_act_clearMem (s : State) (p : Nat → Bool) : (s.act (.clearMem p)).parts = s.parts := rfl

@[simp] theorem pending_act (s : State) (a : Act) : (s.act a).pending = s.pending := by cases a <;> rfl
@[simp] theorem gtc_act (s : State) (a : Act) : (s.act a).gtc = s.gtc := by cases a <;> rfl
@[simp] theorem clock_act (s : State) (a : Act) : (s.act a).clock = s.clock := by cases a <;> rfl
@[simp] theorem fuses_act (s : State) (a : Act) : (s.act a).fuses = s.fuses := by cases a <;> rfl
@[simp] theorem mram_act (s : State) (a : Act) : (s.act a).mram = s.mram := by cases a <;> rfl

/-! ### Runs of acts, and plans -/

@[simp] theorem run_nil (s : State) : s.run [] = s := rfl
@[simp] theorem run_cons (s : State) (a : Act) (as : List Act) : s.run (a :: as) = (s.act a).run as := rfl

@[simp] theorem run_append (s : State) (as bs : List Act) : s.run (as ++ bs) = (s.run as).run bs := by
  induction as generalizing s with
  | nil => rfl
  | cons a as ih => exact ih _

@[simp] theorem pending_run (s : State) (as : List Act) : (s.run as).pending = s.pending := by
  induction as generalizing s with
  | nil => rfl
  | cons a as ih => rw [run_cons, ih, pending_act]

@[simp] theorem gtc_run (s : State) (as : List Act) : (s.run as).gtc = s.gtc := by
  induction as generalizing s with
  | nil => rfl
  | cons a as ih => rw [run_cons, ih, gtc_act]

@[simp] theorem clock_run (s : State) (as : List Act) : (s.run as).clock = s.clock := by
  induction as generalizing s with
  | nil => rfl
  | cons a as ih => rw [run_cons, ih, clock_act]

@[simp] theorem fuses_run (s : State) (as : List Act) : (s.run as).fuses = s.fuses := by
  induction as generalizing s with
  | nil => rfl
  | cons a as ih => rw [run_cons, ih, fuses_act]

@[simp] theorem mram_run (s : State) (as : List Act) : (s.run as).mram = s.mram := by
  induction as generalizing s with
  | nil => rfl
  | cons a as ih => rw [run_cons, ih, mram_act]

@[simp] theorem pending_perform (s : State) (p : Plan) : (s.perform p).pending = s.pending := pending_run _ _
@[simp] theorem gtc_perform (s : State) (p : Plan) : (s.perform p).gtc = s.gtc := gtc_run _ _
@[simp] theorem clock_perform (s : State) (p : Plan) : (s.perform p).clock = s.clock := clock_run _ _
@[simp] theorem fuses_perform (s : State) (p : Plan) : (s.perform p).fuses = s.fuses := fuses_run _ _
@[simp] theorem mram_perform (s : State) (p : Plan) : (s.perform p).mram = s.mram := mram_run _ _

theorem perform_plans_nil (s : State) : s.perform (plans []) = s := rfl

theorem perform_seq (s : State) (p q : Plan) : s.perform (Plan.seq p q) = (s.perform p).perform q := by
  simp [State.perform, Plan.seq]

theorem perform_plans_cons (s : State) (p : Plan) (ps : List Plan) :
    s.perform (plans (p :: ps)) = (s.perform p).perform (plans ps) := perform_seq s p (plans ps)

theorem perform_planIf (s : State) (c : State → Bool) (p : Plan) :
    s.perform (planIf c p) = if c s then s.perform p else s := by
  unfold State.perform planIf; split <;> rfl

/-! ### Bytes written one after another -/

theorem get_run_putBytes (bs : List Byte) (l : Loc) : ∀ (s : State) (a : Nat), (s.run (putBytes a bs)).get l = s.get l := by
  induction bs with
  | nil => intros; rfl
  | cons b bs ih => intro s a; simp [putBytes, ih]

theorem parts_run_putBytes (bs : List Byte) : ∀ (s : State) (a : Nat), (s.run (putBytes a bs)).parts = s.parts := by
  induction bs with
  | nil => intros; rfl
  | cons b bs ih => intro s a; simp [putBytes, ih]

/-- Bytes outside the stored ones keep their values. -/
theorem byte_run_putBytes_other (bs : List Byte) (x : Nat) : ∀ (s : State) (a : Nat), x < a ∨ a + bs.length ≤ x →
    (s.run (putBytes a bs)).byte x = s.byte x := by
  induction bs with
  | nil => intros; rfl
  | cons b bs ih =>
    intro s a h
    simp only [List.length_cons] at h
    simp only [putBytes, run_cons]
    rw [ih _ _ (by omega), byte_act_byte, if_neg (by omega)]

/-- The stored bytes read back. -/
theorem byte_run_putBytes (bs : List Byte) : ∀ (s : State) (a k : Nat) (h : k < bs.length),
    (s.run (putBytes a bs)).byte (a + k) = bs[k] := by
  induction bs with
  | nil => intro s a k h; exact absurd h (by simp)
  | cons b bs ih =>
    intro s a k h
    simp only [putBytes, run_cons]
    cases k with
    | zero => rw [byte_run_putBytes_other _ _ _ _ (by omega), byte_act_byte]; simp
    | succ k =>
      have := ih (s.act (.byte a b)) (a + 1) k (by simpa using h)
      rw [show a + (k + 1) = a + 1 + k by omega, this]; rfl

end Sys2Proof.Machine
end

