-- ==== Sys2Proof/Laws/Frames.lean ====
section
/-! SUPPORT. Which places and bytes an act, a list of acts and a plan can change, and what follows for the state after them. -/
namespace Sys2Proof.Machine

/-- The act changes no place outside `P` and no byte outside `B`. -/
def Act.inside (P : Loc → Prop) (B : Nat → Prop) : Act → Prop
  | .reg f i j _ => P (.reg f i j)
  | .var v i j _ => P (.var v i j)
  | .byte a _ => B a
  | .parts _ => True
  | .clear p => ∀ l, p l = true → P l
  | .clearMem p => ∀ a, p a = true → B a

/-- Every act of the list stays inside. -/
def ActsIn (P : Loc → Prop) (B : Nat → Prop) (as : List Act) : Prop := ∀ a ∈ as, a.inside P B

/-- Every act of the plan stays inside, in every state. -/
def PlanIn (P : Loc → Prop) (B : Nat → Prop) (p : Plan) : Prop := ∀ s, ActsIn P B (p s)

variable {P : Loc → Prop} {B : Nat → Prop}

theorem actsIn_nil : ActsIn P B [] := fun _ h => absurd h (by simp)

theorem actsIn_cons {a : Act} {as : List Act} (h : a.inside P B) (ht : ActsIn P B as) : ActsIn P B (a :: as) := by
  intro x hx
  rcases List.mem_cons.1 hx with rfl | hx
  · exact h
  · exact ht x hx

theorem actsIn_cons_iff {a : Act} {as : List Act} : ActsIn P B (a :: as) ↔ a.inside P B ∧ ActsIn P B as :=
  ⟨fun h => ⟨h a (by simp), fun x hx => h x (by simp [hx])⟩, fun h => actsIn_cons h.1 h.2⟩

theorem actsIn_append {as bs : List Act} : ActsIn P B (as ++ bs) ↔ ActsIn P B as ∧ ActsIn P B bs := by
  unfold ActsIn; constructor
  · exact fun h => ⟨fun a ha => h a (by simp [ha]), fun a ha => h a (by simp [ha])⟩
  · rintro ⟨h1, h2⟩ a ha
    rcases List.mem_append.1 ha with ha | ha
    · exact h1 a ha
    · exact h2 a ha

theorem actsIn_map {α : Type} {l : List α} {f : α → Act} (h : ∀ x ∈ l, (f x).inside P B) : ActsIn P B (l.map f) := by
  intro a ha
  obtain ⟨x, hx, rfl⟩ := List.mem_map.1 ha
  exact h x hx

theorem actsIn_flatMap {α : Type} {l : List α} {f : α → List Act} (h : ∀ x ∈ l, ActsIn P B (f x)) : ActsIn P B (l.flatMap f) := by
  intro a ha
  obtain ⟨x, hx, hb⟩ := List.mem_flatMap.1 ha
  exact h x hx a hb

theorem actsIn_putBytes (bs : List Byte) : ∀ (a : Nat), (∀ k, k < bs.length → B (a + k)) → ActsIn P B (putBytes a bs) := by
  induction bs with
  | nil => intros; exact actsIn_nil
  | cons b bs ih =>
    intro a h
    refine actsIn_cons (by simpa [Act.inside] using h 0 (by simp)) (ih (a + 1) fun k hk => ?_)
    have := h (k + 1) (by simpa using hk)
    rwa [show a + (k + 1) = a + 1 + k by omega] at this

theorem planIn_plans {ps : List Plan} (h : ∀ p ∈ ps, PlanIn P B p) : PlanIn P B (plans ps) := by
  induction ps with
  | nil => exact fun _ => actsIn_nil
  | cons p ps ih =>
    intro s
    exact actsIn_append.2 ⟨h p (by simp) s, ih (fun q hq => h q (by simp [hq])) _⟩

theorem planIn_planIf {c : State → Bool} {p : Plan} (h : PlanIn P B p) : PlanIn P B (planIf c p) := by
  intro s; unfold planIf; split
  · exact h s
  · exact actsIn_nil

theorem planIn_planAll {α : Type} {l : List α} {p : α → Plan} (h : ∀ x ∈ l, PlanIn P B (p x)) : PlanIn P B (planAll l p) := by
  refine planIn_plans fun q hq => ?_
  obtain ⟨x, hx, rfl⟩ := List.mem_map.1 hq
  exact h x hx

/-! ### What acts inside leave alone -/

theorem get_run_of_actsIn {as : List Act} {l : Loc} (hl : ¬ P l) : ∀ s : State, ActsIn P B as → (s.run as).get l = s.get l := by
  induction as with
  | nil => intros; rfl
  | cons a as ih =>
    intro s h
    rw [run_cons, ih _ (actsIn_cons_iff.1 h).2]
    have ha := (actsIn_cons_iff.1 h).1
    cases a with
    | reg f i j v => rw [get_act_reg, if_neg]; rintro rfl; exact hl ha
    | var f i j v => rw [get_act_var, if_neg]; rintro rfl; exact hl ha
    | byte a b => rfl
    | parts f => rfl
    | clear p => rw [get_act_clear, if_neg]; exact fun hp => hl (ha l hp)
    | clearMem p => rfl

theorem byte_run_of_actsIn {as : List Act} {x : Nat} (hx : ¬ B x) : ∀ s : State, ActsIn P B as → (s.run as).byte x = s.byte x := by
  induction as with
  | nil => intros; rfl
  | cons a as ih =>
    intro s h
    rw [run_cons, ih _ (actsIn_cons_iff.1 h).2]
    have ha := (actsIn_cons_iff.1 h).1
    cases a with
    | reg f i j v => rfl
    | var f i j v => rfl
    | byte a b => rw [byte_act_byte, if_neg]; rintro rfl; exact hx ha
    | parts f => rfl
    | clear p => rfl
    | clearMem p => rw [byte_act_clearMem, if_neg]; exact fun hp => hx (ha x hp)

/-- A list of acts inside `P` and `B` changes nothing else. -/
theorem within_run {as : List Act} (s : State) (h : ActsIn P B as) : Within s (s.run as) P B :=
  ⟨fun _ hl => get_run_of_actsIn hl s h, fun _ hx => byte_run_of_actsIn hx s h, gtc_run _ _, clock_run _ _, pending_run _ _,
    fuses_run _ _, mram_run _ _⟩

/-- A plan inside `P` and `B` changes nothing else. -/
theorem within_perform {p : Plan} (s : State) (h : PlanIn P B p) : Within s (s.perform p) P B := within_run s (h s)

theorem Within.mono {s t : State} {Q : Loc → Prop} {C : Nat → Prop} (h : Within s t P B) (hP : ∀ l, P l → Q l)
    (hB : ∀ a, B a → C a) : Within s t Q C :=
  ⟨fun l hl => h.places_kept l (fun hp => hl (hP l hp)), fun a ha => h.bytes_kept a (fun hb => ha (hB a hb)), h.gtc_eq,
    h.clock_eq, h.pending_eq, h.fuses_eq, h.mram_eq⟩

/-! ### The shared operations -/

theorem planIn_raise (cls : WorkClass) (kind : WorkKind) (arg : Nat) : PlanIn P B (raise cls kind arg) := by
  intro s; exact actsIn_cons trivial actsIn_nil

/-- A posted event changes the event queue, or the count of lost events. -/
theorem planIn_postEvent (kind status job : Nat) (data : List Nat) (h : P (.var .EVENTS_LOST 0 0)) :
    PlanIn P B (postEvent kind status job data) := by
  intro s; unfold postEvent; split
  · exact actsIn_cons trivial actsIn_nil
  · exact actsIn_cons h actsIn_nil

/-- Queueing a record changes only the writer's queue and counts. -/
theorem planIn_queueRind (r : RindRec) (h : ∀ l, rindPlaces l → P l) : PlanIn P B (queueRind r) := by
  have h1 := h (.reg .BB_SEQ_NEXT 0 0) (by simp [rindPlaces])
  have h2 := h (.reg .BB_STAT_QOCC 0 0) (by simp [rindPlaces])
  have h3 := h (.reg .BB_STAT_DROPPED 0 0) (by simp [rindPlaces])
  have h4 := h (.var .BB_DUE 0 0) (by simp [rindPlaces])
  have h5 := h (.var .DROP_PEND 0 0) (by simp [rindPlaces])
  intro s
  unfold queueRind
  dsimp only
  split
  · split
    · refine actsIn_append.2 ⟨?_, ?_⟩
      · exact actsIn_cons trivial (actsIn_cons h1 (actsIn_cons h2 actsIn_nil))
      · split
        · exact actsIn_cons h4 actsIn_nil
        · exact actsIn_nil
    · exact actsIn_cons trivial actsIn_nil
  · split
    · exact actsIn_nil
    · split
      · refine actsIn_append.2 ⟨?_, ?_⟩
        · exact actsIn_cons trivial (actsIn_cons h1 (actsIn_cons h2 actsIn_nil))
        · split
          · exact actsIn_cons h4 actsIn_nil
          · exact actsIn_nil
      · refine actsIn_append.2 ⟨actsIn_cons h3 (actsIn_cons h5 actsIn_nil), ?_⟩
        split
        · exact planIn_raise _ _ _ s
        · exact actsIn_nil

theorem planIn_logRind (source status kind : Nat) (fatal : Bool) (data : List Byte) (h : ∀ l, rindPlaces l → P l) :
    PlanIn P B (logRind source status kind fatal data) := fun s => planIn_queueRind _ h s

end Sys2Proof.Machine
end

