-- ==== Sys2Proof/Laws/Invariant.lean ====
section
/-! SUPPORT. Every act keeps the invariant, so every plan does. -/
namespace Sys2Proof.Machine

theorem all_filter {α : Type} (l : List α) (p q : α → Bool) (h : l.all p = true) : (l.filter q).all p = true := by
  rw [List.all_eq_true] at h ⊢
  exact fun x hx => h x (List.mem_filter.1 hx).1

theorem all_sins {κ α : Type} (num : κ → Nat) (p : κ × α → Bool) (k : κ) (v : α) (hv : p (k, v) = true) (l : List (κ × α))
    (h : l.all p = true) : (sins num l k v).all p = true := by
  induction l with
  | nil => simp [sins, hv]
  | cons e t ih =>
    obtain ⟨k', v'⟩ := e
    rw [List.all_cons, Bool.and_eq_true] at h
    unfold sins
    split
    · simp [hv, h.1, h.2]
    · split
      · simp [hv, h.2]
      · simp [h.1, ih h.2]

theorem all_setLoc (file : List (Loc × Nat)) (l : Loc) (v : Nat) (h : file.all (fun e => decide (e.2 < 2 ^ e.1.width)) = true) :
    (setLoc file l v).all (fun e => decide (e.2 < 2 ^ e.1.width)) = true := by
  unfold setLoc sput
  split
  · exact all_filter _ _ _ h
  · exact all_sins _ _ _ _ (by simpa using Nat.mod_lt _ (Nat.two_pow_pos _)) _ h

theorem wf_iff (s : State) : s.wf = true ↔ swf Loc.num Loc.resetVal s.file = true ∧
    s.file.all (fun e => decide (e.2 < 2 ^ e.1.width)) = true ∧ swf id (fun _ => (0 : Byte)) s.mem = true ∧ s.gtc < 2 ^ 64 := by
  simp [State.wf, and_assoc]

/-- Every act keeps the invariant. -/
theorem wf_act (s : State) (a : Act) (h : s.wf = true) : (s.act a).wf = true := by
  rw [wf_iff] at h ⊢
  obtain ⟨h1, h2, h3, h4⟩ := h
  cases a with
  | reg f i j v => exact ⟨swf_sput _ _ _ _ _ h1, all_setLoc _ _ _ h2, h3, h4⟩
  | var f i j v => exact ⟨swf_sput _ _ _ _ _ h1, all_setLoc _ _ _ h2, h3, h4⟩
  | byte a b => exact ⟨h1, h2, swf_sput _ _ _ _ _ h3, h4⟩
  | parts f => exact ⟨h1, h2, h3, h4⟩
  | clear p => exact ⟨swf_filter _ _ _ _ h1, all_filter _ _ _ h2, h3, h4⟩
  | clearMem p => exact ⟨h1, h2, swf_filter _ _ _ _ h3, h4⟩

theorem wf_run (as : List Act) : ∀ s : State, s.wf = true → (s.run as).wf = true := by
  induction as with
  | nil => exact fun _ h => h
  | cons a as ih => exact fun s h => ih _ (wf_act s a h)

theorem wf_perform (s : State) (p : Plan) (h : s.wf = true) : (s.perform p).wf = true := wf_run _ s h

end Sys2Proof.Machine
end

