-- ==== Sys2Proof/Laws/Exec.lean ====
section
/-! SUPPORT. The shape of `exec`: every command but the twelve named here is a plan carried out and nothing else. -/
namespace Sys2Proof.Machine
open Host

/-- The commands that change the GTC, the fuses or the MRAM, or that may. -/
def beyondPlans : Instr → Bool
  | .syncMessage _ _ _ _ _ | .cableMarker _ | .auxPowerOn _ | .railLoss _ | .pkgResetPin | .pkgReset | .bootImage _
  | .functionStartingEnd _ _ | .fuseProgramDone | .lifecycleScrap | .rindRecordWrite | .lastGasp => true
  | _ => false

/-- Any other command is a plan carried out. -/
theorem exec_perform (c : Instr) (s : State) (h : beyondPlans c = false) : ∃ p, exec c s = .next (s.perform p) := by
  cases c
  all_goals first | exact ⟨_, rfl⟩ | exact Bool.noConfusion h

/-- The twelve commands beyond plans, by name. -/
theorem beyondPlans_cases (c : Instr) (h : beyondPlans c = true) :
    (∃ l u a r n, c = .syncMessage l u a r n) ∨ (∃ w, c = .cableMarker w) ∨ (∃ r, c = .auxPowerOn r) ∨ (∃ r, c = .railLoss r)
      ∨ c = .pkgResetPin ∨ c = .pkgReset ∨ (∃ i, c = .bootImage i) ∨ (∃ f l, c = .functionStartingEnd f l) ∨ c = .fuseProgramDone
      ∨ c = .lifecycleScrap ∨ c = .rindRecordWrite ∨ c = .lastGasp := by
  cases c
  case syncMessage l u a r n => exact .inl ⟨l, u, a, r, n, rfl⟩
  case cableMarker w => exact .inr (.inl ⟨w, rfl⟩)
  case auxPowerOn r => exact .inr (.inr (.inl ⟨r, rfl⟩))
  case railLoss r => exact .inr (.inr (.inr (.inl ⟨r, rfl⟩)))
  case pkgResetPin => exact .inr (.inr (.inr (.inr (.inl rfl))))
  case pkgReset => exact .inr (.inr (.inr (.inr (.inr (.inl rfl)))))
  case bootImage i => exact .inr (.inr (.inr (.inr (.inr (.inr (.inl ⟨i, rfl⟩))))))
  case functionStartingEnd f l => exact .inr (.inr (.inr (.inr (.inr (.inr (.inr (.inl ⟨f, l, rfl⟩)))))))
  case fuseProgramDone => exact .inr (.inr (.inr (.inr (.inr (.inr (.inr (.inr (.inl rfl))))))))
  case lifecycleScrap => exact .inr (.inr (.inr (.inr (.inr (.inr (.inr (.inr (.inr (.inl rfl)))))))))
  case rindRecordWrite => exact .inr (.inr (.inr (.inr (.inr (.inr (.inr (.inr (.inr (.inr (.inl rfl))))))))))
  case lastGasp => exact .inr (.inr (.inr (.inr (.inr (.inr (.inr (.inr (.inr (.inr (.inr rfl))))))))))
  all_goals exact Bool.noConfusion h

end Sys2Proof.Machine
end

