-- ==== Sys2Proof/Laws/Shared.lean ====
section
/-! SUPPORT. What the shared operations over stores, registers, queues and requests can change. -/
namespace Sys2Proof.Machine

variable {P : Loc → Prop} {B : Nat → Prop}

/-! ### Error counting (R293 to R296) -/

theorem planIn_chargeBucket (b : Nat) (h : ∀ l, errorCounts l → P l) : PlanIn P B (chargeBucket b) := by
  intro s
  have e : ∀ f i j, f.blk = .ec → P (.reg f i j) := fun f i j hb => h _ hb
  have v : P (.var .EVENTS_LOST 0 0) := h _ (Or.inr rfl)
  unfold chargeBucket bump wr
  refine actsIn_append.2 ⟨actsIn_cons (e _ _ _ rfl) (actsIn_cons (e _ _ _ rfl) actsIn_nil), ?_⟩
  split
  · refine actsIn_cons (e _ _ _ rfl) ?_
    split
    · refine planIn_plans (fun p hp => ?_) s
      simp only [List.mem_cons, List.not_mem_nil, or_false] at hp
      rcases hp with rfl | rfl
      · exact planIn_raise _ _ _
      · exact planIn_postEvent _ _ _ _ v
    · exact actsIn_nil
  · exact actsIn_nil

/-- What a read charges changes only the error counts. -/
theorem planIn_noteRead (r : Rd) (h : ∀ l, errorCounts l → P l) : PlanIn P B (noteRead r) := by
  have e : ∀ f i j, f.blk = .ec → P (.reg f i j) := fun f i j hb => h _ hb
  refine planIn_plans fun p hp => ?_
  simp only [List.mem_cons, List.not_mem_nil, or_false] at hp
  rcases hp with rfl | rfl
  · refine planIn_planAll fun x _ => planIn_planIf (planIn_plans fun q hq => ?_)
    simp only [List.mem_cons, List.not_mem_nil, or_false] at hq
    rcases hq with rfl | rfl
    · exact planIn_chargeBucket _ h
    · exact fun s => actsIn_cons (e _ _ _ rfl) (actsIn_cons (e _ _ _ rfl) (actsIn_cons (e _ _ _ rfl) actsIn_nil))
  · refine planIn_planAll fun x _ => planIn_planIf (planIn_plans fun q hq => ?_)
    simp only [List.mem_cons, List.not_mem_nil, or_false] at hq
    rcases hq with rfl | rfl
    · exact fun s => actsIn_cons (e _ _ _ rfl) (actsIn_cons (e _ _ _ rfl) (actsIn_cons (e _ _ _ rfl)
        (actsIn_cons (e _ _ _ rfl) (actsIn_cons (h _ (Or.inl rfl)) actsIn_nil))))
    · exact planIn_raise _ _ _

/-! ### Tile stores (R291) -/

theorem tsWord_length (s : State) (t w : Nat) : (s.tsWord t w).length = 8 := by
  unfold State.tsWord; dsimp only; split <;> rfl

/-- A write inside one granule changes the words that hold its bytes, and their check, poison and written marks. -/
theorem planIn_writeTsPart (t lo : Nat) (bs : List Byte) (poison : Bool) (hn : 0 < bs.length)
    (hv : ∀ v j, v ∈ [Var.TS_CHK, .TS_POIS, .CALD_W] → P (.var v t j)) (hb : ∀ x, storeWords t lo bs.length x → B x) :
    PlanIn P B (writeTsPart t lo bs poison) := by
  intro s
  unfold writeTsPart
  dsimp only
  refine actsIn_append.2 ⟨actsIn_append.2 ⟨actsIn_append.2 ⟨actsIn_flatMap fun w hw => actsIn_append.2 ⟨?_, ?_⟩, ?_⟩, ?_⟩, ?_⟩
  · refine actsIn_putBytes _ _ fun k hk => hb _ ?_
    rw [List.length_mapIdx, tsWord_length] at hk
    obtain ⟨j, hj, rfl⟩ := List.mem_map.1 hw
    rw [List.mem_range] at hj
    unfold storeWords
    constructor <;> omega
  · exact actsIn_cons (hv _ _ (by simp)) actsIn_nil
  · split
    · exact actsIn_cons (hv _ _ (by simp)) actsIn_nil
    · split
      · exact actsIn_cons (hv _ _ (by simp)) actsIn_nil
      · exact actsIn_nil
  · split
    · exact actsIn_cons (hv _ _ (by simp)) actsIn_nil
    · exact actsIn_nil
  · split
    · exact actsIn_cons trivial actsIn_nil
    · exact actsIn_nil

/-- The pieces of a range cut at granule boundaries lie in the range and are not empty. -/
theorem mem_granules {lo n : Nat} {p : Nat × Nat} (h : p ∈ granules lo n) : lo ≤ p.1 ∧ p.1 + p.2 ≤ lo + n ∧ 0 < p.2 ∧ p.1 - lo + p.2 ≤ n := by
  unfold granules at h
  split at h
  · simp at h
  · obtain ⟨k, hk, rfl⟩ := List.mem_map.1 h
    rw [List.mem_range] at hk
    dsimp only
    omega

/-- A write to a tile store changes the words that hold its bytes, and their marks. -/
theorem planIn_writeTs (t off : Nat) (bs : List Byte) (bad : List Nat)
    (hv : ∀ v j, v ∈ [Var.TS_CHK, .TS_POIS, .CALD_W] → P (.var v t j)) (hb : ∀ x, storeWords t off bs.length x → B x) :
    PlanIn P B (writeTs t off bs bad) := by
  refine planIn_planAll fun p hp => ?_
  obtain ⟨h1, h2, h3, h4⟩ := mem_granules hp
  have hl : ((bs.drop (p.1 - off)).take p.2).length = p.2 := by
    rw [List.length_take, List.length_drop]; omega
  refine planIn_writeTsPart _ _ _ _ (by rw [hl]; exact h3) hv fun x hx => hb x ?_
  rw [hl] at hx
  unfold storeWords at hx ⊢
  omega

/-! ### The core (R65, R67, R78) -/

/-- A write of a core register changes that register and its mark. -/
theorem planIn_setReg (t : Nat) (d : Dest) (v : Nat) (mark : Bool)
    (h : ∀ x ∈ [Var.GP, .MARK_GP, .SV, .MARK_SV], ∀ j, P (.var x t j)) : PlanIn P B (setReg t d v mark) := by
  intro s
  cases d with
  | gp r =>
    unfold setReg; dsimp only
    split
    · exact actsIn_nil
    · exact actsIn_cons (h _ (by simp) _) (actsIn_cons (h _ (by simp) _) actsIn_nil)
  | sv r => exact actsIn_cons (h _ (by simp) _) (actsIn_cons (h _ (by simp) _) actsIn_nil)
  | fp r => exact actsIn_cons (h _ (by simp) _) (actsIn_cons (h _ (by simp) _) actsIn_nil)

/-- The core goes on at an address: its PC and stall marks change, and that it runs. -/
theorem planIn_goTo (t pc : Nat) (h : ∀ x ∈ [Var.PC, .STALLED, .SPEC_STALL, .STEPPING], P (.var x t 0))
    (hr : P (.reg .TC_STAT_RUNNING t 0)) : PlanIn P B (goTo t pc) := by
  intro s
  refine actsIn_append.2 ⟨?_, ?_⟩
  · exact actsIn_cons (h _ (by simp)) (actsIn_cons (h _ (by simp)) (actsIn_cons (h _ (by simp)) (actsIn_cons (h _ (by simp)) actsIn_nil)))
  · split
    · exact actsIn_cons hr actsIn_nil
    · exact actsIn_nil

/-! ### Queues and completion (R70 to R76) -/

theorem planIn_setQueue (t e : Nat) (q : List Desc) (h : P (.reg .TC_QSTAT_OCC t 0)) : PlanIn P B (setQueue t e q) :=
  fun _ => actsIn_cons trivial (actsIn_cons h actsIn_nil)

/-- A completion changes its summary slot, its counter and the pending interrupts of its tile. -/
theorem planIn_complete (t e : Nat) (d : Desc) (status val0 val1 cycles : Nat) (spec : Bool)
    (h : ∀ f j, f ∈ [Fld.TC_SUM0_STATUS, .TC_SUM0_ENGINE, .TC_SUM0_SPEC, .TC_SUM0_TAG, .TC_SUM0_GTC_LO, .TC_SUM1_VAL0, .TC_SUM2_VAL1, .TC_SUM3_CYCLES,
      .TC_CNT_VALUE, .TC_IPEND_SRC] → P (.reg f t j)) : PlanIn P B (complete t e d status val0 val1 cycles spec) := by
  refine planIn_plans fun p hp => ?_
  simp only [List.mem_cons, List.not_mem_nil, or_false] at hp
  rcases hp with rfl | rfl | rfl
  · split
    · intro s
      unfold putSummary wr
      intro a ha
      simp only [List.mem_cons, List.not_mem_nil, or_false] at ha
      rcases ha with rfl | rfl | rfl | rfl | rfl | rfl | rfl | rfl <;> exact h _ _ (by simp)
    · exact fun _ => actsIn_nil
  · exact fun _ => actsIn_cons (h _ _ (by simp)) actsIn_nil
  · split
    · exact fun _ => actsIn_cons (h _ _ (by simp)) actsIn_nil
    · exact fun _ => actsIn_nil

/-! ### Requests (R338, R342) -/

theorem planIn_sendTrack (t : Nat) (e : Track) : PlanIn P B (sendTrack t e) := by
  intro s
  unfold sendTrack; dsimp only
  split
  · exact actsIn_cons trivial (actsIn_cons trivial actsIn_nil)
  · split
    · exact actsIn_cons trivial (actsIn_cons trivial actsIn_nil)
    · refine planIn_plans (fun p hp => ?_) s
      simp only [List.mem_cons, List.not_mem_nil, or_false] at hp
      rcases hp with rfl | rfl
      · exact fun _ => actsIn_cons trivial actsIn_nil
      · exact fun _ => actsIn_cons trivial actsIn_nil

/-- A request issued changes the tracker and the packets, and the tile's issue number. -/
theorem planIn_issueReq (t : Nat) (owner : TrkOwner) (op cls addr len atype : Nat) (data : List Byte) (poison cnt : Nat) (cntEn : Bool)
    (h : P (.var .TRK_SEQ t 0)) : PlanIn P B (issueReq t owner op cls addr len atype data poison cnt cntEn) := by
  refine planIn_plans fun p hp => ?_
  simp only [List.mem_cons, List.not_mem_nil, or_false] at hp
  rcases hp with rfl | rfl
  · exact fun _ => actsIn_cons trivial (actsIn_cons h actsIn_nil)
  · intro s
    dsimp only
    split
    · split
      · exact planIn_sendTrack _ _ s
      · exact actsIn_nil
    · exact actsIn_nil

end Sys2Proof.Machine
end

