-- ==== Sys2Proof/Laws/Store.lean ====
section
/-! SUPPORT. The bytes that a write to a tile store leaves: they read back where they were written. -/
namespace Sys2Proof.Machine

/-- Words written one after another: each word written holds its bytes. -/
theorem byte_run_words (b t : Nat) (g : Nat → List Byte) (hg : ∀ w, (g w).length = 8) (w k : Nat) (hk : k < 8) (ws : List Nat) :
    ∀ s : State, ws.Nodup → (w ∈ ws ∨ s.byte (b + 8 * w + k) = (g w)[k]'(by rw [hg]; exact hk)) →
      (s.run (ws.flatMap fun w => putBytes (b + 8 * w) (g w) ++ [wv .TS_CHK 0 t w])).byte (b + 8 * w + k)
        = (g w)[k]'(by rw [hg]; exact hk) := by
  induction ws with
  | nil => intro s _ h; simpa using h
  | cons v ws ih =>
    intro s hnd h
    rw [List.flatMap_cons, run_append, run_append]
    refine ih _ (List.nodup_cons.1 hnd).2 ?_
    by_cases hv : w = v
    · subst hv
      right
      show (((s.run (putBytes (b + 8 * w) (g w))).act (wv .TS_CHK 0 t w)).byte (b + 8 * w + k)) = _
      rw [wv, byte_act_var]
      exact byte_run_putBytes _ _ _ _ _
    · rcases h with h | h
      · left
        exact (List.mem_cons.1 h).resolve_left hv
      · right
        show (((s.run (putBytes (b + 8 * v) (g v))).act (wv .TS_CHK 0 t v)).byte (b + 8 * w + k)) = _
        rw [wv, byte_act_var, byte_run_putBytes_other _ _ _ _ (by rw [hg]; omega), h]

/-- The bytes of a write inside one granule read back. -/
theorem byte_writeTsPart (s : State) (t lo : Nat) (bs : List Byte) (poison : Bool) (i : Nat) (hi : i < bs.length) :
    (s.perform (writeTsPart t lo bs poison)).byte (storeBase t + lo + i) = bs[i] := by
  unfold State.perform writeTsPart
  dsimp only
  rw [run_append, run_append, run_append]
  have keep : ∀ (u : State) (as : List Act) (x : Nat), ActsIn (fun _ => True) (fun _ => False) as → (u.run as).byte x = u.byte x :=
    fun u as x h => byte_run_of_actsIn (fun h => h) u h
  rw [keep, keep, keep]
  · have hw := byte_run_words (storeBase t) t
      (fun w => (s.tsWord t w).mapIdx fun k x => if lo ≤ 8 * w + k ∧ 8 * w + k < lo + bs.length then bs.getD (8 * w + k - lo) 0 else x)
      (fun w => by rw [List.length_mapIdx, tsWord_length]) ((lo + i) / 8) ((lo + i) % 8) (Nat.mod_lt _ (by decide))
      ((List.range ((lo + bs.length - 1) / 8 + 1 - lo / 8)).map (lo / 8 + ·)) s
      (List.Pairwise.map _ (fun a b h => by simpa using h) List.nodup_range)
      (Or.inl (List.mem_map.2 ⟨(lo + i) / 8 - lo / 8, by rw [List.mem_range]; omega, by omega⟩))
    have e : storeBase t + 8 * ((lo + i) / 8) + (lo + i) % 8 = storeBase t + lo + i := by omega
    rw [e] at hw
    rw [hw]
    simp only [List.getElem_mapIdx]
    have h1 : lo ≤ 8 * ((lo + i) / 8) + (lo + i) % 8 ∧ 8 * ((lo + i) / 8) + (lo + i) % 8 < lo + bs.length := by omega
    rw [if_pos h1]
    have h2 : 8 * ((lo + i) / 8) + (lo + i) % 8 - lo = i := by omega
    rw [h2, List.getD_eq_getElem?_getD, List.getElem?_eq_getElem hi, Option.getD_some]
  · split
    · exact actsIn_cons trivial actsIn_nil
    · split
      · exact actsIn_cons trivial actsIn_nil
      · exact actsIn_nil
  · split
    · exact actsIn_cons trivial actsIn_nil
    · exact actsIn_nil
  · split
    · exact actsIn_cons trivial actsIn_nil
    · exact actsIn_nil

/-- A piece of a range, by its number. -/
theorem granules_get (lo n : Nat) (hn : 0 < n) : granules lo n = (List.range ((lo + n - 1) / 64 + 1 - lo / 64)).map fun k =>
    (max lo ((lo / 64 + k) * 64), min (lo + n) ((lo / 64 + k + 1) * 64) - max lo ((lo / 64 + k) * 64)) := by
  unfold granules
  rw [if_neg (by omega)]

/-- The bytes of a write to a tile store read back. -/
theorem byte_writeTs (s : State) (t off : Nat) (bs : List Byte) (bad : List Nat) (i : Nat) (hi : i < bs.length) :
    (s.perform (writeTs t off bs bad)).byte (storeBase t + off + i) = bs[i] := by
  unfold writeTs planAll
  rw [granules_get off bs.length (by omega), List.map_map]
  generalize hm : (off + bs.length - 1) / 64 + 1 - off / 64 = m
  have hin : (off + i) / 64 - off / 64 < m := by omega
  suffices h : ∀ (ks : List Nat) (u : State), ((off + i) / 64 - off / 64 ∈ ks ∨ u.byte (storeBase t + off + i) = bs[i]) →
      ks.Nodup → (∀ k ∈ ks, k < m) → (u.perform (plans (ks.map _))).byte (storeBase t + off + i) = bs[i] by
    exact h (List.range m) s (Or.inl (List.mem_range.2 hin)) List.nodup_range fun k hk => List.mem_range.1 hk
  intro ks
  induction ks with
  | nil => intro u h _ _; simpa [perform_plans_nil] using h
  | cons k ks ih =>
    intro u h hnd hlt
    rw [List.map_cons, perform_plans_cons]
    refine ih _ ?_ (List.nodup_cons.1 hnd).2 fun k hk => hlt k (by simp [hk])
    have hk := hlt k (by simp)
    have hl : ((bs.drop (max off ((off / 64 + k) * 64) - off)).take
        (min (off + bs.length) ((off / 64 + k + 1) * 64) - max off ((off / 64 + k) * 64))).length
        = min (off + bs.length) ((off / 64 + k + 1) * 64) - max off ((off / 64 + k) * 64) := by
      rw [List.length_take, List.length_drop]; omega
    by_cases hik : (off + i) / 64 - off / 64 = k
    · right
      dsimp only [Function.comp_apply]
      have hj : off + i - max off ((off / 64 + k) * 64) < ((bs.drop (max off ((off / 64 + k) * 64) - off)).take
          (min (off + bs.length) ((off / 64 + k + 1) * 64) - max off ((off / 64 + k) * 64))).length := by rw [hl]; omega
      have hb := byte_writeTsPart u t (max off ((off / 64 + k) * 64)) _
        (bad.contains (storeBase t + max off ((off / 64 + k) * 64) / 64 * 64)) (off + i - max off ((off / 64 + k) * 64)) hj
      have e : storeBase t + max off ((off / 64 + k) * 64) + (off + i - max off ((off / 64 + k) * 64)) = storeBase t + off + i := by omega
      rw [e] at hb
      rw [hb, List.getElem_take, List.getElem_drop]
      congr 1
      omega
    · rcases h with h | h
      · left
        exact (List.mem_cons.1 h).resolve_left hik
      · right
        rw [← h]
        dsimp only [Function.comp_apply]
        refine byte_run_of_actsIn (P := fun _ => True) (B := storeWords t (max off ((off / 64 + k) * 64))
          (min (off + bs.length) ((off / 64 + k + 1) * 64) - max off ((off / 64 + k) * 64))) ?_ _ ?_
        · unfold storeWords; omega
        · exact planIn_writeTsPart _ _ _ _ (by rw [hl]; omega) (fun _ _ _ => trivial) (fun x hx => by rwa [hl] at hx) u

end Sys2Proof.Machine
end

