-- ==== Sys2Proof/WellFormed.lean ====
section
/-! DEFINITION. Which commands can come from the hardware around the block: operands that are lists have the lengths, and packet
fields the widths, that the spec gives them. Every other operand's type already bounds it. `exec` is total on all commands. -/
namespace Sys2Proof

/-- A packet's fields lie within the widths of Table 14.3, and it carries at most 4,096 B. -/
def Packet.wellFormed (p : Packet) : Bool :=
  decide (p.op < 2 ^ 8 ∧ p.cls < 4 ∧ p.ttl < 2 ^ 5 ∧ p.srcNode < 2 ^ 16 ∧ p.dstNode < 2 ^ 16 ∧ p.srcTile < 64 ∧ p.tag < 2 ^ 10
    ∧ p.addr < 2 ^ 48 ∧ p.len ≤ 4096 ∧ p.atype < 16 ∧ p.stamp < 2 ^ 64 ∧ p.d < 2 ^ 24 ∧ p.cnt < 32 ∧ p.status < 2 ^ 8
    ∧ p.data.length ≤ 4096)

/-- A link block carries one credit count for each of the four classes (Table 13.1). -/
def RxBlock.wellFormed (b : RxBlock) : Bool := b.credits.length == 4 && b.packets.all Packet.wellFormed

/-- A rennet image: a SHA3-256 digest and images of at most 64 KiB each (R457, R66). -/
def RennetImage.wellFormed (r : RennetImage) : Bool :=
  r.digest.length == 32 && decide (r.imem.length ≤ 65536) && decide (r.dmem.length ≤ 65536)

/-- What a broadcast carries is well-formed. -/
def BContent.wellFormed : BContent → Bool
  | .rennet img => img.wellFormed
  | .arm _ _ _ _ _ => true
  | .cancel _ _ => true

/-- The list operands of a command have the lengths the spec gives them. -/
def Instr.wellFormed : Instr → Bool
  | .linkBlockReceive _ b => b.wellFormed
  | .stackRequest _ write long _ len data _ => !write || data.length == (if long then 128 else len.val)
  | .cutOrder _ _ orders => decide (orders.length ≤ 40)
  | .manifestWrite _ others places _ => decide (places.length ≤ 4) && others.all fun x => x.sha.length == 32
  | .checkpointDeadline _ others => others.all fun x => x.sha.length == 32
  | .restoreLoadComplete shards _ _ _ _ => shards.all fun x => x.sha.length == 32
  | .mailboxHandover _ _ _ _ _ _ _ payload => decide (payload.length ≤ 4032)
  | .restore _ copies _ => decide (copies.length ≤ 4)
  | .rennetLoad img bad => (img.map RennetImage.wellFormed).getD true && decide bad.Nodup
  | .treeBroadcast _ msg _ => msg.content.wellFormed
  | _ => true

end Sys2Proof
end

