-- ==== Sys2Proof/Tests/Slice0.lean ====
section
/-! SUPPORT. Tests of the model: witnesses of the obligations' hypotheses, ill-formed terms, worked examples and single commands. Each theorem `witness_<Name>` shows, for every clause of the obligation `<Name>` that has hypotheses, a state and
operands that meet them together, and where a clause has cases, one for the cases; the theorems `test_<what>` are ill-formed terms that WellFormed
refuses, the spec's worked examples, and single commands whose result a rule gives. (An image that passes R480's checks rests on the free
values of the signature check, log entry 49, so no witness shows one.) -/
namespace Sys2Proof.Tests
open Sys2Proof.Machine

set_option Elab.async false

/-- The state after acts on the reset state. -/
def st (l : List Act) : State := State.reset.run l

/-- The state at a GTC and a clock after acts on the reset state. -/
def at_ (g c : Nat) (l : List Act) : State := ({ State.reset with gtc := g, clock := c } : State).run l

/-- The domain d is ON. -/
def on (d : Nat) : Act := wr .PM_DOM_FSTATE 2 0 d

/-- Tile 0 is ON and its core runs. -/
def coreOn (l : List Act) : State := st ([on 0, wr .TC_CTL_RUN 1 0] ++ l)

theorem witness_TimeSourcesAndMode :
    (∃ (s : State) (link : Link), (s.rd .FL_STAT_STATE link = 5) ∧ ((s.vr .SYNC_SENT link = 0 ∨ 65536 ≤ (s.gtc + 2 ^ 64 - s.vr .SYNC_SENT_AT link) % 2 ^ 64)))
    ∧ (∃ (s : State) (c : Instr) (src : Nat), (s.domOn 171 = true) ∧ (s.vr .FIRST_LOCK = 1) ∧ (s.locked = true) ∧ (((∃ link srcTime rt hops, c = .syncMessage link true srcTime rt hops ∧ s.rd .GT_CTL_MODE = 0 ∧ s.rd .FL_STAT_STATE link = 5 ∧ src = (srcTime.toNat + rt.toNat / 2) % 2 ^ 64) ∨ ∃ word, c = .cableMarker word ∧ s.rd .GT_CTL_MODE = 2 ∧ src = (word.toNat + s.rd .GT_CABLE_DLY_DLY) % 2 ^ 64)))
    ∧ (∃ s : State, (s.domOn 171 = true) ∧ (s.gtc % 2 ^ 20 = 0) ∧ (2 ≤ s.rd .GT_CTL_MODE) ∧ (s.rd .GT_CTL_SYNC_OUT_EN = 1))
    ∧ (∃ s : State, (s.domOn 171 = true) ∧ (s.master = false))
    ∧ (∃ (s : State) (_v : W64), (s.domOn 171 = true)) :=
  ⟨⟨st [wr .FL_STAT_STATE 5 0], 0, by decide⟩,
   ⟨st [on 171, wv .FIRST_LOCK 1, wr .GT_STAT_LOCKED 1, wr .FL_STAT_STATE 5 0], .syncMessage 0 true 0 0 0, 0, by decide, by decide, by decide, .inl ⟨0, 0, 0, 0, by decide⟩⟩,
   ⟨at_ 1048576 0 [on 171, wr .GT_CTL_MODE 2, wr .GT_CTL_SYNC_OUT_EN 1], by decide⟩,
   ⟨st [on 171], by decide⟩,
   ⟨st [on 171], 1, by decide⟩⟩

theorem witness_FramesAndOverruns :
    (∃ (s : State) (v : W64), (s.domOn 171 = true) ∧ (testB v.toNat 0 = true) ∧ (testB v.toNat 2 = false))
    ∧ (∃ s : State, (s.domOn 171 = true) ∧ (s.rd .GT_FRAME_CTL_PEND = 1) ∧ (s.gtc = s.rd .GT_FRAME_BASE_BASE))
    ∧ (∃ s : State, (s.domOn 171 = true) ∧ (s.vr .TICK_AT ≠ s.gtc + 1) ∧ (s.scheduled = true) ∧ (s.gtc = s.rd .GT_TICK_NEXT_VALUE) ∧ (s.scheduleDue = false))
    ∧ (∃ (s : State) (k : Tile) (f : OpenFrame) (rest : List OpenFrame), (s.domOn k = true) ∧ (s.parts.openFrames.at k = f :: rest) ∧ (gtcBefore s.gtc f.endGtc = true))
    ∧ (∃ (s : State) (k : Tile) (f : OpenFrame) (rest : List OpenFrame), (s.domOn k = true) ∧ (s.parts.openFrames.at k = f :: rest) ∧ ((s.gtc = f.endGtc ∨ gtcBefore f.endGtc s.gtc = true)) ∧ (f.recorded = false))
    ∧ (∃ (s : State) (k : Tile) (f : OpenFrame), (s.atTick = true) ∧ (s.parts.openFrames.at k = [f]) ∧ (f.ticks = 65) ∧ (f.recorded = false))
    ∧ (∃ (s : State) (o : Overrun) (rest : List Overrun), (s.fwReady = true) ∧ (s.parts.overruns = o :: rest) ∧ (s.parts.events.length < 4096)) :=
  ⟨⟨st [on 171], 1, by decide⟩,
   ⟨st [on 171, wr .GT_FRAME_CTL_PEND 1], by decide⟩,
   ⟨st [on 171, wr .GT_FRAME_CUR_LEN 1], by decide⟩,
   ⟨at_ 1 0 [on 0, .parts fun p => { p with openFrames := p.openFrames.set 0 [(⟨0, 2, 0, 0, false⟩ : OpenFrame)] }], 0, (⟨0, 2, 0, 0, false⟩ : OpenFrame), [], by decide⟩,
   ⟨at_ 2 0 [on 0, .parts fun p => { p with openFrames := p.openFrames.set 0 [(⟨0, 2, 0, 0, false⟩ : OpenFrame)] }], 0, (⟨0, 2, 0, 0, false⟩ : OpenFrame), [], by decide⟩,
   ⟨st [on 171, wv .TICK_AT 1, .parts fun p => { p with openFrames := p.openFrames.set 0 [⟨0, 2, 65, 0, false⟩] }], 0, ⟨0, 2, 65, 0, false⟩, by decide⟩,
   ⟨st [on 169, wr .MB_STAT_FW_READY 1, .parts fun p => { p with overruns := [⟨0, 0, 0, 0, 0, 0⟩] }], ⟨0, 0, 0, 0, 0, 0⟩, [], by decide⟩⟩

theorem witness_LaunchSlots :
    (∃ (s : State) (k : Fin 4) (v : W64) (_depth : BitVec 8), (s.domOn 171 = true) ∧ (s.rd .GT_LAUNCH_CTL_STATE 0 k = 0) ∧ (testB v.toNat 11 = true) ∧ (testB v.toNat 15 = false))
    ∧ (∃ (s : State) (k : Fin 4) (_node : BitVec 16), (s.domOn 171 = true) ∧ (s.rd .GT_LAUNCH_CTL_STATE 0 k = 1) ∧ (gtcBefore s.gtc (s.rd .GT_LAUNCH_AT_L 0 k) = true) ∧ (s.rd .GT_LAUNCH_CTL_WITH_SCHED 0 k = 0) ∧ (s.parts.events.length < 4096))
    ∧ (∃ (s : State) (k : Fin 4) (_node : BitVec 16), (s.domOn 171 = true) ∧ (s.rd .GT_LAUNCH_CTL_STATE 0 k ∈ [1, 2, 3]) ∧ (gtcBefore s.gtc (s.rd .GT_LAUNCH_AT_L 0 k) = false))
    ∧ (∃ (s : State) (k : Fin 4), (s.domOn 171 = true) ∧ (s.rd .GT_LAUNCH_CTL_STATE 0 k = 1) ∧ (s.gtc = s.rd .GT_LAUNCH_AT_L 0 k) ∧ (s.parts.events.length < 4096))
    ∧ (∃ (s : State) (k : Fin 4), (s.domOn 171 = true) ∧ (s.rd .GT_LAUNCH_CTL_STATE 0 k ∈ [2, 3, 4]))
    ∧ (∃ (s : State) (k : Fin 4) (_lost : Bool) (_node : BitVec 16), (s.domOn 171 = true) ∧ (s.rd .GT_LAUNCH_CTL_STATE 0 k = 1) ∧ (gtcBefore s.gtc (s.rd .GT_LAUNCH_CUTOFF_K 0 k) = true) ∧ (s.rd .GT_LAUNCH_CTL_WITH_SCHED 0 k = 0) ∧ (s.parts.events.length < 4096)) :=
  ⟨⟨st [on 171], 3, 2048, 0, by decide⟩,
   ⟨st [on 171, wr .GT_LAUNCH_CTL_STATE 1 0 0, wr .GT_LAUNCH_AT_L 1 0 0], 0, 5, by decide⟩,
   ⟨at_ 1 0 [on 171, wr .GT_LAUNCH_CTL_STATE 3 0 0, wr .GT_LAUNCH_AT_L 1 0 0], 0, 5, by decide⟩,
   ⟨at_ 1 0 [on 171, wr .GT_LAUNCH_CTL_STATE 1 0 0, wr .GT_LAUNCH_AT_L 1 0 0], 0, by decide⟩,
   ⟨st [on 171, wr .GT_LAUNCH_CTL_STATE 4 0 3], 3, by decide⟩,
   ⟨st [on 171, wr .GT_LAUNCH_CTL_STATE 1 0 0, wr .GT_LAUNCH_CUTOFF_K 1 0 0], 0, true, 5, by decide⟩⟩

theorem witness_CoreIntegerAndBranches :
    (∃ (s : State) (k : Tile) (op : AluOp) (rd ra rc : RegNo) (b : Opd),
      let srcs := .gp ra :: opdRegs b ++ (if op = .sel then [.gp rc] else [])
      (s.CoreReady k (.gp rd :: srcs)))
    ∧ (∃ (s : State) (k : Tile) (_op : MulOp) (rd ra : RegNo) (b : Opd),
      let srcs := .gp ra :: opdRegs b
      (s.CoreReady k (.gp rd :: srcs)))
    ∧ (∃ (s : State) (k : Tile) (_op : DivOp) (rd ra : RegNo) (b : Opd),
      let srcs := .gp ra :: opdRegs b
      (s.CoreReady k (.gp rd :: srcs)))
    ∧ (∃ (s : State) (k : Tile) (rd _c : RegNo), (s.CoreReady k [.gp rd]))
    ∧ (∃ (s : State) (k : Tile) (_c rs : RegNo), (s.CoreReady k [.gp rs]))
    ∧ (∃ (s : State) (k : Tile) (rd _slot : RegNo) (_w : Fin 4), (s.CoreReady k [.gp rd]))
    ∧ (∃ (s : State) (k : Tile) (rd : RegNo), (s.CoreReady k [.gp rd]))
    ∧ (∃ a b : Nat, (a < 2 ^ 64) ∧ (b < 2 ^ 64))
    ∧ (∃ (s : State) (k : Tile) (target : BitVec 16) (kind : BrKind) (taken : Bool), (s.CoreReady k (brRegs kind)) ∧ (target.toNat % 4 = 0) ∧ ((match kind with | .cond c a b => taken = Config.condHolds c (s.gp k a) (s.gp k b) | .jump => taken = true | _ => False)))
    ∧ (∃ (s : State) (k : Tile) (target : BitVec 16) (l : RegNo), (s.CoreReady k [.gp l]) ∧ (target.toNat % 4 = 0))
    ∧ (∃ (s : State) (k : Tile) (_target : BitVec 16) (l : RegNo), (s.CoreReady k [.gp l]) ∧ (s.gp k l % 65536 % 4 = 0))
    ∧ (∃ (s : State) (k : Tile) (_slot : RegNo) (_mask target : BitVec 16), (s.CoreReady k []) ∧ (target.toNat % 4 = 0))
    ∧ (∃ (s : State) (k : Tile) (target : BitVec 16), (s.CoreReady k []) ∧ (target.toNat % 4 ≠ 0) ∧ (s.rd .TC_STAT_INEXC k ≠ 1)) :=
  ⟨⟨coreOn [], 0, .sel, 0, 31, 5, .imm 7, ⟨by decide, by decide, by decide⟩⟩,
   ⟨coreOn [], 0, .mulh, 1, 2, .gp 3, ⟨by decide, by decide, by decide⟩⟩,
   ⟨coreOn [], 0, .rem, 1, 2, .gp 3, ⟨by decide, by decide, by decide⟩⟩,
   ⟨coreOn [], 0, 1, 31, ⟨by decide, by decide, by decide⟩⟩,
   ⟨coreOn [], 0, 31, 1, ⟨by decide, by decide, by decide⟩⟩,
   ⟨coreOn [], 0, 1, 31, 3, ⟨by decide, by decide, by decide⟩⟩,
   ⟨coreOn [], 0, 1, ⟨by decide, by decide, by decide⟩⟩,
   ⟨0, 2 ^ 64 - 1, by decide⟩,
   ⟨coreOn [], 0, 65532, .cond 15 1 2, _, ⟨by decide, by decide, by decide⟩, by decide, rfl⟩,
   ⟨coreOn [], 0, 65532, 31, ⟨by decide, by decide, by decide⟩, by decide⟩,
   ⟨coreOn [wv .GP 65532 0 31], 0, 0, 31, ⟨by decide, by decide, by decide⟩, by decide⟩,
   ⟨coreOn [], 0, 31, 65535, 65532, ⟨by decide, by decide, by decide⟩, by decide⟩,
   ⟨coreOn [], 0, 65535, ⟨by decide, by decide, by decide⟩, by decide⟩⟩

theorem witness_CoreFloatingPoint :
    (∃ (s : State) (k : Tile) (op : FpOp) (_f : FpFmt) (rd ra rb rc : RegNo),
      let srcs := [.sv ra, .sv rb] ++ (if op = .fma then [.sv rc] else [])
      (s.CoreReady k (.sv rd :: srcs)))
    ∧ (∃ (s : State) (k : Tile) (_f : FpFmt) (rd ra rb : RegNo), (s.CoreReady k [.sv rd, .sv ra, .sv rb]))
    ∧ (∃ (s : State) (k : Tile) (_f : FpFmt) (rd ra _rb : RegNo), (s.CoreReady k [.sv rd, .sv ra]))
    ∧ (∃ (s : State) (k : Tile) (op : SvOp) (_f : SvFmt) (rd ra rb rc : RegNo),
      let srcs := [.sv ra, .sv rb] ++ (if op = .fma then [.sv rc] else [])
      (s.CoreReady k (.sv rd :: srcs)))
    ∧ (∃ (s : State) (k : Tile) (rd ra rb : RegNo), (s.CoreReady k [.sv rd, .sv ra, .sv rb]))
    ∧ (∃ (s : State) (k : Tile) (_code : Fin 256) (rd ra _rb : RegNo), (s.CoreReady k [.sv rd, .sv ra])) :=
  ⟨⟨coreOn [], 0, .fma, .fp32, 1, 2, 3, 4, ⟨by decide, by decide, by decide⟩⟩,
   ⟨coreOn [], 0, .fp64, 1, 2, 3, ⟨by decide, by decide, by decide⟩⟩,
   ⟨coreOn [], 0, .fp64, 1, 2, 3, ⟨by decide, by decide, by decide⟩⟩,
   ⟨coreOn [], 0, .fma, .int8, 1, 2, 3, 31, ⟨by decide, by decide, by decide⟩⟩,
   ⟨coreOn [], 0, 1, 2, 3, ⟨by decide, by decide, by decide⟩⟩,
   ⟨coreOn [], 0, 255, 1, 2, 3, ⟨by decide, by decide, by decide⟩⟩⟩

theorem witness_CoreLocalMemory :
    (∃ (s : State) (k : Tile) (d : Dest) (base : RegNo) (off : W64) (size : Fin 32),
      let n := size.val + 1
      let a := s.ea k base off.toNat
      (s.CoreReady k [rgOf d, .gp base]) ∧ (a % n = 0) ∧ (a + n ≤ 65536) ∧ (s.dmemBad k a n = none))
    ∧ (∃ (s : State) (k : Tile) (src : Dest) (base : RegNo) (off : W64) (size : Fin 32),
      let n := size.val + 1
      let a := s.ea k base off.toNat
      (s.CoreReady k [rgOf src, .gp base]) ∧ (a % n = 0) ∧ (a + n ≤ 65536))
    ∧ (∃ (s : State) (k : Tile) (d : Dest) (base : RegNo) (off : W64) (size : Fin 32),
      let n := size.val + 1
      let a := s.ea k base off.toNat
      (s.CoreReady k [rgOf d, .gp base]) ∧ (a % n = 0) ∧ (65536 < a + n) ∧ (s.rd .TC_STAT_INEXC k ≠ 1))
    ∧ (∃ (s : State) (k : Tile) (d : Dest) (base : RegNo) (off : W64) (size : Fin 32),
      let n := size.val + 1
      let a := s.ea k base off.toNat
      (s.CoreReady k [rgOf d, .gp base]) ∧ (a % n = 0) ∧ (a + n ≤ 2 ^ 24))
    ∧ (∃ (s : State) (k : Tile) (src : Dest) (base : RegNo) (off : W64) (size : Fin 32),
      let n := size.val + 1
      let a := s.ea k base off.toNat
      (s.CoreReady k [rgOf src, .gp base]) ∧ (s.anyMarked k [rgOf src, .gp base] = false) ∧ (a % n = 0) ∧ (a + n ≤ 2 ^ 24))
    ∧ (∃ (s : State) (k : Tile) (src : Dest) (base : RegNo) (off : W64) (size : Fin 32),
      let n := size.val + 1
      (s.CoreReady k [rgOf src, .gp base]) ∧ (s.anyMarked k [rgOf src, .gp base] = true) ∧ (s.insideCaldera k (s.ea k base off.toNat) n = false)) :=
  ⟨⟨coreOn [], 0, .sv 1, 2, 65504, 31, ⟨by decide, by decide, by decide⟩, by decide⟩,
   ⟨coreOn [], 0, .sv 1, 2, 65504, 31, ⟨by decide, by decide, by decide⟩, by decide⟩,
   ⟨coreOn [], 0, .gp 1, 2, 65536, 7, ⟨by decide, by decide, by decide⟩, by decide⟩,
   ⟨coreOn [], 0, .sv 1, 2, 16777184, 31, ⟨by decide, by decide, by decide⟩, by decide⟩,
   ⟨coreOn [], 0, .sv 1, 2, 16777184, 31, ⟨by decide, by decide, by decide⟩, by decide⟩,
   ⟨coreOn [wv .MARK_GP 1 0 2], 0, .gp 1, 2, 0, 7, ⟨by decide, by decide, by decide⟩, by decide⟩⟩

theorem witness_IssueToEngines :
    (∃ (s : State) (k : Tile) (e : Fin 8) (form : IssueForm) (raw : Nat),
      let operand := fun (s : State) (k : Nat) (form : IssueForm) (raw : Nat) => match form with
        | .pair j => raw = s.sv k (2 * j) + s.sv k (2 * j + 1) * 2 ^ 256
        | .mem r => s.gp k r % 64 = 0 ∧ s.gp k r + 64 ≤ 65536 ∧ s.dmemBad k (s.gp k r) 64 = none ∧ raw = s.num (dmemBase k + s.gp k r) 64
      (s.CoreReady k (issueRegs form)) ∧ (operand s k form raw) ∧ (opcDefined e (raw % 256) = true) ∧ (e.val ≠ 6) ∧ ((s.anyMarked k (issueRegs form) = true → e.val < 2)) ∧ ((s.queue k e).length < 16) ∧ (s.rd .DM_REC_CTL_EN k = 0))
    ∧ (∃ (s : State) (k : Tile) (e : Fin 8) (form : IssueForm) (raw : Nat),
      let operand := fun (s : State) (k : Nat) (form : IssueForm) (raw : Nat) => match form with
        | .pair j => raw = s.sv k (2 * j) + s.sv k (2 * j + 1) * 2 ^ 256
        | .mem r => s.gp k r % 64 = 0 ∧ s.gp k r + 64 ≤ 65536 ∧ s.dmemBad k (s.gp k r) 64 = none ∧ raw = s.num (dmemBase k + s.gp k r) 64
      (s.CoreReady k (issueRegs form)) ∧ (operand s k form raw) ∧ (opcDefined e (raw % 256) = true) ∧ (s.anyMarked k (issueRegs form) = false) ∧ (16 ≤ (s.queue k e).length))
    ∧ (∃ (s : State) (k : Tile) (e : Fin 8) (form : IssueForm) (raw : Nat),
      let operand := fun (s : State) (k : Nat) (form : IssueForm) (raw : Nat) => match form with
        | .pair j => raw = s.sv k (2 * j) + s.sv k (2 * j + 1) * 2 ^ 256
        | .mem r => s.gp k r % 64 = 0 ∧ s.gp k r + 64 ≤ 65536 ∧ s.dmemBad k (s.gp k r) 64 = none ∧ raw = s.num (dmemBase k + s.gp k r) 64
      (s.CoreReady k (issueRegs form)) ∧ (operand s k form raw) ∧ (opcDefined e (raw % 256) = false) ∧ (s.anyMarked k (issueRegs form) = false) ∧ (s.rd .TC_STAT_INEXC k ≠ 1))
    ∧ (∃ (s : State) (k : Tile) (e : Fin 8) (form : IssueForm) (raw : Nat),
      let operand := fun (s : State) (k : Nat) (form : IssueForm) (raw : Nat) => match form with
        | .pair j => raw = s.sv k (2 * j) + s.sv k (2 * j + 1) * 2 ^ 256
        | .mem r => s.gp k r % 64 = 0 ∧ s.gp k r + 64 ≤ 65536 ∧ s.dmemBad k (s.gp k r) 64 = none ∧ raw = s.num (dmemBase k + s.gp k r) 64
      let off := (s.rd .DM_REC_ADDR_ADDR k + 64 * s.rd .DM_REC_CTL_COUNT k) % 2 ^ 24
      (s.CoreReady k (issueRegs form)) ∧ (operand s k form raw) ∧ (opcDefined e (raw % 256) = true) ∧ (e.val ≠ 6) ∧ (s.anyMarked k (issueRegs form) = false) ∧ ((s.queue k e).length < 16) ∧ (s.rd .DM_REC_CTL_EN k = 1) ∧ (testB (s.rd .DM_REC_CTL_MASK k) e = true) ∧ (s.rd .DM_REC_CTL_COUNT k + 1 < s.rd .DM_REC_CTL_LIMIT k) ∧ (s.window k = false) ∧ (off % 64 = 0))
    ∧ (∃ (s : State) (k : Tile) (word : BitVec 32),
      let rs := vxCoreRegs ⟨word.toNat, 0, 0, 0, 0, false, false⟩ (s.issueVtype k).2
      let regs := rs.1.toList ++ rs.2.toList
      (s.CoreReady k regs)) :=
  ⟨⟨coreOn [wv .SV 1 0 0], 0, 0, .pair 0, 1, ⟨by decide, by decide, by decide⟩, by decide⟩,
   ⟨coreOn [wv .SV 1 0 0, .parts fun p => { p with queues := p.queues.set 0 (List.replicate 16 (⟨1, 0, 0, false, false, 0⟩ : Desc)) }], 0, 0, .pair 0, 1, ⟨by decide, by decide, by decide⟩, by decide⟩,
   ⟨coreOn [], 0, 0, .mem 1, 0, ⟨by decide, by decide, by decide⟩, by decide⟩,
   ⟨coreOn [wv .SV 1 0 0, wr .DM_REC_CTL_EN 1 0, wr .DM_REC_CTL_MASK 1 0, wr .DM_REC_CTL_LIMIT 2 0], 0, 0, .pair 0, 1, ⟨by decide, by decide, by decide⟩, by decide⟩,
   ⟨coreOn [], 0, 0, ⟨by decide, by decide, by decide⟩⟩⟩

theorem witness_CoreGlobalAccess :
    (∃ (s : State) (k : Tile) (d : Dest) (base : RegNo) (off : W64) (size : Fin 32),
      let n := size.val + 1
      let a := s.ea k base off.toNat
      (s.CoreReady k [rgOf d, .gp base]) ∧ (s.marked k (.gp base) = false) ∧ (s.coreAt k a n = .far) ∧ (a % n = 0) ∧ ((s.tracker k).length < 1024) ∧ (s.loadsOut k < 8))
    ∧ (∃ (s : State) (k : Tile) (src : Dest) (base : RegNo) (off : W64) (size : Fin 32),
      let n := size.val + 1
      let a := s.ea k base off.toNat
      (s.CoreReady k [rgOf src, .gp base]) ∧ (s.anyMarked k [rgOf src, .gp base] = false) ∧ (s.coreAt k a n = .far) ∧ (a % n = 0) ∧ ((s.tracker k).length < 1024))
    ∧ (∃ (s : State) (k : Tile) (src : Dest) (base : RegNo) (off : W64) (size : Fin 32) (o : Nat),
      let n := size.val + 1
      let a := s.ea k base off.toNat
      (s.CoreReady k [rgOf src, .gp base]) ∧ (s.anyMarked k [rgOf src, .gp base] = false) ∧ (s.coreAt k a n = .own o) ∧ (a % n = 0))
    ∧ (∃ (s : State) (k : Tile) (src : Dest) (base : RegNo) (off : W64),
      let a := s.ea k base off.toNat
      (s.CoreReady k [rgOf src, .gp base]) ∧ (s.anyMarked k [rgOf src, .gp base] = false) ∧ (s.coreAt k a 8 = .far) ∧ (a % 8 = 0) ∧ ((s.tracker k).length < 1024))
    ∧ (∃ (s : State) (k : Tile) (op : AmoOp) (ty : AType) (d x cmp : Dest) (base : RegNo) (off : W64),
      let n := atypeSize ty
      let a := s.ea k base off.toNat
      (s.CoreReady k (rgOf d :: amoRegs op base x cmp)) ∧ (s.anyMarked k (amoRegs op base x cmp) = false) ∧ (s.coreAt k a n = .far) ∧ (a % n = 0) ∧ ((s.tracker k).length < 1024)) :=
  ⟨⟨coreOn [], 0, .sv 1, 2, 0, 31, ⟨by decide, by decide, by decide⟩, by decide⟩,
   ⟨coreOn [], 0, .sv 1, 2, 0, 31, ⟨by decide, by decide, by decide⟩, by decide⟩,
   ⟨coreOn [], 0, .sv 1, 2, 0x10000FFFFE0, 31, 0xFFFFE0, ⟨by decide, by decide, by decide⟩, by decide⟩,
   ⟨coreOn [], 0, .gp 1, 2, 8, ⟨by decide, by decide, by decide⟩, by decide⟩,
   ⟨coreOn [], 0, .cas, .f64, .gp 1, .gp 2, .gp 3, 4, 8, ⟨by decide, by decide, by decide⟩, by decide⟩⟩

theorem witness_CoreWaitsAndExceptions :
    (∃ (s : State) (k : Tile) (_c rv : RegNo), (s.CoreReady k [.gp rv]))
    ∧ (∃ (s : State) (k : Tile) (_c rv rdl : RegNo), (s.CoreReady k [.gp rv, .gp rdl, .gp 1]))
    ∧ (∃ (s : State) (k : Tile) (w : Wait), (s.parts.waits.find k = some w) ∧ (s.reached k w.counter w.value = true) ∧ ((∀ d, w.deadline = some d → gtcBefore s.gtc d = true)))
    ∧ (∃ (s : State) (k : Tile) (w : Wait) (d : Nat), (s.parts.waits.find k = some w) ∧ (w.deadline = some d) ∧ (gtcBefore s.gtc d = false))
    ∧ (∃ (s : State) (k : Tile) (rd : RegNo) (sl : Fin 4), (s.CoreReady k [.gp rd]) ∧ (s.rnBusy k sl = false) ∧ (s.rnBound k sl = true) ∧ (s.rd .RN_SLOT_CTL_OWNER k sl ≠ 1) ∧ (s.rd .RN_SLOT_CTL_POISON k sl ≠ 1))
    ∧ (∃ (s : State) (k : Tile) (rd : RegNo) (sl : Fin 4), (s.CoreReady k [.gp rd]) ∧ (s.rnBusy k sl = false) ∧ (s.rnBound k sl = false))
    ∧ (∃ (s : State) (k : Tile), (s.domOn k = true) ∧ (s.rd .TC_CTL_RUN k = 1) ∧ (s.vr .STOPPED k = 0) ∧ (s.rd .TC_STAT_INEXC k = 0) ∧ (s.rd .TC_IPEND_SRC k &&& s.rd .TC_IEN_SRC k ≠ 0))
    ∧ (∃ (s : State) (k : Tile) (n : Fin 64) (l : PendLoad), ((s.parts.loads.at k)[n.val]? = some l) ∧ (l.answered = true))
    ∧ (∃ (s : State) (k : Tile), (s.CoreReady k []) ∧ ((s.faulting k).find? (fun l => l.preExc) = none))
    ∧ (∃ (s : State) (k : Tile) (target : BitVec 16), (s.CoreReady k []) ∧ (target.toNat % 4 ≠ 0) ∧ (s.rd .TC_STAT_INEXC k = 1))
    ∧ (∃ (s : State) (k : Tile), (s.vr .DFAULT_MSG k = 1) ∧ (s.rd .MB_T2F_CTL_OWN k = 0)) :=
  ⟨⟨coreOn [], 0, 31, 0, ⟨by decide, by decide, by decide⟩⟩,
   ⟨coreOn [], 0, 31, 2, 3, ⟨by decide, by decide, by decide⟩⟩,
   ⟨coreOn [.parts fun p => { p with waits := p.waits.put 0 (some ⟨3, 0, none⟩) }], 0, ⟨3, 0, none⟩, by decide, by decide, by intro d h; cases h⟩,
   ⟨coreOn [.parts fun p => { p with waits := p.waits.put 0 (some ⟨3, 1, some 0⟩) }], 0, ⟨3, 1, some 0⟩, 0, by decide⟩,
   ⟨coreOn [wr .RN_SLOT_CTL_STATE 1 0 3], 0, 1, 3, ⟨by decide, by decide, by decide⟩, by decide⟩,
   ⟨coreOn [], 0, 1, 3, ⟨by decide, by decide, by decide⟩, by decide⟩,
   ⟨coreOn [wr .TC_IPEND_SRC 64 0, wr .TC_IEN_SRC 64 0], 0, by decide⟩,
   ⟨coreOn [.parts fun p => { p with loads := p.loads.set 0 [⟨.gp 1, 0, 0, 1, false, true, 0, 0, 0, false, 0⟩] }], 0, 0, ⟨.gp 1, 0, 0, 1, false, true, 0, 0, 0, false, 0⟩, by decide⟩,
   ⟨coreOn [], 0, ⟨by decide, by decide, by decide⟩, by decide⟩,
   ⟨coreOn [wr .TC_STAT_INEXC 1 0], 0, 1, ⟨by decide, by decide, by decide⟩, by decide⟩,
   ⟨st [wv .DFAULT_MSG 1 0], 0, by decide⟩⟩


theorem length_leBytes (n v : Nat) : (leBytes n v).length = n := by
  induction n generalizing v with
  | zero => rfl
  | succ n ih => simp [leBytes, ih]

theorem leNat_leBytes (n v : Nat) : leNat (leBytes n v) = v % 256 ^ n := by
  induction n generalizing v with
  | zero => simp [leBytes, leNat, Nat.mod_one]
  | succ n ih => simp only [leBytes, leNat, ih, BitVec.toNat_ofNat]; rw [show (256 : Nat) ^ (n + 1) = 256 * 256 ^ n from Nat.pow_succ', Nat.mod_mul]

theorem length_flatMap_const {α β : Type} (l : List α) (f : α → List β) (n : Nat) (h : ∀ x ∈ l, (f x).length = n) :
    (l.flatMap f).length = l.length * n := by
  induction l with
  | nil => simp
  | cons a l ih => simp [h a (by simp), ih (fun x hx => h x (by simp [hx])), Nat.succ_mul, Nat.add_comm]

theorem length_ctxImage (s : State) (t : Nat) : (s.ctxImage t).length = 299008 := by
  have h8 : ∀ f : Nat → List Byte, (∀ r, (f r).length = 8) → ((List.range 32).flatMap f).length = 256 :=
    fun f h => by rw [length_flatMap_const _ _ 8 (fun x _ => h x)]; simp
  have h32 : ∀ f : Nat → List Byte, (∀ r, (f r).length = 32) → ((List.range 32).flatMap f).length = 1024 :=
    fun f h => by rw [length_flatMap_const _ _ 32 (fun x _ => h x)]; simp
  have h4 : ∀ f : Nat → List Byte, (∀ r, (f r).length = 4) → ((List.range 32).flatMap f).length = 128 :=
    fun f h => by rw [length_flatMap_const _ _ 4 (fun x _ => h x)]; simp
  simp only [State.ctxImage, State.ctxBody, State.ctxControl, List.length_append, length_leBytes, List.length_replicate, State.bytes, List.length_map, List.length_range]
  rw [h8 _ (fun r => length_leBytes 8 _), h32 _ (fun r => length_leBytes 32 _), h4 _ (fun r => length_leBytes 4 _),
    h32 _ (fun r => by rw [length_flatMap_const _ _ 8 (fun x _ => length_leBytes 8 _)]; simp)]

theorem crcBits_lt (n c : Nat) (h : c < 2 ^ 32) : crcBits 0x82F63B78 n c < 2 ^ 32 := by
  induction n generalizing c with
  | zero => simpa [crcBits] using h
  | succ n ih =>
    simp only [crcBits]
    apply ih
    simp only [crcBit]
    split <;> first | exact Nat.xor_lt_two_pow (by omega) (by decide) | omega

theorem crc32c_lt (bs : List Byte) : crc32c bs < 2 ^ 32 := by
  have h : ∀ c, c < 2 ^ 32 → crc32cRun c bs < 2 ^ 32 := by
    induction bs with
    | nil => intro c h; exact h
    | cons b bs ih => intro c h; exact ih _ (crcBits_lt _ _ (Nat.xor_lt_two_pow h (by omega)))
  exact Nat.xor_lt_two_pow (h _ (by decide)) (by decide)

/-- A context image with its checksum. -/
def imageOf (body : List Byte) : List Byte := leBytes 64 (packFields [(48, 8192), (64, 16384), (192, crc32c body)]) ++ body

theorem packFields_three (i x j y k z : Nat) : packFields [(i, x), (j, y), (k, z)] = x * 2 ^ i + y * 2 ^ j + z * 2 ^ k := by simp [packFields]

theorem bits_low (a c lo w r : Nat) : (a + c * 2 ^ (lo + w + r)) / 2 ^ lo % 2 ^ w = a / 2 ^ lo % 2 ^ w := by
  have h : c * 2 ^ (lo + w + r) = 2 ^ lo * (2 ^ w * (c * 2 ^ r)) := by rw [Nat.pow_add, Nat.pow_add]; ac_rfl
  rw [h, Nat.add_mul_div_left _ _ (Nat.two_pow_pos lo), Nat.add_mul_mod_self_left]

theorem bits_high (a c n : Nat) (h : a < 2 ^ n) : (a + c * 2 ^ n) / 2 ^ n = c := by
  rw [Nat.mul_comm, Nat.add_mul_div_left _ _ (Nat.two_pow_pos n), Nat.div_eq_of_lt h, Nat.zero_add]

theorem restoreStatus_imageOf (body : List Byte) (hl : body.length = 298944) : restoreStatus (imageOf body) true = 0 := by
  have hc := crc32c_lt body
  obtain ⟨a, ha⟩ : ∃ a, a = 8192 * 2 ^ 48 + 16384 * 2 ^ 64 := ⟨_, rfl⟩
  have hh : packFields [(48, 8192), (64, 16384), (192, crc32c body)] = a + crc32c body * 2 ^ 192 := by rw [ha]; exact packFields_three _ _ _ _ _ _
  have hlt : a < 2 ^ 192 := by rw [ha]; decide
  have hm : (a + crc32c body * 2 ^ 192) % 256 ^ 64 = a + crc32c body * 2 ^ 192 := by
    have h1 : a + crc32c body * 2 ^ 192 < (crc32c body + 1) * 2 ^ 192 := by rw [Nat.add_mul, Nat.one_mul, Nat.add_comm]; exact Nat.add_lt_add_left hlt _
    have h2 : (crc32c body + 1) * 2 ^ 192 ≤ 2 ^ 32 * 2 ^ 192 := Nat.mul_le_mul_right _ hc
    exact Nat.mod_eq_of_lt (Nat.lt_of_lt_of_le h1 (Nat.le_trans h2 (by decide)))
  have ht : (imageOf body).take 64 = leBytes 64 (a + crc32c body * 2 ^ 192) := by
    rw [imageOf, hh, List.take_append_of_le_length (by simp [length_leBytes]), List.take_of_length_le (by simp [length_leBytes])]
  have hd : (imageOf body).drop 64 = body := List.drop_left' (length_leBytes 64 _)
  have hlen : (imageOf body).length = 299008 := by rw [imageOf, List.length_append, length_leBytes, hl]
  have e (hi lo r x : Nat) (h : 192 = lo + (hi + 1 - lo) + r) (hx : a / 2 ^ lo % 2 ^ (hi + 1 - lo) = x) :
      bitsOf (leNat ((imageOf body).take 64)) hi lo = x := by
    rw [ht, leNat_leBytes, hm, bitsOf, Nat.shiftRight_eq_div_pow, h, bits_low]; exact hx
  have e2 : bitsOf (leNat ((imageOf body).take 64)) 223 192 = crc32c body := by
    rw [ht, leNat_leBytes, hm, bitsOf, Nat.shiftRight_eq_div_pow, bits_high _ _ _ hlt]; exact Nat.mod_eq_of_lt hc
  have hn : ctxSize 8192 16384 = 299008 := by decide
  simp only [restoreStatus]
  rw [e 63 48 128 8192 rfl (by subst ha; decide), e 95 64 96 16384 rfl (by subst ha; decide), e2, e 31 16 160 0 rfl (by subst ha; decide), hn,
    List.take_of_length_le (Nat.le_of_eq hlen), hd, hlen]
  simp

theorem witness_CoreControlAndContexts :
    (∃ (s : State) (k : Tile) (_v : W64), (s.domOn k = true))
    ∧ (∃ (s : State) (k : Tile), (s.domOn k = true) ∧ (s.rd .TC_CTL_RUN k = 0) ∧ (s.debug = true))
    ∧ (∃ (s : State) (k : Tile) (_c : RegNo) (_v : W64), (s.domOn k = true))
    ∧ (∃ (s : State) (k : Tile), (s.rd .TC_PREEMPT_REQ k = 1) ∧ (s.rd .TC_PREEMPT_DONE k = 0) ∧ (8 ≤ s.vr .PREEMPT_TICKS k) ∧ (s.vr .PREEMPT_LATE k = 0))
    ∧ (∃ (s : State) (k : Tile), (s.domOn k = true) ∧ (s.rd .TC_WDOG_FRAMES k ≠ 0) ∧ (s.rd .TC_WDOG_FRAMES k ≤ s.vr .WDOG_FRAMES k) ∧ (s.rd .TC_WDOG_FIRED k = 0))
    ∧ (∃ (s : State) (k : Tile) (o : Nat), (s.domOn k = true) ∧ (s.vr .STOPPED k = 1) ∧ (s.rd .TC_PREEMPT_DONE k = 0) ∧ (s.vr .SAVE_OUT k = 0) ∧ (s.drainedCore k = true) ∧ (s.coreAt k (4096 * s.rd .TC_CTX_ADDR_ADDR k) (s.ctxImage k).length = .own o))
    ∧ (∃ (s : State) (k : Tile) (remote : List Byte),
      let r := s.ctxRead k remote
      (s.domOn k = true) ∧ (restoreStatus r.1 r.2 = 0))
    ∧ (∃ (s : State) (k : Tile) (remote : List Byte),
      let r := s.ctxRead k remote
      (s.domOn k = true) ∧ (restoreStatus r.1 r.2 ≠ 0)) :=
  ⟨⟨st [on 0], 0, 1, by decide⟩,
   ⟨st [on 0, wr .SC_LC_DEBUG 1], 0, by decide⟩,
   ⟨st [on 0], 0, 31, 5, by decide⟩,
   ⟨st [wr .TC_PREEMPT_REQ 1 0, wv .PREEMPT_TICKS 8 0], 0, by decide⟩,
   ⟨st [on 0, wr .TC_WDOG_FRAMES 1 0, wv .WDOG_FRAMES 1 0], 0, by decide⟩,
   ⟨st [on 0, wv .STOPPED 1 0, wr .TC_CTX_ADDR_ADDR 0x10000000 0], 0, 0, by decide, by decide, by decide, by decide, by decide, by rw [length_ctxImage]; decide⟩,
   ⟨st [on 0, wr .TC_CTX_ADDR_ADDR 0x1000000000 0], 0, imageOf (List.replicate 298944 0), by decide, by rw [show State.ctxRead _ _ _ = (imageOf (List.replicate 298944 0), true) from rfl]; exact restoreStatus_imageOf _ List.length_replicate⟩,
   ⟨st [on 0, wr .TC_CTX_ADDR_ADDR 0x1000000000 0], 0, [], by decide⟩⟩


theorem bad_unset (s : State) (i : Nat) (h : (s.file.all fun e => match e.1 with | .var x k _ => !(x == .VX_BAD && k == i) | _ => true) = true) (j : Nat) :
    s.vr .VX_BAD i j = 0 := by
  have key : ∀ l : List (Loc × Nat), (l.all fun e => match e.1 with | .var x k _ => !(x == .VX_BAD && k == i) | _ => true) = true →
      sget Loc.num Loc.resetVal l (.var .VX_BAD i j) = 0 := by
    intro l
    induction l with
    | nil => intro _; rfl
    | cons e l ih =>
      intro h
      rw [List.all_cons, Bool.and_eq_true] at h
      rw [sget, if_neg, ih h.2]
      intro hk
      have := Loc.num_inj _ _ hk
      have h1 := h.1
      rw [this] at h1; simp at h1
  exact key s.file h

theorem goes_of {s : State} {k op : Nat} {q : VxQ} {rest : List VxQ}
    (h : s.parts.vq.at k = q :: rest ∧ q.op = op ∧ s.domOn k = true ∧ s.rd .VX_STAT_FSTATE k = 2 ∧ s.rd .VX_STAT_LENT k ≠ 1 ∧ (s.vxEnv k q).held s = false
      ∧ max ((s.vxEnv k q).depend s) (if s.rd .VX_STAT_SPEC_HOLD k = 1 then s.vr .SPEC_RELEASE k else 0) ≤ s.clock) : s.VxGoes k op q rest :=
  ⟨h.1, h.2.1, h.2.2.1, h.2.2.2.1, h.2.2.2.2.1, h.2.2.2.2.2.1, h.2.2.2.2.2.2⟩

/-- A vx instruction of operation op and function fn, with registers 2 and 4 as sources and 6 as destination. -/
def vxq (op fn base stride : Nat) : VxQ := ⟨op * 2 ^ 26 + fn * 2 ^ 20 + 4 * 2 ^ 15 + 2 * 2 ^ 10 + 6 * 2 ^ 5, base, stride, 0, 0, false, false⟩

/-- Tile 0's vector engine, ON and idle, with one instruction queued under an element format and a length. -/
def vxAt (q : VxQ) (sew vl : Nat) : State :=
  at_ 0 100 [on 0, wr .VX_STAT_FSTATE 2 0, wr .VX_VTYPE_SEW sew 0, wr .VX_VTYPE_VL vl 0, .parts fun p => { p with vq := p.vq.set 0 [q] }]

theorem witness_VectorElements :
    (∃ (s : State) (q : VxQ) (rest : List VxQ), s.VxGoes 0 0x01 q rest)
    ∧ (∃ (s : State) (q : VxQ) (rest : List VxQ), s.VxGoes 0 0x10 q rest ∧ q.fn = 3)
    ∧ (∃ (s : State) (q : VxQ) (rest : List VxQ), s.VxGoes 0 0x10 q rest ∧ q.fn = 7)
    ∧ (∃ (s : State) (q : VxQ) (rest : List VxQ), s.VxGoes 0 0x10 q rest ∧ q.fn ≠ 3 ∧ q.fn ≠ 7)
    ∧ (∃ (s : State) (q : VxQ) (rest : List VxQ), s.VxGoes 0 0x11 q rest)
    ∧ (∃ (s : State) (q : VxQ) (rest : List VxQ), s.VxGoes 0 0x13 q rest)
    ∧ (∃ (s : State) (q : VxQ) (rest : List VxQ), s.VxGoes 0 0x14 q rest ∧ q.fn % 4 ≠ 2)
    ∧ (∃ (s : State) (q : VxQ) (rest : List VxQ), s.VxGoes 0 0x15 q rest)
    ∧ (∃ (s : State) (q : VxQ) (rest : List VxQ), s.VxGoes 0 0x17 q rest)
    ∧ (∃ (s : State) (q : VxQ) (rest : List VxQ), s.VxGoes 0 0x18 q rest)
    ∧ (∃ (s : State) (k : Tile) (q : VxQ) (rest : List VxQ),
      let e := s.vxEnv k q
      let sl := s.rd .VX_RNSEL_STREAM k % 4
      (s.VxGoes k 0x14 q rest) ∧ (q.fn % 4 = 2) ∧ (4 ≤ e.sew) ∧ (e.sew ≤ 9) ∧ (0 < e.vl) ∧ (s.rd .RN_SLOT_CTL_STATE k sl = 1) ∧ (s.rd .RN_SLOT_CTL_OWNER k sl ≠ 0) ∧ (s.rnFilling k sl = false)) :=
  ⟨⟨vxAt (vxq 0x01 0 0 0) 7 128, vxq 0x01 0 0 0, [], goes_of (by decide +kernel)⟩,
   ⟨vxAt (vxq 0x10 3 0 0) 7 1, vxq 0x10 3 0 0, [], goes_of (by decide +kernel), by decide⟩,
   ⟨vxAt (vxq 0x10 7 0 0) 7 1, vxq 0x10 7 0 0, [], goes_of (by decide +kernel), by decide⟩,
   ⟨vxAt (vxq 0x10 0 0 0) 7 1, vxq 0x10 0 0 0, [], goes_of (by decide +kernel), by decide⟩,
   ⟨vxAt (vxq 0x11 5 0 0) 3 1, vxq 0x11 5 0 0, [], goes_of (by decide +kernel)⟩,
   ⟨vxAt (vxq 0x13 0 0 0) 7 1, vxq 0x13 0 0 0, [], goes_of (by decide +kernel)⟩,
   ⟨vxAt (vxq 0x14 3 0 0) 7 1, vxq 0x14 3 0 0, [], goes_of (by decide +kernel), by decide⟩,
   ⟨vxAt (vxq 0x15 0 0 0) 6 1, vxq 0x15 0 0 0, [], goes_of (by decide +kernel)⟩,
   ⟨vxAt (vxq 0x17 0 0 0) 7 1, vxq 0x17 0 0 0, [], goes_of (by decide +kernel)⟩,
   ⟨vxAt (vxq 0x18 0 1 0) 7 1, vxq 0x18 0 1 0, [], goes_of (by decide +kernel)⟩,
   ⟨(vxAt (vxq 0x14 2 0 0) 6 1).run [wr .RN_SLOT_CTL_STATE 1 0 0, wr .RN_SLOT_CTL_OWNER 1 0 0], 0, vxq 0x14 2 0 0, [], goes_of (by decide), by decide⟩⟩

theorem witness_VectorReductions :
    (∃ (s : State) (q : VxQ) (rest : List VxQ), s.VxGoes 0 0x12 q rest ∧ 0 < (s.vxEnv 0 q).vl ∧ (s.vxEnv 0 q).vl ≤ 1024)
    ∧ (∃ (s : State) (q : VxQ) (rest : List VxQ), s.VxGoes 0 0x16 q rest ∧ (s.vxEnv 0 q).sew = 0)
    ∧ (∃ (s : State) (q : VxQ) (rest : List VxQ), s.VxGoes 0 0x16 q rest ∧ ∃ f, sewFmt (s.vxEnv 0 q).sew = some f)
    ∧ (∃ (s : State) (q : VxQ) (rest : List VxQ), s.VxGoes 0 0x19 q rest ∧ 0 < (s.vxEnv 0 q).vl)
    ∧ (∃ (s : State) (q : VxQ) (rest : List VxQ), s.VxGoes 0 0x20 q rest ∧ 0 < (s.vxEnv 0 q).vl)
    ∧ (∃ (s : State) (q : VxQ) (rest : List VxQ), s.VxGoes 0 0x21 q rest ∧ (∀ j, s.vr .VX_BAD 0 j = 0) ∧ ∃ f, sewFmt (s.vxEnv 0 q).sew = some f ∧ 0 < (s.vxEnv 0 q).vl)
    ∧ (∃ (s : State) (q : VxQ) (rest : List VxQ), s.VxGoes 0 0x22 q rest ∧ (∀ j, s.vr .VX_BAD 0 j = 0) ∧ ∃ f, sewFmt (s.vxEnv 0 q).sew = some f ∧ 0 < (s.vxEnv 0 q).vl)
    ∧ (∃ (s : State) (q : VxQ) (rest : List VxQ), s.VxGoes 0 0x23 q rest) :=
  ⟨⟨vxAt (vxq 0x12 0 0 0) 1 512, vxq 0x12 0 0 0, [], goes_of (by decide +kernel), by decide⟩,
   ⟨vxAt (vxq 0x16 0 0 0) 0 4, vxq 0x16 0 0 0, [], goes_of (by decide +kernel), by decide⟩,
   ⟨vxAt (vxq 0x16 0 0 0) 4 2, vxq 0x16 0 0 0, [], goes_of (by decide +kernel), ⟨.fp16, by decide⟩⟩,
   ⟨vxAt (vxq 0x19 0 0 0) 7 1, vxq 0x19 0 0 0, [], goes_of (by decide +kernel), by decide⟩,
   ⟨vxAt (vxq 0x20 0 0 0) 7 1, vxq 0x20 0 0 0, [], goes_of (by decide +kernel), by decide⟩,
   ⟨vxAt (vxq 0x21 0 0 0) 7 1, vxq 0x21 0 0 0, [], goes_of (by decide +kernel), bad_unset _ _ (by decide), .fp64, by decide⟩,
   ⟨vxAt (vxq 0x22 0 0 0) 6 1, vxq 0x22 0 0 0, [], goes_of (by decide +kernel), bad_unset _ _ (by decide), .fp32, by decide⟩,
   ⟨vxAt (vxq 0x23 0 0 0) 7 1, vxq 0x23 0 0 0, [], goes_of (by decide +kernel)⟩⟩

theorem witness_VectorMemory :
    (∃ (s : State) (q : VxQ) (rest : List VxQ), s.VxGoes 0 0x02 q rest)
    ∧ (∃ (s : State) (q : VxQ) (rest : List VxQ), s.VxGoes 0 0x04 q rest)
    ∧ (∃ (s : State) (q : VxQ) (rest : List VxQ), s.VxGoes 0 0x06 q rest)
    ∧ (∃ (s : State) (q : VxQ) (rest : List VxQ), s.VxGoes 0 0x28 q rest)
    ∧ (∃ (s : State) (q : VxQ) (rest : List VxQ), s.VxGoes 0 0x03 q rest ∧ ∀ j, s.vr .VX_BAD 0 j = 0)
    ∧ (∃ (s : State) (q : VxQ) (rest : List VxQ), s.VxGoes 0 0x05 q rest ∧ ∀ j, s.vr .VX_BAD 0 j = 0)
    ∧ (∃ (s : State) (q : VxQ) (rest : List VxQ), s.VxGoes 0 0x07 q rest ∧ ∀ j, s.vr .VX_BAD 0 j = 0)
    ∧ (∃ (s : State) (q : VxQ) (rest : List VxQ), s.VxGoes 0 0x08 q rest ∧ (∀ j, s.vr .VX_BAD 0 j = 0) ∧ ∃ i a, (s.vxEnv 0 q).addrs s = [(i, a)] ∧ s.vPois 0 q.vs1 i 32 = false)
    ∧ (∃ (s : State) (q : VxQ) (rest : List VxQ), s.VxGoes 0 0x29 q rest ∧ 256 ≤ q.stride ∧ q.base + 64 * q.stride ≤ 2 ^ 24 ∧ q.base % 64 = 0 ∧ q.stride % 64 = 0) :=
  ⟨⟨vxAt (vxq 0x02 0 16777152 0) 7 8, vxq 0x02 0 16777152 0, [], goes_of (by decide +kernel)⟩,
   ⟨vxAt (vxq 0x04 0 64 8) 7 2, vxq 0x04 0 64 8, [], goes_of (by decide +kernel)⟩,
   ⟨vxAt (vxq 0x06 0 64 8) 7 2, vxq 0x06 0 64 8, [], goes_of (by decide +kernel)⟩,
   ⟨vxAt (vxq 0x28 0 0 256) 7 1, vxq 0x28 0 0 256, [], goes_of (by decide +kernel)⟩,
   ⟨vxAt (vxq 0x03 0 64 8) 7 2, vxq 0x03 0 64 8, [], goes_of (by decide +kernel), bad_unset _ _ (by decide)⟩,
   ⟨vxAt (vxq 0x05 0 64 8) 7 2, vxq 0x05 0 64 8, [], goes_of (by decide +kernel), bad_unset _ _ (by decide)⟩,
   ⟨vxAt (vxq 0x07 0 64 8) 7 2, vxq 0x07 0 64 8, [], goes_of (by decide +kernel), bad_unset _ _ (by decide)⟩,
   ⟨vxAt (vxq 0x08 0 0 0) 7 1, vxq 0x08 0 0 0, [], goes_of (by decide +kernel), bad_unset _ _ (by decide), 0, 0, by decide +kernel⟩,
   ⟨vxAt (vxq 0x29 0 0 256) 7 1, vxq 0x29 0 0 256, [], goes_of (by decide +kernel), by decide⟩⟩

theorem witness_TileRegisterResults :
    (∃ (s : State) (q : VxQ) (rest : List VxQ), s.VxGoes 0 0x2A q rest)
    ∧ (∃ (s : State) (q : VxQ) (rest : List VxQ), s.VxGoes 0 0x2B q rest)
    ∧ (∃ (s : State) (q : VxQ) (rest : List VxQ), s.VxGoes 0 0x2D q rest ∧ (s.vxEnv 0 q).w = 32)
    ∧ (∃ (s : State) (q : VxQ) (rest : List VxQ), s.VxGoes 0 0x2C q rest ∧ testB q.fn 2 = false)
    ∧ (∃ (s : State) (q : VxQ) (rest : List VxQ), s.VxGoes 0 0x2C q rest ∧ testB q.fn 2 = true)
    ∧ (∃ (s : State) (q : VxQ) (rest : List VxQ), s.VxGoes 0 0x2E q rest)
    ∧ (∃ (s : State) (q : VxQ) (rest : List VxQ), s.VxGoes 0 0x2F q rest) :=
  ⟨⟨vxAt (vxq 0x2A 0 0 0) 7 1, vxq 0x2A 0 0 0, [], goes_of (by decide +kernel)⟩,
   ⟨vxAt (vxq 0x2B 0 0 0) 7 1, vxq 0x2B 0 0 0, [], goes_of (by decide +kernel)⟩,
   ⟨vxAt (vxq 0x2D 0 0 0) 6 1, vxq 0x2D 0 0 0, [], goes_of (by decide +kernel), by decide⟩,
   ⟨vxAt (vxq 0x2C 0 0 0) 7 1, vxq 0x2C 0 0 0, [], goes_of (by decide +kernel), by decide⟩,
   ⟨vxAt (vxq 0x2C 4 0 0) 7 1, vxq 0x2C 4 0 0, [], goes_of (by decide +kernel), by decide⟩,
   ⟨vxAt (vxq 0x2E 0 63 0) 7 1, vxq 0x2E 0 63 0, [], goes_of (by decide +kernel)⟩,
   ⟨vxAt (vxq 0x2F 0 63 0) 7 1, vxq 0x2F 0 63 0, [], goes_of (by decide +kernel)⟩⟩

theorem witness_VectorControl :
    (∃ (s : State) (q : VxQ) (rest : List VxQ), s.VxGoes 0 0x00 q rest ∧ vlMax (q.vs1 % 16) < q.base)
    ∧ (∃ (s : State) (q : VxQ) (rest : List VxQ), s.VxGoes 0 0x30 q rest ∧ ∀ j, s.vr .VX_BAD 0 j = 0)
    ∧ (∃ (s : State) (q : VxQ) (rest : List VxQ), s.VxGoes 0 0x31 q rest)
    ∧ (∃ (s : State) (q : VxQ) (rest : List VxQ), s.VxGoes 0 0x32 q rest ∧ s.vr .LENDS 0 + 1 < 2 ^ 64)
    ∧ (∃ (s : State) (k : Tile) (d : VxDone) (slot : Nat), ((s.parts.vxDone.at k).find? (fun d => decide (d.done ≤ s.clock)) = some d) ∧ (d.slot = some slot))
    ∧ (∃ (s : State) (k : Tile) (_v : W64), (s.vxWritable k = true))
    ∧ (∃ (s : State) (k : Tile) (_v : W64), (s.vxWritable k = false)) :=
  ⟨⟨vxAt (vxq 0x00 0 9999 0) 7 1, vxq 0x00 0 9999 0, [], goes_of (by decide +kernel), by decide⟩,
   ⟨vxAt (vxq 0x30 0 0 0) 7 1, vxq 0x30 0 0 0, [], goes_of (by decide +kernel), bad_unset _ _ (by decide)⟩,
   ⟨vxAt (vxq 0x31 0 0 0) 7 1, vxq 0x31 0 0 0, [], goes_of (by decide +kernel)⟩,
   ⟨vxAt (vxq 0x32 0 0 0) 7 1, vxq 0x32 0 0 0, [], goes_of (by decide +kernel), by decide⟩,
   ⟨st [.parts fun p => { p with vxDone := p.vxDone.set 0 [⟨0, 31, some 3, 0, 0, 0, 0, false⟩] }], 0, ⟨0, 31, some 3, 0, 0, 0, 0, false⟩, 3, by decide⟩,
   ⟨st [on 0, wr .VX_STAT_FSTATE 2 0], 0, by decide +kernel⟩,
   ⟨st [], 0, by decide +kernel⟩⟩


/-- A descriptor with the listed fields, at their first bits. -/
def desc (l : List (Nat × Nat)) : Desc := ⟨packFields l, 0, 0, false, false, 0⟩

/-- An MMA of one block and one k-step, an EPI and an MMF of one element. -/
def mmaD : Desc := desc [(0, 1), (96, 0x1000), (288, 1), (304, 1), (320, 128)]
def epiD : Desc := desc [(0, 2), (128, 0x2000), (256, 64), (288, 1), (304, 1)]
def mmfD : Desc := desc [(0, 0x10), (96, 0x1000), (128, 0x2000), (224, 0x10000), (256, 64), (288, 1), (304, 1), (320, 1), (342, 1), (448, 0x20000), (473, 1), (474, 1)]

/-- Tile 0 and its array in a state, with one descriptor queued to engine e. -/
def engAt (e : Nat) (d : Desc) (l : List Act) : State := at_ 0 1000000 ([on 0, on 40, .parts fun p => { p with queues := p.queues.set e [d] }] ++ l)

theorem head_of {s : State} {k : Nat} {d : Desc} {rest : List Desc}
    (h : s.domOn k = true ∧ ((s.parts.mx.at k).find? fun r => !r.fin) = none ∧ s.queue k 0 = d :: rest ∧ d.note = 0 ∧ s.ready k d = true ∧ s.vr .BIST_RUN k ≠ 1) :
    s.MatrixHead k d rest := h

theorem witness_MatrixProducts :
    (∃ (s : State) (k : Tile) (d : Desc) (rest : List Desc), (s.MatrixHead k d rest) ∧ (d.mxInvalid = false) ∧ (s.arrayServes k d = some true) ∧ (s.mxDue k d = true))
    ∧ (∃ (s : State) (k : Tile) (d : Desc) (rest : List Desc), (s.MatrixHead k d rest) ∧ (d.opc = 1) ∧ (d.mxInvalid = false) ∧ (s.arrayServes k d = some true) ∧ (s.mxDue k d = true) ∧ (d.b 342 = false) ∧ (d.b 365 = false) ∧ (d.f 335 320 ≤ d.kc))
    ∧ (∃ (s : State) (k : Tile) (d : Desc) (rest : List Desc), (s.MatrixHead k d rest) ∧ (d.opc = 2) ∧ (d.mxInvalid = false) ∧ (s.arrayServes k d = some true) ∧ (s.mxDue k d = true) ∧ ((s.mxSpec k d && s.mxLeaves k d.mxWrites) = false))
    ∧ (∃ (s : State) (k : Tile) (d : Desc) (rest : List Desc), (s.MatrixHead k d rest) ∧ (d.opc = 0x10) ∧ (mmfCheck k d s = none) ∧ (s.arrayServes k d = some true) ∧ (s.mxDue k d = true)) :=
  ⟨⟨engAt 0 mmaD [], 0, mmaD, [], head_of (by decide +kernel), by decide +kernel⟩,
   ⟨engAt 0 mmaD [], 0, mmaD, [], head_of (by decide +kernel), by decide +kernel⟩,
   ⟨engAt 0 epiD [], 0, epiD, [], head_of (by decide +kernel), by decide +kernel⟩,
   ⟨engAt 0 mmfD [], 0, mmfD, [], head_of (by decide +kernel), by decide +kernel⟩⟩

theorem witness_MatrixQueueAndTest :
    (∃ (s : State) (d : Desc) (rest : List Desc), s.MatrixHead 0 d rest ∧ d.opc = 1 ∧ d.mxInvalid = true)
    ∧ (∃ (s : State) (d : Desc) (rest : List Desc), s.MatrixHead 0 d rest ∧ d.opc = 2 ∧ d.mxInvalid = true)
    ∧ (∃ (s : State) (d : Desc) (rest : List Desc), s.MatrixHead 0 d rest ∧ d.opc = 0x10 ∧ d.mmfInvalid = true)
    ∧ (∃ (s : State) (d : Desc) (rest : List Desc), s.MatrixHead 0 d rest ∧ d.opc = 1 ∧ d.mxInvalid = false ∧ s.arrayServes 0 d = some false)
    ∧ (∃ (s : State) (d : Desc) (rest : List Desc), s.MatrixHead 0 d rest ∧ d.opc = 2 ∧ d.mxInvalid = false ∧ s.arrayServes 0 d = some false)
    ∧ (∃ (s : State) (d : Desc) (rest : List Desc), s.MatrixHead 0 d rest ∧ d.opc = 0x10 ∧ (mmfCheck 0 d s).isNone ∧ s.arrayServes 0 d = some false)
    ∧ (∃ (s : State) (k : Tile) (r : MxRun) (rest : List MxRun), (s.parts.mx.at k = r :: rest) ∧ (r.fin = true) ∧ (r.done ≤ s.clock) ∧ (r.desc.opc ≠ 0x10 ∨ r.final ∈ [0x84, 0x85, 0x14, 0x66]))
    ∧ (∃ (s : State) (k : Tile) (r : MxRun) (rest : List MxRun), (s.parts.mx.at k = r :: rest) ∧ (r.fin = true) ∧ (r.done ≤ s.clock) ∧ (r.desc.opc = 0x10) ∧ (r.final ∈ [0, 0x23, 0x24, 0x40]))
    ∧ (∃ (s : State) (k : Tile), (s.domOn k = true) ∧ (s.dom (40 + k) = 2) ∧ (s.queue k 0 = []) ∧ (s.parts.mx.at k = []) ∧ (s.vr .BIST_RUN k ≠ 1))
    ∧ (∃ (s : State) (k : Tile), (s.vr .BIST_RUN k = 1) ∧ (s.vr .BIST_AT k ≤ s.clock)) :=
  ⟨⟨engAt 0 (desc [(0, 1)]) [], desc [(0, 1)], [], head_of (by decide +kernel), by decide +kernel⟩,
   ⟨engAt 0 (desc [(0, 2)]) [], desc [(0, 2)], [], head_of (by decide +kernel), by decide +kernel⟩,
   ⟨engAt 0 (desc [(0, 0x10)]) [], desc [(0, 0x10)], [], head_of (by decide +kernel), by decide +kernel⟩,
   ⟨(State.act (engAt 0 mmaD []) (wr .PM_DOM_FSTATE 0 0 40)), mmaD, [], head_of (by decide +kernel), by decide +kernel⟩,
   ⟨(State.act (engAt 0 epiD []) (wr .PM_DOM_FSTATE 0 0 40)), epiD, [], head_of (by decide +kernel), by decide +kernel⟩,
   ⟨(State.act (engAt 0 mmfD []) (wr .PM_DOM_FSTATE 0 0 40)), mmfD, [], head_of (by decide +kernel), by decide +kernel⟩,
   ⟨st [.parts fun p => { p with mx := p.mx.set 0 [{ desc := mmaD, start := 0, fin := true, status := 0 }] }], 0, { desc := mmaD, start := 0, fin := true, status := 0 }, [], by decide +kernel⟩,
   ⟨st [.parts fun p => { p with mx := p.mx.set 0 [{ desc := mmfD, start := 0, fin := true, status := 0x23 }] }], 0, { desc := mmfD, start := 0, fin := true, status := 0x23 }, [], by decide +kernel⟩,
   ⟨st [on 0, on 40], 0, by decide +kernel⟩,
   ⟨st [wv .BIST_RUN 1 0], 0, by decide +kernel⟩⟩


/-- A structure image of order 1 at the start of tile 0's store (Tables 7.1 and 7.2), and a valid handle 0 that refers to it. -/
def image1 : List Act :=
  putBytes (storeBase 0) (leBytes 64 (packFields [(0, 1), (32, 1), (64, 1), (96, 1), (128, 1)])) ++ putBytes (storeBase 0 + 132) [1] ++ putBytes (storeBase 0 + 324) [1]

def handle0 : List Act := image1 ++ [wr .SV_STAT_FSTATE 2 0, wr .SV_HSTAT_VALID 1 0 0, wr .SV_HSTAT_N 1 0 0]

def loadD : Desc := desc [(0, 1)]
def valuesD : Desc := desc [(0, 1), (98, 1)]
def updateD : Desc := desc [(0, 2), (64, 0x1000), (128, 1)]
def solveD : Desc := desc [(0, 3), (64, 0x1000), (96, 0x2000), (128, 0x3000)]
def freeD : Desc := desc [(0, 4)]

theorem witness_SolverStartsAndPhases :
    (∃ (s : State) (d : Desc) (rest : List Desc), s.SolverHead 0 d rest true ∧ d.opc = 1 ∧ svLoadBad 0 s d = true)
    ∧ (∃ (s : State) (d : Desc) (rest : List Desc), s.SolverHead 0 d rest true ∧ d.opc = 2 ∧ svUpdateBad 0 s d = true)
    ∧ (∃ (s : State) (d : Desc) (rest : List Desc), s.SolverHead 0 d rest true ∧ d.opc = 3 ∧ svSolveBad 0 s d = true)
    ∧ (∃ (s : State) (d : Desc) (rest : List Desc), s.SolverHead 0 d rest false ∧ d.opc = 1 ∧ svLoadBad 0 s d = false)
    ∧ (∃ (s : State) (d : Desc) (rest : List Desc), s.SolverHead 0 d rest false ∧ d.opc = 2 ∧ svUpdateBad 0 s d = false)
    ∧ (∃ (s : State) (d : Desc) (rest : List Desc), s.SolverHead 0 d rest false ∧ d.opc = 3 ∧ svSolveBad 0 s d = false)
    ∧ (∃ (s : State) (d : Desc) (rest : List Desc), s.SolverHead 0 d rest false ∧ d.opc = 4)
    ∧ (∃ (s : State) (d : Desc) (rest : List Desc), s.SolverHead 0 d rest true ∧ d.opc = 1 ∧ svLoadBad 0 s d = false ∧ (s.svSpec 0 d && s.svLeaves 0 d) = false ∧ (s.rd .SV_STAT_SPEC_HOLD 0 = 1 → s.vr .SPEC_RELEASE 0 ≤ s.clock) ∧ d.b 98 = true)
    ∧ (∃ (s : State) (d : Desc) (rest : List Desc), s.SolverHead 0 d rest true ∧ d.opc = 1 ∧ svLoadBad 0 s d = false ∧ (s.svSpec 0 d && s.svLeaves 0 d) = false ∧ (s.rd .SV_STAT_SPEC_HOLD 0 = 1 → s.vr .SPEC_RELEASE 0 ≤ s.clock) ∧ d.b 98 = false)
    ∧ (∃ (s : State) (d : Desc) (rest : List Desc), s.SolverHead 0 d rest true ∧ d.opc = 2 ∧ svUpdateBad 0 s d = false ∧ (s.svSpec 0 d && s.svLeaves 0 d) = false ∧ (s.rd .SV_STAT_SPEC_HOLD 0 = 1 → s.vr .SPEC_RELEASE 0 ≤ s.clock))
    ∧ (∃ (s : State) (d : Desc) (rest : List Desc), s.SolverHead 0 d rest true ∧ d.opc = 4 ∧ (s.svSpec 0 d && s.svLeaves 0 d) = false ∧ (s.rd .SV_STAT_SPEC_HOLD 0 = 1 → s.vr .SPEC_RELEASE 0 ≤ s.clock))
    ∧ (∃ (s : State) (d : Desc) (rest : List Desc), s.SolverHead 0 d rest true ∧ d.opc = 3 ∧ svSolveBad 0 s d = false)
    ∧ (∃ (s : State) (r : SvRun), s.parts.sv.find 0 = some r ∧ r.phase = 1 ∧ r.phaseEnd ≤ s.clock ∧ r.status ≠ 0)
    ∧ (∃ (s : State) (r : SvRun), s.parts.sv.find 0 = some r ∧ r.phase = 1 ∧ r.phaseEnd ≤ s.clock ∧ r.status = 0 ∧ s.svPast r = false ∧ s.vr .SOLVES 0 ∉ s.parts.lendsOff.at 0 ∧ s.rd .VX_STAT_LENT 0 ≠ 1 ∧ (r.spec && s.svLeaves 0 r.desc) = false)
    ∧ (∃ (s : State) (r : SvRun), s.parts.sv.find 0 = some r ∧ r.phase = 1 ∧ r.phaseEnd ≤ s.clock ∧ r.status = 0 ∧ s.svPast r = false ∧ s.vr .SOLVES 0 ∉ s.parts.lendsOff.at 0 ∧ s.rd .VX_STAT_LENT 0 = 1 ∧ s.vr .LENDS 0 = s.vr .SOLVES 0 + 1 ∧ (r.spec && s.svLeaves 0 r.desc) = false ∧ s.rd .SV_STAT_SPEC_HOLD 0 ≠ 1)
    ∧ (∃ (s : State) (k : Tile) (r : SvRun), (s.parts.sv.find k = some r) ∧ (r.phase = 5) ∧ (r.phaseEnd ≤ s.clock) ∧ (s.vr .SV_BUF_BAD k = 0))
    ∧ (∃ (s : State) (k : Tile) (r : SvRun) (d : Nat), (s.parts.sv.find k = some r) ∧ (r.deadline = some d) ∧ (gtcBefore s.gtc d = false) ∧ (r.status = 0))
    ∧ (∃ (s : State) (k : Tile) (r : SvRun) (d : Nat), (s.parts.sv.find k = some r) ∧ (r.deadline = some d) ∧ (gtcBefore s.gtc d = false) ∧ (r.status = 0) ∧ r.phase = 5)
    ∧ (∃ (s : State) (k : Tile) (r : SvRun) (d : Nat), (s.parts.sv.find k = some r) ∧ (r.deadline = some d) ∧ (gtcBefore s.gtc d = false) ∧ (r.status = 0) ∧ r.phase = 2) :=
  ⟨⟨engAt 1 (desc [(0, 1), (64, 1)]) [wr .SV_STAT_FSTATE 2 0], desc [(0, 1), (64, 1)], [], ⟨by decide +kernel, by decide +kernel, by decide +kernel, by decide +kernel, by decide +kernel, by decide +kernel, by decide +kernel⟩, by decide +kernel⟩,
   ⟨engAt 1 (desc [(0, 2)]) [wr .SV_STAT_FSTATE 2 0], desc [(0, 2)], [], ⟨by decide +kernel, by decide +kernel, by decide +kernel, by decide +kernel, by decide +kernel, by decide +kernel, by decide +kernel⟩, by decide +kernel⟩,
   ⟨engAt 1 (desc [(0, 3)]) [wr .SV_STAT_FSTATE 2 0], desc [(0, 3)], [], ⟨by decide +kernel, by decide +kernel, by decide +kernel, by decide +kernel, by decide +kernel, by decide +kernel, by decide +kernel⟩, by decide +kernel⟩,
   ⟨engAt 1 (loadD) [wr .SV_STAT_FSTATE 0 0], loadD, [], ⟨by decide +kernel, by decide +kernel, by decide +kernel, by decide +kernel, by decide +kernel, by decide +kernel, by decide +kernel⟩, by decide +kernel⟩,
   ⟨engAt 1 (updateD) (handle0 ++ [wr .SV_STAT_FSTATE 0 0]), updateD, [], ⟨by decide +kernel, by decide +kernel, by decide +kernel, by decide +kernel, by decide +kernel, by decide +kernel, by decide +kernel⟩, by decide +kernel⟩,
   ⟨engAt 1 (solveD) (handle0 ++ [wr .SV_STAT_FSTATE 0 0]), solveD, [], ⟨by decide +kernel, by decide +kernel, by decide +kernel, by decide +kernel, by decide +kernel, by decide +kernel, by decide +kernel⟩, by decide +kernel⟩,
   ⟨engAt 1 (freeD) [wr .SV_STAT_FSTATE 0 0], freeD, [], ⟨by decide +kernel, by decide +kernel, by decide +kernel, by decide +kernel, by decide +kernel, by decide +kernel, by decide +kernel⟩, by decide +kernel⟩,
   ⟨engAt 1 (valuesD) handle0, valuesD, [], ⟨by decide +kernel, by decide +kernel, by decide +kernel, by decide +kernel, by decide +kernel, by decide +kernel, by decide +kernel⟩, by decide +kernel⟩,
   ⟨engAt 1 (loadD) handle0, loadD, [], ⟨by decide +kernel, by decide +kernel, by decide +kernel, by decide +kernel, by decide +kernel, by decide +kernel, by decide +kernel⟩, by decide +kernel⟩,
   ⟨engAt 1 (updateD) handle0, updateD, [], ⟨by decide +kernel, by decide +kernel, by decide +kernel, by decide +kernel, by decide +kernel, by decide +kernel, by decide +kernel⟩, by decide +kernel⟩,
   ⟨engAt 1 (freeD) handle0, freeD, [], ⟨by decide +kernel, by decide +kernel, by decide +kernel, by decide +kernel, by decide +kernel, by decide +kernel, by decide +kernel⟩, by decide +kernel⟩,
   ⟨engAt 1 (solveD) handle0, solveD, [], ⟨by decide +kernel, by decide +kernel, by decide +kernel, by decide +kernel, by decide +kernel, by decide +kernel, by decide +kernel⟩, by decide +kernel⟩,
   ⟨st (handle0 ++ [.parts fun p => { p with sv := p.sv.put 0 (some ⟨solveD, 0, 1, 0, none, false, false, 0, 0, 0, 0, false, false, 0, 0, 0, 0, 0, [], [], [], [], [], 0x84, 0, false⟩) }]), ⟨solveD, 0, 1, 0, none, false, false, 0, 0, 0, 0, false, false, 0, 0, 0, 0, 0, [], [], [], [], [], 0x84, 0, false⟩, by decide +kernel⟩,
   ⟨st (handle0 ++ [.parts fun p => { p with sv := p.sv.put 0 (some ⟨solveD, 0, 1, 0, none, false, false, 0, 0, 0, 0, false, false, 0, 0, 0, 0, 0, [], [], [], [], [], 0, 0, false⟩) }]), ⟨solveD, 0, 1, 0, none, false, false, 0, 0, 0, 0, false, false, 0, 0, 0, 0, 0, [], [], [], [], [], 0, 0, false⟩, by decide +kernel⟩,
   ⟨st (handle0 ++ [.parts fun p => { p with sv := p.sv.put 0 (some ⟨solveD, 0, 1, 0, none, false, false, 0, 0, 0, 0, false, false, 0, 0, 0, 0, 0, [], [], [], [], [], 0, 0, false⟩) }, wr .VX_STAT_LENT 1 0, wv .LENDS 1 0]), ⟨solveD, 0, 1, 0, none, false, false, 0, 0, 0, 0, false, false, 0, 0, 0, 0, 0, [], [], [], [], [], 0, 0, false⟩, by decide +kernel⟩,
   ⟨st (handle0 ++ [.parts fun p => { p with sv := p.sv.put 0 (some ⟨solveD, 0, 5, 0, none, false, false, 0, 0, 0, 0, false, false, 0, 0, 0, 0, 0, [], [], [], [], [], 0, 0, false⟩) }]), 0, ⟨solveD, 0, 5, 0, none, false, false, 0, 0, 0, 0, false, false, 0, 0, 0, 0, 0, [], [], [], [], [], 0, 0, false⟩, by decide +kernel⟩,
   ⟨st (handle0 ++ [.parts fun p => { p with sv := p.sv.put 0 (some ⟨solveD, 0, 3, 0, some 0, false, false, 0, 0, 0, 0, false, false, 0, 0, 0, 0, 0, [], [], [], [], [], 0, 0, false⟩) }]), 0, ⟨solveD, 0, 3, 0, some 0, false, false, 0, 0, 0, 0, false, false, 0, 0, 0, 0, 0, [], [], [], [], [], 0, 0, false⟩, 0, by decide +kernel⟩,
   ⟨st (handle0 ++ [.parts fun p => { p with sv := p.sv.put 0 (some ⟨solveD, 0, 5, 0, some 0, false, false, 0, 0, 0, 0, false, false, 0, 0, 0, 0, 0, [], [], [], [], [], 0, 0, false⟩) }]), 0, ⟨solveD, 0, 5, 0, some 0, false, false, 0, 0, 0, 0, false, false, 0, 0, 0, 0, 0, [], [], [], [], [], 0, 0, false⟩, 0, by decide +kernel⟩,
   ⟨st (handle0 ++ [.parts fun p => { p with sv := p.sv.put 0 (some ⟨solveD, 0, 2, 0, some 0, false, false, 0, 0, 0, 0, false, false, 0, 0, 0, 0, 0, [], [], [], [], [], 0, 0, false⟩) }]), 0, ⟨solveD, 0, 2, 0, some 0, false, false, 0, 0, 0, 0, false, false, 0, 0, 0, 0, 0, [], [], [], [], [], 0, 0, false⟩, 0, by decide +kernel⟩⟩

theorem witness_SolverCompletions :
    (∃ (s : State) (k : Tile) (q : Running), (s.running k 1 = some q) ∧ (s.parts.sv.find k = none) ∧ (q.done ≤ s.clock) ∧ (q.desc.opc ≠ 3) ∧ (q.status ≠ 0))
    ∧ (∃ (s : State) (k : Tile) (q : Running), (s.running k 1 = some q) ∧ (s.parts.sv.find k = none) ∧ (q.done ≤ s.clock) ∧ (q.desc.opc = 4) ∧ (q.status = 0))
    ∧ (∃ (s : State) (k : Tile) (q : Running),
      let a := q.desc.f 87 64
      let m := s.svHead k a
      (s.running k 1 = some q) ∧ (s.parts.sv.find k = none) ∧ (q.done ≤ s.clock) ∧ (q.desc.opc = 1) ∧ (q.status = 0) ∧ (q.desc.b 98 = false) ∧ ((m.headerOk = true ∧ a + m.bytes ≤ 2 ^ 24)) ∧ ((s.svImg k a).structureOk = true) ∧ ((s.readTs k a 64).bad = []) ∧ ((∀ j < 6, (s.svSec k a m j).bad = [])))
    ∧ (∃ (s : State) (k : Tile) (q : Running),
      let a := q.desc.f 87 64
      let n := q.desc.f 147 128
      let r := s.readTs k a (16 * n)
      (s.running k 1 = some q) ∧ (s.parts.sv.find k = none) ∧ (q.done ≤ s.clock) ∧ (q.desc.opc = 2) ∧ (q.status = 0) ∧ (r.bad = []))
    ∧ (∃ (s : State) (k : Tile) (q : Running) (r : SvRun), (s.running k 1 = some q) ∧ (q.desc.opc = 3) ∧ (s.parts.sv.find k = some r) ∧ (r.phase = 6) ∧ (r.phaseEnd ≤ s.clock) ∧ (r.status ≠ 0x14)) :=
  ⟨⟨st (handle0 ++ [.parts fun p => { p with running := p.running.put 1 (some ⟨loadD, 0, 0, 0x85, 0, 0, false⟩) }]), 0, ⟨loadD, 0, 0, 0x85, 0, 0, false⟩, by decide +kernel⟩,
   ⟨st (handle0 ++ [.parts fun p => { p with running := p.running.put 1 (some ⟨freeD, 0, 0, 0, 0, 0, false⟩) }]), 0, ⟨freeD, 0, 0, 0, 0, 0, false⟩, by decide +kernel⟩,
   ⟨st (handle0 ++ [.parts fun p => { p with running := p.running.put 1 (some ⟨loadD, 0, 0, 0, 0, 0, false⟩) }]), 0, ⟨loadD, 0, 0, 0, 0, 0, false⟩, by decide +kernel⟩,
   ⟨st (handle0 ++ [.parts fun p => { p with running := p.running.put 1 (some ⟨updateD, 0, 0, 0, 0, 0, false⟩) }]), 0, ⟨updateD, 0, 0, 0, 0, 0, false⟩, by decide +kernel⟩,
   ⟨st (handle0 ++ [.parts fun p => { p with running := p.running.put 1 (some ⟨solveD, 0, 0, 0, 0, 0, false⟩) }, .parts fun p => { p with sv := p.sv.put 0 (some ⟨solveD, 0, 6, 0, none, false, false, 0, 0, 0, 0, false, false, 0, 0, 0, 0, 0, [], [], [], [], [], 0, 0, false⟩) }]), 0, ⟨solveD, 0, 0, 0, 0, 0, false⟩, ⟨solveD, 0, 6, 0, none, false, false, 0, 0, 0, 0, false, false, 0, 0, 0, 0, 0, [], [], [], [], [], 0, 0, false⟩, by decide +kernel⟩⟩


theorem witness_RandomSlots :
    (∃ (s : State) (k : Tile) (sl : Fin 4) (_v : W64), (s.domOn k = true) ∧ (s.rnFree k sl = true) ∧ (s.rd .RN_SLOT_CTL_STATE k sl < 2))
    ∧ (∃ (s : State) (k : Tile) (sl : Fin 4) (_v : W64), (s.domOn k = true) ∧ (s.rnFree k sl = true) ∧ (s.rd .RN_SLOT_CTL_STATE k sl = 1))
    ∧ (∃ (s : State) (k : Tile) (sl : Fin 4) (_v : W64), (s.domOn k = true) ∧ (s.rnFree k sl = true) ∧ (s.rd .RN_SLOT_CTL_STATE k sl < 2) ∧ (s.vr .RN_PCMD k sl = 0))
    ∧ (∃ (s : State) (k : Tile) (sl : Fin 4) (_v : W64), (s.domOn k = true) ∧ (s.rnFree k sl = false ∨ 2 ≤ s.rd .RN_SLOT_CTL_STATE k sl))
    ∧ (∃ (s : State) (k : Tile) (sl : Fin 4),
      let a := s.rd .RN_SLOT_ADDR_ADDR k sl
      let r := s.readTs k a (min imageBytes (2 ^ 24 - a))
      let st := rnImageStatus a r
      (s.vr .RN_AT k sl ≤ s.clock) ∧ (s.vr .RN_PCMD k sl = 0) ∧ (s.vr .RN_POWN k sl = 0) ∧ (s.rd .RN_SLOT_CTL_STATE k sl = 2 ∧ st ≠ 0))
    ∧ (∃ (s : State) (k : Tile) (sl : Fin 4), (s.vr .RN_AT k sl ≤ s.clock) ∧ (s.vr .RN_PCMD k sl = 0) ∧ (s.vr .RN_POWN k sl = 0) ∧ (s.rd .RN_SLOT_CTL_STATE k sl = 3 ∧ s.rd .RN_SLOT_ADDR_ADDR k sl + imageBytes ≤ 2 ^ 24))
    ∧ (∃ (s : State) (k : Tile) (v : W64), (s.domOn k = true) ∧ (testB v.toNat 29 = true) ∧ (s.rd .RN_FILL_CTL_BUSY k = 1))
    ∧ (∃ (s : State) (k : Tile) (v : W64),
      let n := bitsOf v.toNat 21 0
      let sl := bitsOf v.toNat 23 22
      let a := s.rd .RN_FILL_ADDR_ADDR k
      (s.domOn k = true) ∧ (testB v.toNat 29 = true) ∧ (s.rd .RN_FILL_CTL_BUSY k ≠ 1 ∧ n ≠ 0 ∧ n % 8 = 0 ∧ a % 64 = 0 ∧ a + 8 * n ≤ 2 ^ 24 ∧ s.rnBound k sl = true ∧ s.rd .RN_SLOT_CTL_OWNER k sl = 0))
    ∧ (∃ (s : State) (k : Tile) (v : W64),
      let n := bitsOf v.toNat 21 0
      (s.domOn k = true) ∧ (testB v.toNat 29 = true) ∧ (s.rd .RN_FILL_CTL_BUSY k ≠ 1 ∧ n = 0))
    ∧ (∃ (s : State) (k : Tile),
      let n := s.rd .RN_FILL_CTL_COUNT k
      (s.rd .RN_FILL_CTL_BUSY k = 1) ∧ (s.vr .RN_FILL_AT k ≤ s.clock) ∧ (n ≠ 0)) :=
  ⟨⟨st [on 0], 0, 3, 0xFC, by decide +kernel⟩,
   ⟨st [on 0, wr .RN_SLOT_CTL_STATE 1 0 3], 0, 3, 0xFC, by decide +kernel⟩,
   ⟨st [on 0], 0, 3, 4, by decide +kernel⟩,
   ⟨st [on 0, wr .RN_SLOT_CTL_STATE 2 0 3], 0, 3, 0, by decide +kernel, .inr (by decide +kernel)⟩,
   ⟨st [wr .RN_SLOT_CTL_STATE 2 0 3, wr .RN_SLOT_ADDR_ADDR 0xFFFFC0 0 3], 0, 3, by decide +kernel⟩,
   ⟨st [wr .RN_SLOT_CTL_STATE 3 0 3], 0, 3, by decide +kernel⟩,
   ⟨st [on 0, wr .RN_FILL_CTL_BUSY 1 0], 0, 0x20000000, by decide +kernel⟩,
   ⟨st [on 0, wr .RN_SLOT_CTL_STATE 1 0 0, wr .RN_FILL_ADDR_ADDR 0xFFFFC0 0], 0, 0x20000008, by decide +kernel⟩,
   ⟨st [on 0], 0, 0x20000000, by decide +kernel⟩,
   ⟨st [wr .RN_FILL_CTL_BUSY 1 0, wr .RN_FILL_CTL_COUNT 8 0], 0, by decide +kernel⟩⟩


def copyD : Desc := desc [(0, 1), (64, 0x010000000000), (128, 0x010000FFFFC0), (192, 64), (216, 1)]
def hashD : Desc := desc [(0, 2), (64, 0x010000FFFFC0), (192, 64), (216, 1), (352, 1), (354, 1)]
def zeroD : Desc := desc [(0, 3), (128, 0x010000FFFFC0), (192, 64), (216, 1)]

theorem witness_DmaTransfers :
    (∃ (s : State) (d : Desc) (rest : List Desc), s.DmaHead 0 d rest true ∧ d.opc = 1 ∧ s.dmaBad 0 d = true)
    ∧ (∃ (s : State) (d : Desc) (rest : List Desc), s.DmaHead 0 d rest false ∧ d.opc = 1 ∧ s.dmaBad 0 d = false)
    ∧ (∃ (s : State) (d : Desc) (rest : List Desc), s.DmaHead 0 d rest true ∧ d.opc = 1 ∧ s.dmaBad 0 d = false ∧ s.readsCaldera 0 d (s.dmaReads 0 d) = false ∧ (s.rd .DM_STAT_SPEC_HOLD 0 = 1 → s.vr .SPEC_RELEASE 0 ≤ s.clock) ∧ (s.parts.trkDone.at 0).any TrkDone.forDma = false)
    ∧ (∃ (s : State) (d : Desc) (rest : List Desc), s.DmaHead 0 d rest true ∧ d.opc = 2 ∧ s.dmaBad 0 d = true)
    ∧ (∃ (s : State) (d : Desc) (rest : List Desc), s.DmaHead 0 d rest false ∧ d.opc = 2 ∧ s.dmaBad 0 d = false)
    ∧ (∃ (s : State) (d : Desc) (rest : List Desc), s.DmaHead 0 d rest true ∧ d.opc = 2 ∧ s.dmaBad 0 d = false ∧ s.readsCaldera 0 d (s.dmaReads 0 d) = false ∧ (s.rd .DM_STAT_SPEC_HOLD 0 = 1 → s.vr .SPEC_RELEASE 0 ≤ s.clock) ∧ (s.parts.trkDone.at 0).any TrkDone.forDma = false)
    ∧ (∃ (s : State) (d : Desc) (rest : List Desc), s.DmaHead 0 d rest true ∧ d.opc = 3 ∧ s.dmaBad 0 d = true)
    ∧ (∃ (s : State) (d : Desc) (rest : List Desc), s.DmaHead 0 d rest false ∧ d.opc = 3 ∧ s.dmaBad 0 d = false)
    ∧ (∃ (s : State) (d : Desc) (rest : List Desc), s.DmaHead 0 d rest true ∧ d.opc = 1 ∧ s.dmaBad 0 d = false ∧ s.readsCaldera 0 d (s.dmaReads 0 d) = true)
    ∧ (∃ (s : State) (k : Tile) (d : Desc) (rest : List Desc) (off : Nat),
      let quiet := fun (s : State) (k : Nat) => (s.parts.trkDone.at k).any TrkDone.forDma = false
      (s.DmaHead k d rest true) ∧ (d.opc = 3) ∧ (s.dmaBad k d = false) ∧ (s.readsCaldera k d (s.dmaReads k d) = false) ∧ ((s.rd .DM_STAT_SPEC_HOLD k = 1 → s.vr .SPEC_RELEASE k ≤ s.clock)) ∧ (quiet s k) ∧ ((s.tracker k).length < 1023) ∧ (d.f 231 216 = 1) ∧ (s.ownOff k (d.f 191 128) (d.f 215 192) = some off) ∧ (off + d.f 215 192 ≤ 2 ^ 24) ∧ (d.b 356 = false) ∧ (d.b 357 = false))
    ∧ (∃ (s : State) (k : Tile) (q : Running) (r : DmaRun) (a b : Nat),
      let goes := fun (s : State) (k : Nat) (q : Running) (r : DmaRun) => s.domOn k = true ∧ s.running k 3 = some q ∧ q.done = 2 ^ 64 ∧ q.desc = r.desc ∧ s.parts.dm.find k = some r
        ∧ r = { desc := r.desc, start := r.start } ∧ r.start + 8 ≤ s.clock ∧ (s.parts.trkDone.at k).any TrkDone.forDma = false ∧ (s.tracker k).length < 1023
        ∧ r.desc.f 231 216 = 1 ∧ r.desc.b 356 = false ∧ r.desc.b 357 = false
      let n := r.desc.f 215 192
      (goes s k q r) ∧ (r.desc.opc = 1) ∧ (s.dmaBad k r.desc = false) ∧ (r.desc.hashes = false) ∧ (s.ownOff k (r.desc.f 127 64) n = some a) ∧ (a + n ≤ 2 ^ 24) ∧ (s.ownOff k (r.desc.f 191 128) n = some b) ∧ (b + n ≤ 2 ^ 24))
    ∧ (∃ (s : State) (k : Tile) (q : Running) (r : DmaRun) (a : Nat),
      let goes := fun (s : State) (k : Nat) (q : Running) (r : DmaRun) => s.domOn k = true ∧ s.running k 3 = some q ∧ q.done = 2 ^ 64 ∧ q.desc = r.desc ∧ s.parts.dm.find k = some r
        ∧ r = { desc := r.desc, start := r.start } ∧ r.start + 8 ≤ s.clock ∧ (s.parts.trkDone.at k).any TrkDone.forDma = false ∧ (s.tracker k).length < 1023
        ∧ r.desc.f 231 216 = 1 ∧ r.desc.b 356 = false ∧ r.desc.b 357 = false
      let n := r.desc.f 215 192
      (goes s k q r) ∧ (r.desc.opc = 2) ∧ (s.dmaBad k r.desc = false) ∧ (r.desc.b 352 = true) ∧ (r.desc.b 353 = false) ∧ (r.desc.closes = false) ∧ (s.parts.chain.find k = some (HashChain.open_ r.desc)) ∧ (s.ownOff k (r.desc.f 127 64) n = some a) ∧ (a + n ≤ 2 ^ 24))
    ∧ (∃ (s : State) (k : Tile) (q : Running), (s.running k 3 = some q) ∧ (s.parts.dm.find k = none) ∧ (q.done ≤ s.clock)) :=
  ⟨⟨engAt 3 (desc [(0, 1)]) [wr .DM_STAT_FSTATE 2 0], desc [(0, 1)], [], ⟨by decide +kernel, by decide +kernel, by decide +kernel, by decide +kernel, by decide +kernel, by decide +kernel, by decide +kernel⟩, by decide +kernel⟩,
   ⟨engAt 3 (copyD) [wr .DM_STAT_FSTATE 0 0], copyD, [], ⟨by decide +kernel, by decide +kernel, by decide +kernel, by decide +kernel, by decide +kernel, by decide +kernel, by decide +kernel⟩, by decide +kernel⟩,
   ⟨engAt 3 (copyD) [wr .DM_STAT_FSTATE 2 0], copyD, [], ⟨by decide +kernel, by decide +kernel, by decide +kernel, by decide +kernel, by decide +kernel, by decide +kernel, by decide +kernel⟩, by decide +kernel⟩,
   ⟨engAt 3 (desc [(0, 2)]) [wr .DM_STAT_FSTATE 2 0], desc [(0, 2)], [], ⟨by decide +kernel, by decide +kernel, by decide +kernel, by decide +kernel, by decide +kernel, by decide +kernel, by decide +kernel⟩, by decide +kernel⟩,
   ⟨engAt 3 (hashD) [wr .DM_STAT_FSTATE 0 0], hashD, [], ⟨by decide +kernel, by decide +kernel, by decide +kernel, by decide +kernel, by decide +kernel, by decide +kernel, by decide +kernel⟩, by decide +kernel⟩,
   ⟨engAt 3 (hashD) [wr .DM_STAT_FSTATE 2 0], hashD, [], ⟨by decide +kernel, by decide +kernel, by decide +kernel, by decide +kernel, by decide +kernel, by decide +kernel, by decide +kernel⟩, by decide +kernel⟩,
   ⟨engAt 3 (desc [(0, 3)]) [wr .DM_STAT_FSTATE 2 0], desc [(0, 3)], [], ⟨by decide +kernel, by decide +kernel, by decide +kernel, by decide +kernel, by decide +kernel, by decide +kernel, by decide +kernel⟩, by decide +kernel⟩,
   ⟨engAt 3 (zeroD) [wr .DM_STAT_FSTATE 0 0], zeroD, [], ⟨by decide +kernel, by decide +kernel, by decide +kernel, by decide +kernel, by decide +kernel, by decide +kernel, by decide +kernel⟩, by decide +kernel⟩,
   ⟨engAt 3 ({ copyD with win := true }) [wr .DM_STAT_FSTATE 2 0, wr .FS_STAT_WIN 1 0, wr .FS_CALDERA_SIZE 1 0], { copyD with win := true }, [], ⟨by decide +kernel, by decide +kernel, by decide +kernel, by decide +kernel, by decide +kernel, by decide +kernel, by decide +kernel⟩, by decide +kernel⟩,
   ⟨engAt 3 zeroD [wr .DM_STAT_FSTATE 2 0], 0, zeroD, [], 0xFFFFC0, ⟨by decide +kernel, by decide +kernel, by decide +kernel, by decide +kernel, by decide +kernel, by decide +kernel, by decide +kernel⟩, by decide +kernel⟩,
   ⟨at_ 0 8 [on 0, .parts fun p => { p with running := p.running.put 3 (some ⟨copyD, 0, 2 ^ 64, 0, 0, 0, false⟩), dm := p.dm.put 0 (some ({ desc := copyD, start := 0 } : DmaRun)) }], 0, ⟨copyD, 0, 2 ^ 64, 0, 0, 0, false⟩, ({ desc := copyD, start := 0 } : DmaRun), 0, 0xFFFFC0, by decide +kernel⟩,
   ⟨at_ 0 8 [on 0, .parts fun p => { p with running := p.running.put 3 (some ⟨hashD, 0, 2 ^ 64, 0, 0, 0, false⟩), dm := p.dm.put 0 (some ({ desc := hashD, start := 0 } : DmaRun)), chain := p.chain.put 0 (some (HashChain.open_ hashD)) }], 0, ⟨hashD, 0, 2 ^ 64, 0, 0, 0, false⟩, ({ desc := hashD, start := 0 } : DmaRun), 0xFFFFC0, by decide +kernel⟩,
   ⟨at_ 0 9 [.parts fun p => { p with running := p.running.put 3 (some ⟨copyD, 0, 9, 0, 0, 0, false⟩) }], 0, ⟨copyD, 0, 9, 0, 0, 0, false⟩, by decide +kernel⟩⟩


def openD : Desc := desc [(0, 1), (96, 0x10000), (160, 64)]

theorem witness_ForecastSpeculation :
    (∃ (s : State) (k : Tile) (form : IssueForm) (raw : Nat), ((match form with | .pair j => raw = s.sv k (2 * j) + s.sv k (2 * j + 1) * 2 ^ 256 | .mem r => s.gp k r % 64 = 0 ∧ s.gp k r + 64 ≤ 65536 ∧ s.dmemBad k (s.gp k r) 64 = none ∧ raw = s.num (dmemBase k + s.gp k r) 64)) ∧ (s.CoreReady k (issueRegs form)) ∧ (s.anyMarked k (issueRegs form) = false) ∧ (opcDefined 6 (raw % 256) = true) ∧ ((s.queue k 6).length < 16) ∧ (s.rd .DM_REC_CTL_EN k = 0))
    ∧ (∃ (s : State) (k : Tile) (d : Desc) (rest : List Desc), (s.domOn k = true) ∧ (s.running k 6 = none) ∧ (s.queue k 6 = d :: rest) ∧ (s.ready k d = true) ∧ (s.vr .ENG_LAST k 6 < s.clock) ∧ (s.earlierOpen k d.seq = false) ∧ (s.vxBefore k d = true) ∧ (d.note = 0x85))
    ∧ (∃ (s : State) (k : Tile) (d : Desc) (rest : List Desc), (s.domOn k = true) ∧ (s.running k 6 = none) ∧ (s.queue k 6 = d :: rest) ∧ (s.ready k d = true) ∧ (s.vr .ENG_LAST k 6 < s.clock) ∧ (s.earlierOpen k d.seq = false) ∧ (s.vxBefore k d = true) ∧ (d.note ≠ 0 ∧ d.note ≠ 0x85))
    ∧ (∃ (s : State) (k : Tile) (d : Desc) (rest : List Desc), (s.domOn k = true) ∧ (s.running k 6 = none) ∧ (s.queue k 6 = d :: rest) ∧ (s.ready k d = true) ∧ (s.vr .ENG_LAST k 6 < s.clock) ∧ (s.earlierOpen k d.seq = false) ∧ (s.vxBefore k d = true) ∧ (d.note = 0 ∧ 2 ≤ s.rd .FS_STAT_FSTATE k ∧ s.fsBad k d = true))
    ∧ (∃ (s : State) (k : Tile) (d : Desc) (rest : List Desc), (s.domOn k = true) ∧ (s.running k 6 = none) ∧ (s.queue k 6 = d :: rest) ∧ (s.ready k d = true) ∧ (s.vr .ENG_LAST k 6 < s.clock) ∧ (s.earlierOpen k d.seq = false) ∧ (s.vxBefore k d = true) ∧ (d.note = 0 ∧ 2 ≤ s.rd .FS_STAT_FSTATE k ∧ s.fsBad k d = false ∧ s.arrived k d = false))
    ∧ (∃ (s : State) (k : Tile) (d : Desc) (rest : List Desc), (s.domOn k = true) ∧ (s.running k 6 = none) ∧ (s.queue k 6 = d :: rest) ∧ (s.ready k d = true) ∧ (s.vr .ENG_LAST k 6 < s.clock) ∧ (s.earlierOpen k d.seq = false) ∧ (s.vxBefore k d = true) ∧ (d.note = 0 ∧ 2 ≤ s.rd .FS_STAT_FSTATE k ∧ s.fsBad k d = false ∧ s.arrived k d = true))
    ∧ (∃ (s : State) (k : Tile) (r : Running), (s.running k 6 = some r) ∧ (r.status = 0) ∧ (s.rd .FS_STAT_WIN k = 1) ∧ (s.arrived k r.desc = true) ∧ (s.waitOver r.desc = false))
    ∧ (∃ (s : State) (k : Tile) (v : W64),
      let base := bitsOf v.toNat 7 0
      let size := bitsOf v.toNat 15 8
      let free := s.window k = false ∧ s.queue k 6 = [] ∧ s.running k 6 = none ∧ size ≤ 128 ∧ base + size ≤ 256
      (s.domOn k = true) ∧ (free))
    ∧ (∃ (s : State) (k : Tile) (v : W64),
      let base := bitsOf v.toNat 7 0
      let size := bitsOf v.toNat 15 8
      let free := s.window k = false ∧ s.queue k 6 = [] ∧ s.running k 6 = none ∧ size ≤ 128 ∧ base + size ≤ 256
      (s.domOn k = true) ∧ (¬ free))
    ∧ (∃ (s : State) (k : Tile) (r : Running),
      let d := r.desc
      let fields := if d.b 197 then s.fsFields k d else []
      let cs := (List.range (d.f 183 160 / 64)).map (s.cmpGranule k d fields)
      let bad := cs.any fun c => c.poison || c.mis
      (s.running k 6 = some r) ∧ (r.status = 0) ∧ (s.rd .FS_STAT_WIN k = 2) ∧ (s.cmpEnd k r.desc ≤ s.clock) ∧ (s.NoneDue k) ∧ (s.ShadowOwn k) ∧ (bad = false))
    ∧ (∃ (s : State) (k : Tile) (r : Running),
      let d := r.desc
      let fields := if d.b 197 then s.fsFields k d else []
      let cs := (List.range (d.f 183 160 / 64)).map (s.cmpGranule k d fields)
      let bad := cs.any fun c => c.poison || c.mis
      (s.running k 6 = some r) ∧ (r.status = 0) ∧ (s.rd .FS_STAT_WIN k = 2) ∧ (s.cmpEnd k r.desc ≤ s.clock) ∧ (s.NoneDue k) ∧ (s.ShadowOwn k) ∧ (bad = true))
    ∧ (∃ (s : State) (k : Tile) (r : Running), (s.running k 6 = some r) ∧ (r.status = 0) ∧ (s.rd .FS_STAT_WIN k = 1) ∧ (s.waitOver r.desc = true) ∧ (s.NoneDue k) ∧ (s.ShadowOwn k))
    ∧ (∃ (s : State) (k : Tile) (r : Running), (s.domOn k = true) ∧ (s.window k = true) ∧ (s.running k 6 = some r) ∧ (r.status = 0) ∧ ((s.rd .FS_STAT_WIN k = 2 → s.clock < s.cmpEnd k r.desc)) ∧ ((s.rd .FS_STAT_WIN k = 1 → s.waitOver r.desc = false)) ∧ (s.NoneDue k) ∧ (s.ShadowOwn k))
    ∧ (∃ (s : State) (k : Tile) (r : Running), (s.domOn k = true) ∧ (s.running k 6 = some r) ∧ (r.done ≤ s.clock) ∧ (r.status = 0x84 ∧ r.desc.note = 0))
    ∧ (∃ (s : State) (k : Tile) (d : Desc), (s.domOn k = true) ∧ (s.window k = true) ∧ (s.running k 6 = none) ∧ ((s.queue k 6).find? (fun d => d.note == 0) = some d) ∧ (s.NoneDue k) ∧ (s.ShadowOwn k)) :=
  ⟨⟨coreOn [wv .SV 1 0 0], 0, .pair 0, 1, by decide +kernel, ⟨by decide, by decide, by decide⟩, by decide +kernel⟩,
   ⟨engAt 6 ({ openD with note := 0x85 }) [wr .FS_STAT_FSTATE 0 0], 0, { openD with note := 0x85 }, [], by decide +kernel⟩,
   ⟨engAt 6 ({ openD with note := 0x14 }) [wr .FS_STAT_FSTATE 0 0], 0, { openD with note := 0x14 }, [], by decide +kernel⟩,
   ⟨engAt 6 (desc [(0, 1)]) [wr .FS_STAT_FSTATE 2 0, wr .FS_CALDERA_SIZE 1 0], 0, desc [(0, 1)], [], by decide +kernel⟩,
   ⟨engAt 6 (desc [(0, 1), (96, 0x10000), (160, 64), (224, 1)]) [wr .FS_STAT_FSTATE 2 0, wr .FS_CALDERA_SIZE 1 0], 0, desc [(0, 1), (96, 0x10000), (160, 64), (224, 1)], [], by decide +kernel⟩,
   ⟨engAt 6 (openD) [wr .FS_STAT_FSTATE 2 0, wr .FS_CALDERA_SIZE 1 0], 0, openD, [], by decide +kernel⟩,
   ⟨at_ 5 100 [on 0, wr .FS_STAT_FSTATE 2 0, wr .FS_CALDERA_SIZE 1 0, .parts fun p => { p with running := p.running.put 6 (some ⟨openD, 0, 2 ^ 64, 0, 0, 0, false⟩) }, wr .FS_STAT_WIN 1 0], 0, ⟨openD, 0, 2 ^ 64, 0, 0, 0, false⟩, by decide +kernel⟩,
   ⟨st [on 0], 0, 0x8080, by decide +kernel⟩,
   ⟨st [on 0], 0, 0x8081, by decide +kernel⟩,
   ⟨at_ 5 100 [on 0, wr .FS_STAT_FSTATE 2 0, wr .FS_CALDERA_SIZE 1 0, .parts fun p => { p with running := p.running.put 6 (some ⟨openD, 0, 2 ^ 64, 0, 0, 0, false⟩) }, wr .FS_STAT_WIN 2 0], 0, ⟨openD, 0, 2 ^ 64, 0, 0, 0, false⟩, by decide +kernel, by decide +kernel, by decide +kernel, by decide +kernel, by unfold State.NoneDue; decide +kernel, by unfold State.ShadowOwn; decide +kernel, by decide +kernel⟩,
   ⟨at_ 5 100 [on 0, wr .FS_STAT_FSTATE 2 0, wr .FS_CALDERA_SIZE 1 0, .parts fun p => { p with running := p.running.put 6 (some ⟨openD, 0, 2 ^ 64, 0, 0, 0, false⟩) }, wr .FS_STAT_WIN 2 0, .byte (storeBase 0) 1], 0, ⟨openD, 0, 2 ^ 64, 0, 0, 0, false⟩, by decide +kernel, by decide +kernel, by decide +kernel, by decide +kernel, by unfold State.NoneDue; decide +kernel, by unfold State.ShadowOwn; decide +kernel, by decide +kernel⟩,
   ⟨at_ 5 100 [on 0, wr .FS_STAT_FSTATE 2 0, wr .FS_CALDERA_SIZE 1 0, .parts fun p => { p with running := p.running.put 6 (some ⟨(desc [(0, 1), (96, 0x10000), (160, 64), (320, 5)]), 0, 2 ^ 64, 0, 0, 0, false⟩) }, wr .FS_STAT_WIN 1 0], 0, ⟨(desc [(0, 1), (96, 0x10000), (160, 64), (320, 5)]), 0, 2 ^ 64, 0, 0, 0, false⟩, by decide +kernel, by decide +kernel, by decide +kernel, by decide +kernel, by unfold State.NoneDue; decide +kernel, by unfold State.ShadowOwn; decide +kernel⟩,
   ⟨at_ 5 100 [on 0, wr .FS_STAT_FSTATE 2 0, wr .FS_CALDERA_SIZE 1 0, .parts fun p => { p with running := p.running.put 6 (some ⟨openD, 0, 2 ^ 64, 0, 0, 0, false⟩) }, wr .FS_STAT_WIN 1 0], 0, ⟨openD, 0, 2 ^ 64, 0, 0, 0, false⟩, by decide +kernel, by decide +kernel, by decide +kernel, by decide +kernel, by decide +kernel, by decide +kernel, by unfold State.NoneDue; decide +kernel, by unfold State.ShadowOwn; decide +kernel⟩,
   ⟨at_ 5 100 [on 0, wr .FS_STAT_FSTATE 2 0, wr .FS_CALDERA_SIZE 1 0, .parts fun p => { p with running := p.running.put 6 (some ⟨openD, 0, 100, 0x84, 0, 0, false⟩) }, wr .FS_STAT_WIN 1 0], 0, ⟨openD, 0, 100, 0x84, 0, 0, false⟩, by decide +kernel⟩,
   ⟨at_ 5 100 [on 0, wr .FS_STAT_FSTATE 2 0, wr .FS_CALDERA_SIZE 1 0, wr .FS_STAT_WIN 1 0, .parts fun p => { p with queues := p.queues.set 6 [openD] }], 0, openD, by decide +kernel, by decide +kernel, by decide +kernel, by decide +kernel, by unfold State.NoneDue; decide +kernel, by unfold State.ShadowOwn; decide +kernel⟩⟩


def cvD : Desc := desc [(0, 1), (128, 64)]

theorem witness_CheckValueUnits :
    (∃ (s : State) (k : Tile) (u : Fin 2) (d : Desc) (rest : List Desc) (on : Bool),
      let serves := fun (s : State) (k u : Nat) (d : Desc) => funcServes (s.rd .CV_STAT_FSTATE k u) (s.rd .CV_STAT_PEND_EN k u) (s.vr .FUNC_DIS_AT k (5 + u)) d.issued
      (s.EngineHead k (4 + u.val) d rest (s.vr .ENG_LAST k (4 + u.val)) (serves s k u d) on) ∧ (s.cvOf k u = none) ∧ (s.cvBad d = false))
    ∧ (∃ (s : State) (k : Tile) (u : Fin 2) (d : Desc) (rest : List Desc) (on : Bool),
      let serves := fun (s : State) (k u : Nat) (d : Desc) => funcServes (s.rd .CV_STAT_FSTATE k u) (s.rd .CV_STAT_PEND_EN k u) (s.vr .FUNC_DIS_AT k (5 + u)) d.issued
      (s.EngineHead k (4 + u.val) d rest (s.vr .ENG_LAST k (4 + u.val)) (serves s k u d) on) ∧ (s.cvOf k u = none) ∧ (s.cvBad d = true))
    ∧ (∃ (s : State) (k : Tile) (u : Fin 2) (d : Desc) (rest : List Desc) (on : Bool),
      let serves := fun (s : State) (k u : Nat) (d : Desc) => funcServes (s.rd .CV_STAT_FSTATE k u) (s.rd .CV_STAT_PEND_EN k u) (s.vr .FUNC_DIS_AT k (5 + u)) d.issued
      (s.EngineHead k (4 + u.val) d rest (s.vr .ENG_LAST k (4 + u.val)) (serves s k u d) on) ∧ (s.cvOf k u = none) ∧ (s.cvBad d = false))
    ∧ (∃ (s : State) (k : Tile) (u : Fin 2) (r : Running), (s.domOn k = true) ∧ (s.running k (4 + u.val) = some r) ∧ (r.done ≤ s.clock))
    ∧ (∃ (s : State) (k : Tile) (u : Fin 2) (a : CvArm) (bs : List Byte) (bad : Bool) (due : Nat) (rest : List (List Byte × Bool × Nat)), (s.cvOf k u = some a) ∧ (a.recs = (bs, bad, due) :: rest) ∧ (due ≤ s.clock) ∧ (s.cvLate a.desc = false) ∧ (a.desc.f 68 67 = 0) ∧ (a.decided + 1 ≠ a.desc.f 295 264))
    ∧ (∃ (s : State) (k : Tile) (u : Fin 2) (a : CvArm), (s.cvOf k u = some a) ∧ (a.desc.f 68 67 ≠ 2) ∧ (a.anyMis = 0) ∧ (s.cvLate a.desc = true))
    ∧ (∃ (s : State) (k : Tile) (u : Fin 2) (a : CvArm), (s.cvOf k u = some a) ∧ (a.desc.f 68 67 ≠ 2) ∧ (a.anyMis = 0) ∧ (s.domOn k = true)) :=
  ⟨⟨engAt 5 cvD [wr .CV_STAT_FSTATE 2 0 1], 0, 1, cvD, [], true, ⟨by decide +kernel, by decide +kernel, by decide +kernel, by decide +kernel, by decide +kernel, by decide +kernel, by decide +kernel⟩, by decide +kernel⟩,
   ⟨engAt 5 (desc [(0, 1)]) [wr .CV_STAT_FSTATE 2 0 1], 0, 1, desc [(0, 1)], [], true, ⟨by decide +kernel, by decide +kernel, by decide +kernel, by decide +kernel, by decide +kernel, by decide +kernel, by decide +kernel⟩, by decide +kernel⟩,
   ⟨engAt 5 cvD [wr .CV_STAT_FSTATE 0 0 1], 0, 1, cvD, [], false, ⟨by decide +kernel, by decide +kernel, by decide +kernel, by decide +kernel, by decide +kernel, by decide +kernel, by decide +kernel⟩, by decide +kernel⟩,
   ⟨st [on 0, .parts fun p => { p with running := p.running.put 5 (some ⟨cvD, 0, 0, 0x84, 0, 0, false⟩) }], 0, 1, ⟨cvD, 0, 0, 0x84, 0, 0, false⟩, by decide +kernel⟩,
   ⟨at_ 5 100 [on 0, .parts fun p => { p with cv := p.cv.put 1 (some ⟨cvD, 0, [(List.replicate 64 0, false, 100)], [], false, 0xFFFFFFFF, 0, 0, 0, 0, 0, none, 0⟩) }], 0, 1, ⟨cvD, 0, [(List.replicate 64 0, false, 100)], [], false, 0xFFFFFFFF, 0, 0, 0, 0, 0, none, 0⟩, List.replicate 64 0, false, 100, [], by decide +kernel⟩,
   ⟨at_ 5 100 [on 0, .parts fun p => { p with cv := p.cv.put 1 (some ⟨desc [(0, 1), (296, 5)], 0, [], [], false, 0xFFFFFFFF, 0, 0, 0, 0, 0, none, 0⟩) }], 0, 1, ⟨desc [(0, 1), (296, 5)], 0, [], [], false, 0xFFFFFFFF, 0, 0, 0, 0, 0, none, 0⟩, by decide +kernel⟩,
   ⟨at_ 5 100 [on 0, .parts fun p => { p with cv := p.cv.put 1 (some ⟨cvD, 0, [], [], false, 0xFFFFFFFF, 0, 0, 0, 0, 0, none, 0⟩) }], 0, 1, ⟨cvD, 0, [], [], false, 0xFFFFFFFF, 0, 0, 0, 0, 0, none, 0⟩, by decide +kernel⟩⟩

theorem witness_StackAdmissionAndHeat :
    (∃ (s : State) (_source : Fin 44) (_write long : Bool) (addr : BitVec 40) (len : Fin 33) (_data : List Byte) (_poison : BitVec 2),
      let a := if long then addr.toNat / 128 * 128 else addr.toNat
      let n := if long then 128 else min len.val (32 - addr.toNat % 32)
      let c := chanOf a
      (n ≠ 0) ∧ (a < stackTop) ∧ (s.stackAvail (c % 20) = .off))
    ∧ (∃ (s : State) (_source : Fin 44) (_write long : Bool) (addr : BitVec 40) (len : Fin 33) (_data : List Byte) (_poison : BitVec 2),
      let a := if long then addr.toNat / 128 * 128 else addr.toNat
      let n := if long then 128 else min len.val (32 - addr.toNat % 32)
      let c := chanOf a
      (n ≠ 0) ∧ (a < stackTop) ∧ (s.stackAvail (c % 20) = .waits))
    ∧ (∃ (s : State) (_source : Fin 44) (write long : Bool) (addr : BitVec 40) (len : Fin 33) (_data : List Byte) (_poison : BitVec 2),
      let a := if long then addr.toNat / 128 * 128 else addr.toNat
      let n := if long then 128 else min len.val (32 - addr.toNat % 32)
      let c := chanOf a
      (n ≠ 0) ∧ (a < stackTop) ∧ (s.stackAvail (c % 20) = .served ∧ s.queueFull c write = false ∧ s.inWindow = false))
    ∧ (∃ (s : State) (source : Fin 44) (write long : Bool) (addr : BitVec 40) (len : Fin 33) (_data : List Byte) (_poison : BitVec 2),
      let a := if long then addr.toNat / 128 * 128 else addr.toNat
      let n := if long then 128 else min len.val (32 - addr.toNat % 32)
      let c := chanOf a
      (n ≠ 0) ∧ (a < stackTop) ∧ (s.stackAvail (c % 20) = .served ∧ s.queueFull c write = false ∧ s.inWindow = true ∧ s.hasQueued source = false ∧ source.val < 40))
    ∧ (∃ s : State, s.windowDue = true)
    ∧ (∃ (s : State) (c : CDie) (temp : BitVec 16),
      let v := toSigned 16 temp.toNat
      let b := bandOf v
      (s.domOn (80 + c) = true) ∧ ((s.vr .TEMP_AT c ≠ 0 → s.vr .TEMP_AT c + 16384 ≤ s.clock + 1)) ∧ (s.band < b ∧ s.rd .LS_STAT_BAND c < b ∧ 16 * (s.rd .LS_CTL_TRIP c : Int) ≤ v))
    ∧ (∃ (s : State) (c : CDie) (temp : BitVec 16),
      let v := toSigned 16 temp.toNat
      let b := bandOf v
      (s.domOn (80 + c) = true) ∧ ((s.vr .TEMP_AT c ≠ 0 → s.vr .TEMP_AT c + 16384 ≤ s.clock + 1)) ∧ (b ≤ s.band ∧ v < 16 * (s.rd .LS_CTL_TRIP c : Int)))
    ∧ (∃ s : State, s.fallPoint = true ∧ s.domOn 80 = true ∧ s.rd .LS_STAT_BAND 0 < s.band ∧ s.band < 4 ∧ toSigned 16 (s.rd .LS_TEMP_CUR 0) ≤ bandTop (s.band - 1) - 16 * (s.rd .LS_CTL_HYST 0 : Int))
    ∧ (∃ (s : State) (c : CDie) (_v : W64), (s.dom (80 + c) ≠ 0)) :=
  ⟨⟨st [], 0, false, false, 0, 32, [], 0, by decide +kernel⟩,
   ⟨st [wr .PM_DOM_FSTATE 1 0 80], 0, false, false, 0, 32, [], 0, by decide +kernel⟩,
   ⟨st [on 80], 0, true, true, 127, 0, [], 3, by decide +kernel⟩,
   ⟨st [on 80, wv .WIN_AT 1], 0, false, false, 0, 32, [], 0, by decide +kernel⟩,
   ⟨st [on 171, on 80], by decide +kernel⟩,
   ⟨st [on 80], 0, 1760, by decide +kernel⟩,
   ⟨st [on 80], 0, 0, by decide +kernel⟩,
   ⟨st [on 80, wr .LS_STAT_PBAND 1 0], by decide +kernel⟩,
   ⟨st [on 80], 0, 95, by decide +kernel⟩⟩

theorem witness_StackService :
    (∃ (s : State) (_source : Fin 44) (addr : BitVec 40) (_op : AmoOp) (ty : AType) (_x _cmp : W64),
      let a := addr.toNat
      let c := chanOf a
      let n := atypeSize ty
      (a < stackTop) ∧ (a % n = 0) ∧ (s.stackAvail (c % 20) = .off))
    ∧ (∃ (s : State) (_source : Fin 44) (addr : BitVec 40) (_op : AmoOp) (ty : AType) (_x _cmp : W64),
      let a := addr.toNat
      let c := chanOf a
      let n := atypeSize ty
      let r := s.readReq false (a / 32 * 32)
      (a < stackTop) ∧ (a % n = 0) ∧ (s.stackAvail (c % 20) = .served ∧ s.chanRepaired c = false ∧ s.chan c = [] ∧ r.bad = []))
    ∧ (∃ (s : State) (_source : Fin 44) (addr : BitVec 40) (_op : AmoOp) (ty : AType) (_x _cmp : W64),
      let a := addr.toNat
      let c := chanOf a
      let n := atypeSize ty
      let r := s.readReq false (a / 32 * 32)
      (a < stackTop) ∧ (a % n = 0) ∧ (s.stackAvail (c % 20) = .served ∧ s.chanRepaired c = false ∧ s.chan c = [] ∧ r.bad ≠ []))
    ∧ (∃ (s : State) (stack : CDie) (channel : Fin 128) (entry : Fin 32) (r : StackReq),
      let n := 20 * channel.val + stack.val
      (s.nthRead n entry = some r) ∧ (r.snap = none) ∧ (s.stackAvail (n % 20) = .served) ∧ (s.chanRepaired n = false) ∧ (s.inWindow = false) ∧ (r.at_ + readLatency ((s.chan n).takeWhile (· != r)) r ≤ s.clock) ∧ ((∀ q ∈ (s.chan n).takeWhile (· != r), sameSector q.addr q.len r.addr r.len = false)))
    ∧ (∃ (s : State) (stack : CDie) (channel : Fin 128) (r : StackReq),
      let n := 20 * channel.val + stack.val
      ((s.chan n).find? (fun q => q.write) = some r) ∧ (r.applied = false) ∧ (r.at_ + 24 ≤ s.clock) ∧ (s.stackAvail (n % 20) = .served) ∧ (s.chanRepaired n = false) ∧ ((∀ q ∈ (s.chan n).takeWhile (· != r), sameSector q.addr q.len r.addr r.len = false)) ∧ (r.data.length = r.len) ∧ ((r.len = 128 ∧ r.addr % 128 = 0) ∨ (0 < r.len ∧ r.addr % 32 + r.len ≤ 32)) ∧ (s.chFailed r.addr = false) ∧ (s.chFailed (r.addr + 64) = false)) :=
  ⟨⟨st [], 0, 0, .add, .i64, 1, 0, by decide +kernel⟩,
   ⟨st [on 80], 0, 0, .add, .i64, 1, 0, by decide +kernel⟩,
   ⟨st [on 80, wv .STK_CHK (synDiff 0 (poisonMark 0)) 0, wv .STK_CHK (synDiff 0 (poisonMark 1)) 1], 0, 0, .add, .i64, 1, 0, by decide +kernel⟩,
   ⟨at_ 0 92 [on 80, .parts fun p => { p with chanQ := p.chanQ.set 0 [⟨0, false, 0, 32, [], 0, 0, false, none⟩] }], 0, 0, 0, ⟨0, false, 0, 32, [], 0, 0, false, none⟩, by decide +kernel⟩,
   ⟨at_ 0 24 [on 80, .parts fun p => { p with chanQ := p.chanQ.set 0 [⟨0, true, 0, 1, [7], 0, 0, false, none⟩] }], 0, 0, ⟨0, true, 0, 1, [7], 0, 0, false, none⟩, by decide +kernel, by decide +kernel, by decide +kernel, by decide +kernel, by decide +kernel, by decide +kernel, by decide +kernel, .inr (by decide +kernel), by decide +kernel⟩⟩

theorem witness_ErrorCounting :
    (∃ s : State, (s.domOn 169 = true) ∧ (s.rd .EC_SCRUB_CTL_FSTATE = 2) ∧ (s.vr .SCRUB_DUE_AT + s.rd .EC_SCRUB_PERIOD_CYCLES ≤ s.clock))
    ∧ (∃ (s : State) (b : Fin 60), (s.fwReady = true) ∧ (s.vr .UE_PEND 0 b ≠ 0) ∧ (s.vr .UE_FRAME 0 b ≠ (s.recordFrame + 1) % 2 ^ 64) ∧ (s.parts.rindQueue.length < 56) ∧ (s.vr .GASP ≠ 1))
    ∧ (∃ (s : State) (cls : Fin 2), (s.domOn 169 = true) ∧ (s.scheduled = true ∧ s.rd .EC_BKT_CFG_LEAK 0 cls ≤ s.vr .LEAK_TICKS 0 cls))
    ∧ (∃ (s : State) (v : W64), s.domOn 169 = true ∧ 2048 ≤ v.toNat % 2 ^ 32)
    ∧ (∃ (s : State) (v : W64), ¬ (s.domOn 169 = true ∧ 2048 ≤ v.toNat % 2 ^ 32)) :=
  ⟨⟨at_ 0 (2 ^ 32) [on 169, wr .EC_SCRUB_CTL_FSTATE 2], by decide +kernel⟩,
   ⟨st [on 169, wr .MB_STAT_FW_READY 1, wv .UE_PEND 1 0 59], 59, by decide +kernel⟩,
   ⟨st [on 169, wr .GT_FRAME_CUR_LEN 1, wv .LEAK_TICKS 0xFFFF 0 1], 1, by decide +kernel⟩,
   ⟨st [on 169], 2048, by decide +kernel⟩,
   ⟨st [on 169], 2047, by decide +kernel⟩⟩

theorem witness_RepairsAndRawAccess :
    (∃ (s : State) (v : W64),
      let x := v.toNat
      (s.domOn 169 = true) ∧ (testB x 31 = true) ∧ (s.rd .EC_PPR_BUSY = 1))
    ∧ (∃ (s : State) (v : W64),
      let x := v.toNat
      (s.domOn 169 = true) ∧ (testB x 31 = true) ∧ (s.rd .EC_PPR_BUSY ≠ 1 ∧ s.jobActive = true))
    ∧ (∃ (s : State) (v : W64),
      let x := v.toNat
      let st := bitsOf x 4 0
      let bank := 16 * bitsOf x 11 5 + bitsOf x 15 12
      (s.domOn 169 = true) ∧ (testB x 31 = true) ∧ (s.rd .EC_PPR_BUSY ≠ 1 ∧ s.jobActive = false ∧ 2 ≤ s.vr .PPR_USED st bank))
    ∧ (∃ (s : State) (v : W64),
      let x := v.toNat
      let st := bitsOf x 4 0
      let bank := 16 * bitsOf x 11 5 + bitsOf x 15 12
      (s.domOn 169 = true) ∧ (testB x 31 = true) ∧ (s.rd .EC_PPR_BUSY ≠ 1 ∧ s.jobActive = false ∧ s.vr .PPR_USED st bank < 2 ∧ st < 20 ∧ bitsOf x 30 16 < 24576))
    ∧ (∃ s : State, (s.rd .EC_PPR_BUSY = 1) ∧ (s.vr .PPR_AT ≤ s.clock))
    ∧ (∃ (s : State) (v : W64),
      let x := v.toNat
      (s.domOn 169 = true) ∧ (testB x 21 = true) ∧ (s.rd .EC_TS_REPAIR_BUSY = 1))
    ∧ (∃ (s : State) (v : W64),
      let x := v.toNat
      let k := bitsOf x 5 0
      (s.domOn 169 = true) ∧ (testB x 21 = true) ∧ (s.rd .EC_TS_REPAIR_BUSY ≠ 1 ∧ k < 40 ∧ s.tileIdle k = false))
    ∧ (∃ (s : State) (v : W64),
      let x := v.toNat
      let k := bitsOf x 5 0
      let b := bitsOf x 9 6
      (s.domOn 169 = true) ∧ (testB x 21 = true) ∧ (s.rd .EC_TS_REPAIR_BUSY ≠ 1 ∧ k < 40 ∧ s.tileIdle k = true ∧ s.vr .TS_SPARE k b = 1))
    ∧ (∃ (s : State) (v : W64),
      let x := v.toNat
      let k := bitsOf x 5 0
      let b := bitsOf x 9 6
      (s.domOn 169 = true) ∧ (testB x 21 = true) ∧ (s.rd .EC_TS_REPAIR_BUSY ≠ 1 ∧ k < 40 ∧ s.tileIdle k = true ∧ s.vr .TS_SPARE k b ≠ 1))
    ∧ (∃ s : State,
      let k := s.rd .EC_TS_REPAIR_TILE
      let words := s.tsRowWords k (s.rd .EC_TS_REPAIR_BANK) (s.rd .EC_TS_REPAIR_ROW)
      (s.rd .EC_TS_REPAIR_BUSY = 1) ∧ (s.vr .TS_REP_AT ≤ s.clock) ∧ (words = [0] ∧ s.tsClass k 0 ≠ .uncorrectable))
    ∧ (∃ (s : State) (v : W64),
      let target := bitsOf v.toNat 5 0
      let st := rawStatus s target (s.rd .EC_TEST_ADDR_ADDR)
      (s.domOn 169 = true) ∧ (s.rd .EC_TEST_CTL_BUSY ≠ 1) ∧ (target < 60) ∧ (st = 0))
    ∧ (∃ (s : State) (v : W64),
      let target := bitsOf v.toNat 5 0
      let st := rawStatus s target (s.rd .EC_TEST_ADDR_ADDR)
      (s.domOn 169 = true) ∧ (s.rd .EC_TEST_CTL_BUSY ≠ 1) ∧ (target < 60) ∧ (st = 0))
    ∧ (∃ (s : State) (v : W64),
      let target := bitsOf v.toNat 5 0
      let st := rawStatus s target (s.rd .EC_TEST_ADDR_ADDR)
      (s.domOn 169 = true) ∧ (s.rd .EC_TEST_CTL_BUSY ≠ 1) ∧ (target < 60) ∧ (st ≠ 0))
    ∧ (∃ s : State,
      let target := s.rd .EC_TEST_CTL_TARGET
      let a := s.rd .EC_TEST_ADDR_ADDR
      (s.rd .EC_TEST_CTL_BUSY = 1) ∧ (20 ≤ target ∨ s.chan (chanOf a) = []) ∧ (target < 20 ∧ s.vr .RAW_CMD = 1))
    ∧ (∃ s : State,
      let target := s.rd .EC_TEST_CTL_TARGET
      let a := s.rd .EC_TEST_ADDR_ADDR
      (s.rd .EC_TEST_CTL_BUSY = 1) ∧ (20 ≤ target ∨ s.chan (chanOf a) = []) ∧ (target < 20 ∧ s.vr .RAW_CMD ≠ 1))
    ∧ (∃ s : State,
      let target := s.rd .EC_TEST_CTL_TARGET
      let a := s.rd .EC_TEST_ADDR_ADDR
      (s.rd .EC_TEST_CTL_BUSY = 1) ∧ (20 ≤ target ∨ s.chan (chanOf a) = []) ∧ (20 ≤ target ∧ s.vr .RAW_CMD = 1))
    ∧ (∃ s : State,
      let target := s.rd .EC_TEST_CTL_TARGET
      let a := s.rd .EC_TEST_ADDR_ADDR
      (s.rd .EC_TEST_CTL_BUSY = 1) ∧ (20 ≤ target ∨ s.chan (chanOf a) = []) ∧ (20 ≤ target ∧ s.vr .RAW_CMD ≠ 1)) :=
  ⟨⟨st [on 169, wr .EC_PPR_BUSY 1], 0x80000000, by decide +kernel⟩,
   ⟨st [on 169, .parts fun p => { p with jobs := p.jobs.put 0 (some ⟨0, 0, 0, 1, 0, 0, 0, [], 0, 0, 0, [], 0, 0, false, false, 0, 0, 0, 0, 0, 0⟩) }], 0x80000000, by decide +kernel⟩,
   ⟨st [on 169, wv .PPR_USED 2 0 0], 0x80000000, by decide +kernel⟩,
   ⟨st [on 169, wv .PPR_USED 1 0 0], 0x80000000, by decide +kernel⟩,
   ⟨st [wr .EC_PPR_BUSY 1], by decide +kernel⟩,
   ⟨st [on 169, wr .EC_TS_REPAIR_BUSY 1], 0x200000, by decide +kernel⟩,
   ⟨st [on 169, wr .TC_CTL_RUN 1 0], 0x200000, by decide +kernel⟩,
   ⟨st [on 169, wv .TS_SPARE 1 39 0], 0x200027, by decide +kernel⟩,
   ⟨st [on 169], 0x200027, by decide +kernel⟩,
   ⟨st [wr .EC_TS_REPAIR_BUSY 1, wv .TS_CHK 1 0 0], by decide +kernel⟩,
   ⟨st [on 169], 0, by decide +kernel⟩,
   ⟨st [on 169], 59, by decide +kernel⟩,
   ⟨st [on 169, wr .EC_TEST_ADDR_ADDR 64], 0, by decide +kernel⟩,
   ⟨st [wr .EC_TEST_CTL_BUSY 1, wr .EC_TEST_CTL_TARGET 19, wv .RAW_CMD 1], by decide +kernel, .inr (by decide +kernel), by decide +kernel⟩,
   ⟨st [wr .EC_TEST_CTL_BUSY 1, wr .EC_TEST_CTL_TARGET 19, wv .RAW_CMD 2], by decide +kernel, .inr (by decide +kernel), by decide +kernel⟩,
   ⟨st [wr .EC_TEST_CTL_BUSY 1, wr .EC_TEST_CTL_TARGET 20, wv .RAW_CMD 1], by decide +kernel, .inl (by decide +kernel), by decide +kernel⟩,
   ⟨st [wr .EC_TEST_CTL_BUSY 1, wr .EC_TEST_CTL_TARGET 20, wv .RAW_CMD 2], by decide +kernel, .inl (by decide +kernel), by decide +kernel⟩⟩

theorem witness_RindLog :
    (∃ (s : State) (r : RindRec) (rest : List RindRec),
      let used := s.rd .BB_STAT_SEAL_USED
      let toSeal := r.fatal = true ∧ used < 4096
      (s.parts.rindQueue = r :: rest) ∧ (s.domOn 168 = true) ∧ (s.vr .BB_DUE ≤ s.clock) ∧ (s.parts.rindHeld = []) ∧ (s.vr .DROP_PEND = 0) ∧ (¬ toSeal))
    ∧ (∃ (s : State) (r : RindRec) (rest : List RindRec),
      let used := s.rd .BB_STAT_SEAL_USED
      let toSeal := r.fatal = true ∧ used < 4096
      (s.parts.rindQueue = r :: rest) ∧ (s.domOn 168 = true) ∧ (s.vr .BB_DUE ≤ s.clock) ∧ (s.parts.rindHeld = []) ∧ (s.vr .DROP_PEND = 0) ∧ (toSeal))
    ∧ (∃ (s : State) (r : RindRec) (rest : List RindRec),
      let used := s.rd .BB_STAT_SEAL_USED
      let toSeal := r.fatal = true ∧ used < 4096
      (s.parts.rindQueue = r :: rest) ∧ (s.domOn 168 = true) ∧ (s.vr .BB_DUE ≤ s.clock) ∧ (s.parts.rindHeld = []) ∧ (s.vr .DROP_PEND = 0) ∧ (¬ toSeal))
    ∧ (∃ s : State, (s.domOn 168 = true))
    ∧ (∃ (s : State) (v : W64),
      let x := v.toNat
      (s.domOn 168 = true) ∧ (testB x 26 = false))
    ∧ (∃ (s : State) (v : W64),
      let x := v.toNat
      let kind := bitsOf x 15 0
      (s.domOn 168 = true) ∧ (testB x 26 = true ∧ kind < 0x0100))
    ∧ (∃ (s : State) (v : W64),
      let x := v.toNat
      let kind := bitsOf x 15 0
      (s.domOn 168 = true) ∧ (testB x 26 = true ∧ 0x0100 ≤ kind ∧ kind ≤ 0x7FFF ∧ s.rd .BB_WR_CTL_BUSY ≠ 1 ∧ testB x 24 = false ∧ s.vr .GASP ≠ 1 ∧ s.parts.rindQueue.length < 56))
    ∧ (∃ (s : State) (v : W64),
      let x := v.toNat
      let kind := bitsOf x 15 0
      (s.domOn 168 = true) ∧ (testB x 26 = true ∧ 0x0100 ≤ kind ∧ kind ≤ 0x7FFF ∧ s.rd .BB_WR_CTL_BUSY ≠ 1 ∧ testB x 24 = true ∧ s.parts.rindQueue.length < 64))
    ∧ (∃ (s : State) (_v : W64), (s.domOn 168 = true))
    ∧ (∃ s : State, (s.rd .BB_RD_IDX_BUSY = 1) ∧ (s.vr .BB_RD_AT ≤ s.clock)) :=
  ⟨⟨st [on 168, wr .BB_STAT_SEAL_USED 0, .parts fun p => { p with rindQueue := [⟨0, 0x0500, 0, 0, 0, 0x0100, []⟩] }], ⟨0, 0x0500, 0, 0, 0, 0x0100, []⟩, [], by decide +kernel⟩,
   ⟨st [on 168, wr .BB_STAT_SEAL_USED 0, .parts fun p => { p with rindQueue := [⟨0, 0x0500, 0, 16, 0, 0x0100, []⟩] }], ⟨0, 0x0500, 0, 16, 0, 0x0100, []⟩, [], by decide +kernel⟩,
   ⟨st [on 168, wr .BB_STAT_SEAL_USED 4096, .parts fun p => { p with rindQueue := [⟨0, 0x0500, 0, 16, 0, 0x0100, []⟩] }], ⟨0, 0x0500, 0, 16, 0, 0x0100, []⟩, [], by decide +kernel⟩,
   ⟨st [on 168], by decide +kernel⟩,
   ⟨st [on 168], 0x1000000, by decide +kernel⟩,
   ⟨st [on 168], 0x40000FF, by decide +kernel⟩,
   ⟨st [on 168], 0x4000100, by decide +kernel⟩,
   ⟨st [on 168], 0x5007FFF, by decide +kernel⟩,
   ⟨st [on 168], 0xFFFFF, by decide +kernel⟩,
   ⟨st [wr .BB_RD_IDX_BUSY 1], by decide +kernel⟩⟩


/-- A packet with an operation, an address and data, from node 0's tile 0 to node 0. -/
def pk (op addr len : Nat) (data : List Byte) : Packet := ⟨op, 0, 31, false, 0, 0, 0, 0, addr, len, 0, 0, 0, 0, false, false, 0, 0, data⟩

theorem witness_RegisterWrites :
    (∃ (s : State) (addr : BitVec 48) (_v : W64) (core : Bool) (b : Blk) (n o j : Nat) (r : RegRow),
      let a := addr.toNat
      (a % 8 = 0) ∧ (mmioBytes a = false) ∧ (s.mmioAt a = some (b, n, o)) ∧ ((core = true → b = .tile)) ∧ (s.takesWrite b n = true) ∧ ((b = .tile → s.slotHeld n o core = true)) ∧ (findReg b o regTable = some (r, j)) ∧ (ownStep .BB_CTL_DROP_IRQ = false ∧ Fld.access .BB_CTL_DROP_IRQ = .rw))
    ∧ (∃ (s : State) (addr : BitVec 48) (_v : W64) (core : Bool) (b : Blk) (n o j : Nat) (r : RegRow),
      let a := addr.toNat
      (a % 8 = 0) ∧ (mmioBytes a = false) ∧ (s.mmioAt a = some (b, n, o)) ∧ ((core = true → b = .tile)) ∧ (s.takesWrite b n = true) ∧ ((b = .tile → s.slotHeld n o core = true)) ∧ (findReg b o regTable = some (r, j)) ∧ (ownStep .BB_STAT_LAST_GASP = false ∧ Fld.access .BB_STAT_LAST_GASP = .w1c))
    ∧ (∃ (s : State) (addr : BitVec 48) (_v : W64) (_core : Bool),
      let a := addr.toNat
      (a % 8 ≠ 0 ∨ (mmioBytes a = false ∧ (s.mmioAt a = none ∨ ∃ b n o, s.mmioAt a = some (b, n, o) ∧ findReg b o regTable = none))))
    ∧ (∃ (s : State) (addr : BitVec 48) (_v : W64) (_core : Bool),
      let a := addr.toNat
      (a % 8 ≠ 0 ∨ (mmioBytes a = false ∧ (s.mmioAt a = none ∨ ∃ b n o, s.mmioAt a = some (b, n, o) ∧ findReg b o regTable = none))))
    ∧ (∃ (s : State) (addr : BitVec 48) (_v : W64) (_core : Bool),
      let a := addr.toNat
      (a % 8 ≠ 0 ∨ (mmioBytes a = false ∧ (s.mmioAt a = none ∨ ∃ b n o, s.mmioAt a = some (b, n, o) ∧ findReg b o regTable = none))))
    ∧ (∃ (s : State) (addr : BitVec 48) (_v : W64),
      let a := addr.toNat
      let held := mboxBase 0 ≤ a ∧ testB (s.rd .MB_OWN_OWN) ((a - mboxBase 0) / 0x1000) = true
      (a % 8 = 0) ∧ (mmioBytes a = true) ∧ (held))
    ∧ (∃ (s : State) (addr : BitVec 48) (_v : W64),
      let a := addr.toNat
      let held := mboxBase 0 ≤ a ∧ testB (s.rd .MB_OWN_OWN) ((a - mboxBase 0) / 0x1000) = true
      (a % 8 = 0) ∧ (mmioBytes a = true) ∧ (¬ held ∧ ¬ a < mboxBase 0))
    ∧ (∃ (s : State) (addr : BitVec 48) (_v : W64),
      let a := addr.toNat
      let f := (a - 0x018000100000) / 0x40000
      let held := mboxBase 0 ≤ a ∧ testB (s.rd .MB_OWN_OWN) ((a - mboxBase 0) / 0x1000) = true
      (a % 8 = 0) ∧ (mmioBytes a = true) ∧ (¬ held ∧ a < mboxBase 0 ∧ s.dom (164 + f) ≠ 0)) :=
  ⟨⟨st [on 168], 0x018000040008, 1, false, .bb, 0, 8, 0, ⟨"BB_CTL", .bb, 0x8, 8, 1, [(.BB_CTL_DROP_IRQ, 0, 0)]⟩, by decide +kernel⟩,
   ⟨st [on 168], 0x018000040010, 0x200000, false, .bb, 0, 16, 0, ⟨"BB_STAT", .bb, 0x10, 8, 1, [(.BB_STAT_SEAL_USED, 0, 0), (.BB_STAT_WRAPPED, 13, 0), (.BB_STAT_QOCC, 14, 0), (.BB_STAT_LAST_GASP, 21, 0), (.BB_STAT_DROPPED, 32, 0)]⟩, by decide +kernel⟩,
   ⟨st [], 0x018000040009, 0, false, .inl (by decide +kernel)⟩,
   ⟨st [], 0x018001FFFFF8, 0, false, .inr ⟨by decide +kernel, .inl (by decide +kernel)⟩⟩,
   ⟨st [], 0x018000040800, 0, false, .inr ⟨by decide +kernel, .inr ⟨.bb, 0, 0x800, by decide +kernel⟩⟩⟩,
   ⟨st [wr .MB_OWN_OWN 1], 0x018000800000, 0, by decide +kernel⟩,
   ⟨st [], 0x018000800000, 0, by decide +kernel⟩,
   ⟨st [on 164], 0x018000130000, 0, by decide +kernel⟩⟩

theorem witness_LinkBlocks :
    (∃ (s : State) (l : Link),
      let replay := s.parts.replay.at l
      let rs := s.vr .TX_RESEND l
      (s.linkActive l = true) ∧ (rs = 0 ∧ s.vr .LINK_DRAIN l = 0 ∧ replay.length < 64))
    ∧ (∃ (s : State) (l : Link),
      let replay := s.parts.replay.at l
      let rs := s.vr .TX_RESEND l
      (s.linkActive l = true) ∧ (rs = 0 ∧ 64 ≤ replay.length))
    ∧ (∃ (s : State) (l : Link),
      let replay := s.parts.replay.at l
      let rs := s.vr .TX_RESEND l
      (s.linkActive l = true) ∧ (rs ≠ 0 ∧ (replay.any fun b => b.seq == rs - 1) = true))
    ∧ (∃ (s : State) (l : Link),
      let replay := s.parts.replay.at l
      let queue := s.parts.linkTx.at l
      let rs := s.vr .TX_RESEND l
      (s.linkActive l = true) ∧ (rs = 0 ∧ s.vr .LINK_DRAIN l ≠ 0 ∧ replay = [] ∧ queue = []))
    ∧ (∃ (s : State) (l : Link) (b : RxBlock),
      let sound := b.crcOk = true ∧ b.fecUncorrectable.toNat = 0
      (s.linkActive l = true) ∧ (sound ∧ b.seq.toNat = s.vr .RX_SEQ l ∧ b.msg.toNat = 0))
    ∧ (∃ (s : State) (l : Link) (b : RxBlock),
      let sound := b.crcOk = true ∧ b.fecUncorrectable.toNat = 0
      (s.linkActive l = true) ∧ (sound ∧ b.seq.toNat = s.vr .RX_SEQ l ∧ b.msg.toNat = 1))
    ∧ (∃ (s : State) (l : Link) (b : RxBlock),
      let sound := b.crcOk = true ∧ b.fecUncorrectable.toNat = 0
      (s.linkActive l = true) ∧ (sound ∧ b.seq.toNat = s.vr .RX_SEQ l ∧ b.msg.toNat = 2))
    ∧ (∃ (s : State) (l : Link) (b : RxBlock),
      let sound := b.crcOk = true ∧ b.fecUncorrectable.toNat = 0
      (s.linkActive l = true) ∧ (¬ sound ∧ s.vr .RX_EVENT l = 0 ∧ s.vr .FR_RETRY l = 0))
    ∧ (∃ (s : State) (l : Link) (b : RxBlock),
      let sound := b.crcOk = true ∧ b.fecUncorrectable.toNat = 0
      (s.linkActive l = true) ∧ (¬ sound ∧ s.vr .RX_EVENT l = 0 ∧ s.vr .FR_RETRY l = 16))
    ∧ (∃ (s : State) (l : Link) (b : RxBlock),
      let sound := b.crcOk = true ∧ b.fecUncorrectable.toNat = 0
      (s.linkActive l = true) ∧ (¬ sound ∧ s.vr .RX_EVENT l = 1 ∧ s.vr .FR_RETRY l = 0))
    ∧ (∃ (s : State) (l : Link) (b : RxBlock),
      let sound := b.crcOk = true ∧ b.fecUncorrectable.toNat = 0
      (s.linkActive l = true) ∧ (sound ∧ b.seq.toNat ≠ s.vr .RX_SEQ l)) :=
  ⟨⟨st [wr .FL_STAT_STATE 5 0], 0, by decide +kernel⟩,
   ⟨st [wr .FL_STAT_STATE 5 0, .parts fun p => { p with replay := p.replay.set 0 (List.replicate 64 ⟨0, 1, []⟩) }], 0, by decide +kernel⟩,
   ⟨st [wr .FL_STAT_STATE 5 0, .parts fun p => { p with replay := p.replay.set 0 (List.replicate 1 ⟨0, 1, []⟩) }, wv .TX_RESEND 1 0], 0, by decide +kernel⟩,
   ⟨st [wr .FL_STAT_STATE 5 0, wv .LINK_DRAIN 1 0], 0, by decide +kernel⟩,
   ⟨st [wr .FL_STAT_STATE 5 0], 0, ⟨0, 0, false, [], [], 0, 0, 0, true, false⟩, by decide +kernel⟩,
   ⟨st [wr .FL_STAT_STATE 5 0], 0, ⟨0, 0, false, [], [], 1, 0, 0, true, false⟩, by decide +kernel⟩,
   ⟨st [wr .FL_STAT_STATE 5 0], 0, ⟨0, 0, false, [], [], 2, 0, 0, true, false⟩, by decide +kernel⟩,
   ⟨st [wr .FL_STAT_STATE 5 0, wv .RX_EVENT 0 0, wv .FR_RETRY 0 0], 0, ⟨0, 0, false, [], [], 0, 0, 0, false, false⟩, by decide +kernel⟩,
   ⟨st [wr .FL_STAT_STATE 5 0, wv .RX_EVENT 0 0, wv .FR_RETRY 16 0], 0, ⟨0, 0, false, [], [], 0, 0, 0, false, false⟩, by decide +kernel⟩,
   ⟨st [wr .FL_STAT_STATE 5 0, wv .RX_EVENT 1 0, wv .FR_RETRY 0 0], 0, ⟨0, 0, false, [], [], 0, 0, 0, false, false⟩, by decide +kernel⟩,
   ⟨st [wr .FL_STAT_STATE 5 0], 0, ⟨1, 0, false, [], [], 0, 0, 0, true, false⟩, by decide +kernel⟩⟩

theorem witness_LinkTraining :
    (∃ (s : State) (l : Link) (c0 c1 c2 c3 : LaneClass),
      let cs := [c0, c1, c2, c3]
      (s.linkState l = 1) ∧ (s.vr .DETECT_AT l ≤ s.clock) ∧ (.driver ∈ cs))
    ∧ (∃ (s : State) (l : Link) (c0 c1 c2 c3 : LaneClass),
      let cs := [c0, c1, c2, c3]
      (s.linkState l = 1) ∧ (s.vr .DETECT_AT l ≤ s.clock) ∧ (.driver ∉ cs ∧ .termination ∈ cs))
    ∧ (∃ (s : State) (l : Link) (c0 c1 c2 c3 : LaneClass),
      let cs := [c0, c1, c2, c3]
      (s.linkState l = 1) ∧ (s.vr .DETECT_AT l ≤ s.clock) ∧ (.driver ∉ cs ∧ .termination ∉ cs))
    ∧ (∃ (s : State) (l : Link) (a0 a1 a2 a3 : LaneAlign),
      let a := [a0, a1, a2, a3]
      let locked := fun k => match a[k]? with | some x => x.locked && testB (s.vr .LANE_USABLE l) k | none => false
      ((∃ k < 4, locked k = true)) ∧ (s.linkState l = 2 ∧ s.clock ≤ s.vr .LINK_AT l + 2100000))
    ∧ (∃ (s : State) (l : Link) (a0 a1 a2 a3 : LaneAlign),
      let a := [a0, a1, a2, a3]
      let locked := fun k => match a[k]? with | some x => x.locked && testB (s.vr .LANE_USABLE l) k | none => false
      ((∃ k < 4, locked k = true)) ∧ (s.linkState l = 6 ∧ s.clock ≤ s.vr .LINK_AT l + 210000))
    ∧ (∃ (s : State) (l : Link), (s.linkState l = 2) ∧ (s.vr .LINK_AT l + 2100000 ≤ s.clock))
    ∧ (∃ (s : State) (l : Link) (p : PeerConfig), (s.linkState l = 3) ∧ (p.conflict = true))
    ∧ (∃ (s : State) (l : Link) (p : PeerConfig),
      let mismatch := s.rd .FL_CTL_PEER_CHK l = 1 ∧ (s.rd .FL_PEER_EXP_NODE l ≠ p.node.toNat ∨ s.rd .FL_PEER_EXP_FDIE l ≠ p.fdie.toNat ∨ s.rd .FL_PEER_EXP_PORT l ≠ p.port.toNat)
      (s.linkState l = 3) ∧ (p.conflict = false ∧ mismatch))
    ∧ (∃ (s : State) (l : Link) (p : PeerConfig),
      let fl := flightOf p.roundTrip.toNat
      let mismatch := s.rd .FL_CTL_PEER_CHK l = 1 ∧ (s.rd .FL_PEER_EXP_NODE l ≠ p.node.toNat ∨ s.rd .FL_PEER_EXP_FDIE l ≠ p.fdie.toNat ∨ s.rd .FL_PEER_EXP_PORT l ≠ p.port.toNat)
      (s.linkState l = 3) ∧ (p.conflict = false ∧ ¬ mismatch ∧ classOf fl = 3))
    ∧ (∃ (s : State) (l : Link) (p : PeerConfig),
      let fl := flightOf p.roundTrip.toNat
      let own := s.ownLanes l
      let both := (List.range 4).foldl (fun m q => if testB own q ∧ testB p.lanes.toNat q then m + 2 ^ q else m) 0
      let set_ := lowestLanes both (min (s.rd .FL_CTL_MAX_W l) p.maxW)
      let mismatch := s.rd .FL_CTL_PEER_CHK l = 1 ∧ (s.rd .FL_PEER_EXP_NODE l ≠ p.node.toNat ∨ s.rd .FL_PEER_EXP_FDIE l ≠ p.fdie.toNat ∨ s.rd .FL_PEER_EXP_PORT l ≠ p.port.toNat)
      (s.linkState l = 3) ∧ (p.conflict = false ∧ ¬ mismatch ∧ classOf fl ≠ 3 ∧ laneCount set_ = 0))
    ∧ (∃ (s : State) (l : Link) (p : PeerConfig),
      let fl := flightOf p.roundTrip.toNat
      let own := s.ownLanes l
      let both := (List.range 4).foldl (fun m q => if testB own q ∧ testB p.lanes.toNat q then m + 2 ^ q else m) 0
      let set_ := lowestLanes both (min (s.rd .FL_CTL_MAX_W l) p.maxW)
      let mismatch := s.rd .FL_CTL_PEER_CHK l = 1 ∧ (s.rd .FL_PEER_EXP_NODE l ≠ p.node.toNat ∨ s.rd .FL_PEER_EXP_FDIE l ≠ p.fdie.toNat ∨ s.rd .FL_PEER_EXP_PORT l ≠ p.port.toNat)
      (s.linkState l = 3) ∧ (p.conflict = false ∧ ¬ mismatch ∧ classOf fl ≠ 3 ∧ laneCount set_ ≠ 0))
    ∧ (∃ (s : State) (l : Link) (c0 c1 c2 c3 : BitVec 32) (unc : Bool),
      let w := s.rd .FL_STAT_WIDTH l
      let worst := worstLane (s.vr .LINK_SET l) [c0.toNat, c1.toNat, c2.toNat, c3.toNat]
      let pass := unc = false ∧ worst.1 * w ≤ 10 ^ 7
      (s.linkState l = 4) ∧ (w ≠ 0) ∧ (s.vr .LINK_AT l + 52500000000 / w ≤ s.clock) ∧ (pass))
    ∧ (∃ (s : State) (l : Link) (c0 c1 c2 c3 : BitVec 32) (unc : Bool),
      let w := s.rd .FL_STAT_WIDTH l
      let worst := worstLane (s.vr .LINK_SET l) [c0.toNat, c1.toNat, c2.toNat, c3.toNat]
      let pass := unc = false ∧ worst.1 * w ≤ 10 ^ 7
      (s.linkState l = 4) ∧ (w ≠ 0) ∧ (s.vr .LINK_AT l + 52500000000 / w ≤ s.clock) ∧ (¬ pass))
    ∧ (∃ (s : State) (l : Link) (worst : BitVec 32) (_unc : Bool), (s.linkActive l = true) ∧ (s.rd .FL_STAT_PROBATION l = 1) ∧ (s.vr .LINK_AT l + 16777216 ≤ s.clock) ∧ (3195 < worst.toNat))
    ∧ (∃ (s : State) (l : Link) (worst : BitVec 32) (unc : Bool), (s.linkActive l = true) ∧ (s.rd .FL_STAT_PROBATION l = 1) ∧ (s.vr .LINK_AT l + 16777216 ≤ s.clock) ∧ (unc = false ∧ worst.toNat ≤ 3195))
    ∧ (∃ (s : State) (l : Link) (noLane : Bool), (s.linkState l = 6) ∧ (noLane = true ∨ s.vr .LINK_AT l + 210000 ≤ s.clock))
    ∧ (∃ (s : State) (l : Link), (s.linkState l = 7) ∧ (s.vr .LINK_AT l + 16 ≤ s.clock))
    ∧ (∃ (s : State) (l : Link) (k : Fin 4), (s.linkState l ≠ 0) ∧ (s.linkActive l = true ∧ s.rd .FL_LANE_USED l k = 1))
    ∧ (∃ (s : State) (l : Link) (_k : Fin 4), (s.linkState l ≠ 0) ∧ (s.linkActive l = false))
    ∧ (∃ (s : State) (v : W64), testB v.toNat 0 = true ∧ s.linkState 0 = 5 ∧ s.vr .LINK_DRAIN 0 = 0)
    ∧ (∃ (s : State) (v : W64), testB v.toNat 0 = true ∧ s.linkState 0 = 8)
    ∧ (∃ (s : State) (v : W64), testB v.toNat 0 = true ∧ s.linkState 0 ∉ [5, 8])
    ∧ (∃ (s : State) (l : Link), (s.linkActive l = true) ∧ (s.vr .LINK_DRAIN l ≠ 0) ∧ (s.vr .LINK_DRAIN_AT l + 1048576 ≤ s.clock) ∧ (s.parts.replay.at l ≠ [])) :=
  ⟨⟨at_ 0 0 [wr .FL_STAT_STATE 1 0], 0, .driver, .termination, .termination, .termination, by decide +kernel⟩,
   ⟨at_ 0 0 [wr .FL_STAT_STATE 1 0], 0, .open_, .short, .termination, .termination, by decide +kernel⟩,
   ⟨at_ 0 0 [wr .FL_STAT_STATE 1 0], 0, .open_, .open_, .short, .open_, by decide +kernel⟩,
   ⟨at_ 0 2100000 [wr .FL_STAT_STATE 2 0, wv .LANE_USABLE 1 0], 0, ⟨true, false, 3⟩, ⟨false, false, 0⟩, ⟨false, false, 0⟩, ⟨false, false, 0⟩, ⟨0, by decide +kernel⟩, by decide +kernel⟩,
   ⟨at_ 0 210000 [wr .FL_STAT_STATE 6 0, wv .LANE_USABLE 1 0], 0, ⟨true, false, 3⟩, ⟨false, false, 0⟩, ⟨false, false, 0⟩, ⟨false, false, 0⟩, ⟨0, by decide +kernel⟩, by decide +kernel⟩,
   ⟨at_ 0 2100000 [wr .FL_STAT_STATE 2 0], 0, by decide +kernel⟩,
   ⟨at_ 0 0 [wr .FL_STAT_STATE 3 0, wv .LANE_LOCKED 15 0, wr .FL_CTL_MAX_W 4 0, wr .FL_LANE_LOGICAL 1 0 1, wr .FL_LANE_LOGICAL 2 0 2, wr .FL_LANE_LOGICAL 3 0 3], 0, ⟨15, 4, 0, 0, 0, 0, true, 952⟩, by decide +kernel⟩,
   ⟨at_ 0 0 [wr .FL_STAT_STATE 3 0, wv .LANE_LOCKED 15 0, wr .FL_CTL_MAX_W 4 0, wr .FL_LANE_LOGICAL 1 0 1, wr .FL_LANE_LOGICAL 2 0 2, wr .FL_LANE_LOGICAL 3 0 3, wr .FL_CTL_PEER_CHK 1 0, wr .FL_PEER_EXP_NODE 1 0], 0, ⟨15, 4, 0, 0, 0, 0, false, 952⟩, by decide +kernel⟩,
   ⟨at_ 0 0 [wr .FL_STAT_STATE 3 0, wv .LANE_LOCKED 15 0, wr .FL_CTL_MAX_W 4 0, wr .FL_LANE_LOGICAL 1 0 1, wr .FL_LANE_LOGICAL 2 0 2, wr .FL_LANE_LOGICAL 3 0 3], 0, ⟨15, 4, 0, 0, 0, 0, false, 65535⟩, by decide +kernel⟩,
   ⟨at_ 0 0 [wr .FL_STAT_STATE 3 0, wv .LANE_LOCKED 15 0, wr .FL_CTL_MAX_W 4 0, wr .FL_LANE_LOGICAL 1 0 1, wr .FL_LANE_LOGICAL 2 0 2, wr .FL_LANE_LOGICAL 3 0 3], 0, ⟨0, 4, 0, 0, 0, 0, false, 952⟩, by decide +kernel⟩,
   ⟨at_ 0 0 [wr .FL_STAT_STATE 3 0, wv .LANE_LOCKED 15 0, wr .FL_CTL_MAX_W 4 0, wr .FL_LANE_LOGICAL 1 0 1, wr .FL_LANE_LOGICAL 2 0 2, wr .FL_LANE_LOGICAL 3 0 3], 0, ⟨15, 4, 0, 0, 0, 0, false, 952⟩, by decide +kernel⟩,
   ⟨at_ 0 13125000000 [wr .FL_STAT_STATE 4 0, wr .FL_STAT_WIDTH 4 0, wv .LINK_SET 15 0], 0, 2500000, 0, 0, 0, false, by decide +kernel⟩,
   ⟨at_ 0 13125000000 [wr .FL_STAT_STATE 4 0, wr .FL_STAT_WIDTH 4 0, wv .LINK_SET 15 0], 0, 2500001, 0, 0, 0, false, by decide +kernel⟩,
   ⟨at_ 0 16777216 [wr .FL_STAT_STATE 5 0, wr .FL_STAT_PROBATION 1 0], 0, 3196, false, by decide +kernel⟩,
   ⟨at_ 0 16777216 [wr .FL_STAT_STATE 5 0, wr .FL_STAT_PROBATION 1 0], 0, 3195, false, by decide +kernel⟩,
   ⟨at_ 0 210000 [wr .FL_STAT_STATE 6 0], 0, false, by decide +kernel, .inr (by decide +kernel)⟩,
   ⟨at_ 0 16 [wr .FL_STAT_STATE 7 0], 0, by decide +kernel⟩,
   ⟨at_ 0 0 [wr .FL_STAT_STATE 5 0, wr .FL_LANE_USED 1 0 3], 0, 3, by decide +kernel⟩,
   ⟨at_ 0 0 [wr .FL_STAT_STATE 1 0], 0, 3, by decide +kernel⟩,
   ⟨st [wr .FL_STAT_STATE 5 0], 1, by decide +kernel⟩,
   ⟨st [wr .FL_STAT_STATE 8 0], 1, by decide +kernel⟩,
   ⟨st [], 1, by decide +kernel⟩,
   ⟨at_ 0 1048576 [wr .FL_STAT_STATE 5 0, wv .LINK_DRAIN 1 0, .parts fun p => { p with replay := p.replay.set 0 (List.replicate 1 ⟨0, 1, []⟩) }], 0, by decide +kernel⟩⟩

theorem witness_ForwardingAndInterface :
    (∃ (s : State) (f : FDie) (fp : FPacket) (rest : List FPacket),
      let p := if fp.via.isSome then { fp.pkt with ttl := fp.pkt.ttl - 1 } else fp.pkt
      (s.parts.fdiePkts.at f = fp :: rest) ∧ (p.dstNode = s.node f))
    ∧ (∃ (s : State) (f : FDie) (fp : FPacket) (rest : List FPacket),
      let p := if fp.via.isSome then { fp.pkt with ttl := fp.pkt.ttl - 1 } else fp.pkt
      let dead := fp.via.isSome = true ∧ p.ttl = 0
      (s.parts.fdiePkts.at f = fp :: rest) ∧ (p.dstNode ≠ s.node f ∧ dead))
    ∧ (∃ (s : State) (f : FDie) (fp : FPacket) (rest : List FPacket),
      let p := if fp.via.isSome then { fp.pkt with ttl := fp.pkt.ttl - 1 } else fp.pkt
      let dead := fp.via.isSome = true ∧ p.ttl = 0
      (s.parts.fdiePkts.at f = fp :: rest) ∧ (p.dstNode ≠ s.node f ∧ ¬ dead ∧ s.choose f p = .none))
    ∧ (∃ (s : State) (f : FDie) (fp : FPacket) (rest : List FPacket),
      let p := if fp.via.isSome then { fp.pkt with ttl := fp.pkt.ttl - 1 } else fp.pkt
      let dead := fp.via.isSome = true ∧ p.ttl = 0
      (s.parts.fdiePkts.at f = fp :: rest) ∧ (p.dstNode ≠ s.node f ∧ ¬ dead ∧ s.choose f p = .wait))
    ∧ (∃ (s : State) (f : FDie) (fp : FPacket) (rest : List FPacket),
      let p := if fp.via.isSome then { fp.pkt with ttl := fp.pkt.ttl - 1 } else fp.pkt
      let dead := fp.via.isSome = true ∧ p.ttl = 0
      (s.parts.fdiePkts.at f = fp :: rest) ∧ (p.dstNode ≠ s.node f ∧ ¬ dead ∧ s.choose f p = .link 0))
    ∧ (∃ (s : State) (f : FDie) (p : Packet) (rest : List Packet),
      let now := s.gtc % 2 ^ 32
      let rel := (p.stamp + p.d) % 2 ^ 32
      let late := before32 rel now = true
      let stale := late ∧ before32 now (rel + s.tStale f) = false
      (s.parts.niIn.at f = p :: rest) ∧ (stale))
    ∧ (∃ (s : State) (f : FDie) (p : Packet) (rest : List Packet),
      let now := s.gtc % 2 ^ 32
      let rel := (p.stamp + p.d) % 2 ^ 32
      let late := before32 rel now = true
      (s.parts.niIn.at f = p :: rest) ∧ (¬ late ∧ now ≠ rel))
    ∧ (∃ (s : State) (f : FDie) (p : Packet) (rest : List Packet),
      let now := s.gtc % 2 ^ 32
      let rel := (p.stamp + p.d) % 2 ^ 32
      let late := before32 rel now = true
      let stale := late ∧ before32 now (rel + s.tStale f) = false
      (s.parts.niIn.at f = p :: rest) ∧ (¬ stale ∧ now = rel ∧ p.isResp = false ∧ s.refusal f true p = none))
    ∧ (∃ (s : State) (f : FDie) (p : Packet) (rest : List Packet),
      let now := s.gtc % 2 ^ 32
      let rel := (p.stamp + p.d) % 2 ^ 32
      let late := before32 rel now = true
      let stale := late ∧ before32 now (rel + s.tStale f) = false
      (s.parts.niIn.at f = p :: rest) ∧ (¬ stale ∧ late ∧ p.isResp = false ∧ s.refusal f true p = some 0x60))
    ∧ (∃ (s : State) (f : FDie) (p : Packet), ((s.parts.niHeld.at f).find? (fun p => !before32 (s.gtc % 2 ^ 32) ((p.stamp + p.d) % 2 ^ 32)) = some p) ∧ (p.isResp = false) ∧ (s.refusal f true p = none))
    ∧ (∃ (s : State) (l : Link) (p : Packet) (rest : List Packet) (h : Handback), (s.parts.responses.at (64 + l) = p :: rest) ∧ (s.parts.handbacks.find l = some h) ∧ (h.unreachable = false) ∧ (p.status = 0))
    ∧ (∃ (s : State) (l : Link) (p : Packet) (rest : List Packet) (h : Handback), (s.parts.responses.at (64 + l) = p :: rest) ∧ (s.parts.handbacks.find l = some h) ∧ (h.unreachable = false) ∧ (p.status = 98))
    ∧ (∃ (s : State) (l : Link) (h : Handback), (s.parts.handbacks.find l = some h) ∧ (h.unreachable = false) ∧ (s.vr .RECON_AT l ≠ 0) ∧ (1048576 ≤ (s.gtc + 2 ^ 64 - (s.vr .RECON_AT l - 1)) % 2 ^ 64))
    ∧ (∃ (s : State) (l : Link) (h : Handback),
      let f := fdieOf l
      let reqs := (h.blocks.flatMap fun b => b.pkts).filter fun p => !p.isResp
      let due := reqs.find? fun p => !before32 (s.gtc % 2 ^ 32) ((p.stamp + p.d + s.tStale f) % 2 ^ 32)
      (s.parts.handbacks.find l = some h) ∧ (h.unreachable = true) ∧ (due = none))
    ∧ (∃ (s : State) (l : Link) (h : Handback),
      let f := fdieOf l
      let reqs := (h.blocks.flatMap fun b => b.pkts).filter fun p => !p.isResp
      let due := reqs.find? fun p => !before32 (s.gtc % 2 ^ 32) ((p.stamp + p.d + s.tStale f) % 2 ^ 32)
      (s.parts.handbacks.find l = some h) ∧ (h.unreachable = true) ∧ (due = some (pk 1 0 8 [])))
    ∧ (∃ (s : State) (f : FDie) (_v : W64), (s.domOn (164 + f) = true))
    ∧ (∃ (s : State) (f : FDie) (_j : Fin 64) (v : W64),
      let x := v.toNat
      (s.domOn (164 + f) = true) ∧ (s.vr .NI_MAP_SHUT = 1 ∧ gtcBefore s.gtc x = false))
    ∧ (∃ (s : State) (f : FDie) (j : Fin 64) (v : W64),
      let x := v.toNat
      (s.domOn (164 + f) = true) ∧ (s.vr .NI_MAP_SHUT ≠ 1 ∧ s.rd .NI_REPL_SIZE_FLIP_PEND f j ≠ 1 ∧ gtcBefore s.gtc x = true))
    ∧ (∃ (s : State) (f : FDie) (j : Fin 64) (_v : W64), (s.domOn (164 + f) = true) ∧ (s.rd .NI_REPL_SIZE_FLIP_PEND f j = 1)) :=
  ⟨⟨st [.parts fun p => { p with fdiePkts := p.fdiePkts.set 0 [⟨pk 1 0 8 [], none⟩] }], 0, ⟨pk 1 0 8 [], none⟩, [], by decide +kernel⟩,
   ⟨st [.parts fun p => { p with fdiePkts := p.fdiePkts.set 0 [⟨{ pk 1 0 8 [] with dstNode := 1, ttl := 1 }, some 0⟩] }], 0, ⟨{ pk 1 0 8 [] with dstNode := 1, ttl := 1 }, some 0⟩, [], by decide +kernel⟩,
   ⟨st [.parts fun p => { p with fdiePkts := p.fdiePkts.set 0 [⟨{ pk 1 0 8 [] with dstNode := 1 }, none⟩] }], 0, ⟨{ pk 1 0 8 [] with dstNode := 1 }, none⟩, [], by decide +kernel⟩,
   ⟨st [wv .RT (2 ^ 48 + 2 ^ 6) 0 1, wr .FL_STAT_STATE 6 0, .parts fun p => { p with fdiePkts := p.fdiePkts.set 0 [⟨{ pk 1 0 8 [] with dstNode := 1 }, none⟩] }], 0, ⟨{ pk 1 0 8 [] with dstNode := 1 }, none⟩, [], by decide +kernel⟩,
   ⟨st [wv .RT (2 ^ 48 + 2 ^ 6) 0 1, wr .FL_STAT_STATE 5 0, wr .FL_STAT_WIDTH 4 0, .parts fun p => { p with fdiePkts := p.fdiePkts.set 0 [⟨{ pk 1 0 8 [] with dstNode := 1 }, none⟩] }], 0, ⟨{ pk 1 0 8 [] with dstNode := 1 }, none⟩, [], by decide +kernel⟩,
   ⟨at_ 536870912 0 [on 80, .parts fun p => { p with niIn := p.niIn.set 0 [pk 1 0 8 []] }], 0, pk 1 0 8 [], [], by decide +kernel⟩,
   ⟨at_ 4 0 [on 80, .parts fun p => { p with niIn := p.niIn.set 0 [{ pk 1 0 8 [] with d := 5 }] }], 0, { pk 1 0 8 [] with d := 5 }, [], by decide +kernel⟩,
   ⟨at_ 0 0 [on 80, .parts fun p => { p with niIn := p.niIn.set 0 [pk 1 0 8 []] }], 0, pk 1 0 8 [], [], by decide +kernel⟩,
   ⟨at_ 1 0 [.parts fun p => { p with niIn := p.niIn.set 0 [pk 1 0 8 []] }], 0, pk 1 0 8 [], [], by decide +kernel⟩,
   ⟨st [on 80, .parts fun p => { p with niHeld := p.niHeld.set 0 [pk 1 0 8 []] }], 0, pk 1 0 8 [], by decide +kernel⟩,
   ⟨at_ 0 0 [.parts fun p => { p with responses := p.responses.set 64 [{ pk 0xA0 0 2 [0, 0] with status := 0 }] }, .parts fun p => { p with handbacks := p.handbacks.put 0 (some ⟨0, false, []⟩) }], 0, { pk 0xA0 0 2 [0, 0] with status := 0 }, [], ⟨0, false, []⟩, by decide +kernel⟩,
   ⟨at_ 0 0 [.parts fun p => { p with responses := p.responses.set 64 [{ pk 0xA0 0 2 [0, 0] with status := 98 }] }, .parts fun p => { p with handbacks := p.handbacks.put 0 (some ⟨0, false, []⟩) }], 0, { pk 0xA0 0 2 [0, 0] with status := 98 }, [], ⟨0, false, []⟩, by decide +kernel⟩,
   ⟨at_ 1048576 0 [wv .RECON_AT 1 0, .parts fun p => { p with handbacks := p.handbacks.put 0 (some ⟨0, false, []⟩) }], 0, ⟨0, false, []⟩, by decide +kernel⟩,
   ⟨at_ 0 0 [.parts fun p => { p with handbacks := p.handbacks.put 0 (some ⟨0, true, [⟨none, [pk 1 0 8 []]⟩]⟩) }], 0, ⟨0, true, [⟨none, [pk 1 0 8 []]⟩]⟩, by decide +kernel⟩,
   ⟨at_ 536870912 0 [.parts fun p => { p with handbacks := p.handbacks.put 0 (some ⟨0, true, [⟨none, [pk 1 0 8 []]⟩]⟩) }], 0, ⟨0, true, [⟨none, [pk 1 0 8 []]⟩]⟩, by decide +kernel⟩,
   ⟨st [on 167], 3, 0x12FFFF, by decide +kernel⟩,
   ⟨st [on 164, wv .NI_MAP_SHUT 1], 0, 63, 0, by decide +kernel⟩,
   ⟨st [on 164], 0, 63, 1, by decide +kernel⟩,
   ⟨st [on 164, wr .NI_REPL_SIZE_FLIP_PEND 1 0 63], 0, 63, 1, by decide +kernel⟩⟩


/-- The request at the front of a point's queue, with every stack channel that it needs ON. -/
def served (pt : Nat) (p : Packet) (l : List Act) : State := st ([on 80, wr .NI_MAP_VALID 1 0 0, .parts fun q => { q with serving := q.serving.set pt [p] }] ++ l)

theorem witness_RemoteAccess :
    (∃ (s : State) (pt : Fin 5) (p : Packet) (rest : List Packet), (s.Served pt p rest) ∧ (p.op = 0x01))
    ∧ (∃ (s : State) (pt : Fin 5) (p : Packet) (rest : List Packet),
      let a := s.flatOf p.addr p.len
      let r := s.readMem a p.len
      (s.Served pt p rest) ∧ (p.op = 0x01) ∧ (r.bad = []))
    ∧ (∃ (s : State) (pt : Fin 5) (p : Packet) (rest : List Packet),
      let a := s.flatOf p.addr p.len
      let r := s.readMem a p.len
      (s.Served pt p rest) ∧ (p.op = 0x01) ∧ (r.bad ≠ []))
    ∧ (∃ (s : State) (pt : Fin 5) (p : Packet) (rest : List Packet),
      let a := s.flatOf p.addr p.len
      (s.Served pt p rest) ∧ (p.op = 0x02) ∧ (p.data.length = p.len) ∧ (0 < p.len) ∧ ((a < stackTop → ∀ i < p.len, s.chFailed (a + i) = false)))
    ∧ (∃ (s : State) (pt : Fin 5) (p : Packet) (rest : List Packet),
      let a := s.flatOf p.addr p.len
      let counter := match targetOf p.addr p.span with | .tile l _ => if p.cntEn then s.physOf l else none | _ => none
      (s.Served pt p rest) ∧ (p.op = 0x02) ∧ (p.data.length = p.len) ∧ (0 < p.len) ∧ ((a < stackTop → ∀ i < p.len, s.chFailed (a + i) = false)) ∧ (counter = some 0))
    ∧ (∃ (s : State) (pt : Fin 5) (p : Packet) (rest : List Packet),
      let a := s.flatOf p.addr 8
      (s.Served pt p rest) ∧ (p.op = 0x03) ∧ (a % 8 = 0) ∧ ((a < stackTop → s.chFailed a = false)) ∧ (p.taint = false))
    ∧ (∃ (s : State) (pt : Fin 5) (p : Packet) (rest : List Packet),
      let a := s.flatOf p.addr 8
      (s.Served pt p rest) ∧ (p.op = 0x03) ∧ (a % 8 = 0) ∧ ((a < stackTop → s.chFailed a = false)) ∧ (p.taint = true))
    ∧ (∃ (s : State) (pt : Fin 5) (p : Packet) (rest : List Packet) (_op : AmoOp), (s.Served pt p rest) ∧ (p.op = 16 ∧ p.atype < 6 ∧ s.flatOf p.addr (atypeSize (atypeOf p.atype)) % atypeSize (atypeOf p.atype) = 0))
    ∧ (∃ (s : State) (pt : Fin 5) (p : Packet) (rest : List Packet) (_op : AmoOp), (s.Served pt p rest) ∧ (p.op = 17 ∧ p.atype < 6 ∧ s.flatOf p.addr (atypeSize (atypeOf p.atype)) % atypeSize (atypeOf p.atype) = 0))
    ∧ (∃ (s : State) (pt : Fin 5) (p : Packet) (rest : List Packet) (_op : AmoOp), (s.Served pt p rest) ∧ (p.op = 18 ∧ p.atype < 6 ∧ s.flatOf p.addr (atypeSize (atypeOf p.atype)) % atypeSize (atypeOf p.atype) = 0))
    ∧ (∃ (s : State) (pt : Fin 5) (p : Packet) (rest : List Packet) (_op : AmoOp), (s.Served pt p rest) ∧ (p.op = 19 ∧ p.atype < 6 ∧ s.flatOf p.addr (atypeSize (atypeOf p.atype)) % atypeSize (atypeOf p.atype) = 0))
    ∧ (∃ (s : State) (pt : Fin 5) (p : Packet) (rest : List Packet), (s.parts.serving.at pt = p :: rest) ∧ (p.op = 0x20))
    ∧ (∃ (s : State) (k : Tile) (p : Packet) (rest : List Packet) (e : Track),
      let idle := fun (s : State) (k : Tile) => ∀ x ∈ s.tracker k, x.sent = true ∨ x.pkt.op = 0x03
      (s.parts.responses.at k = p :: rest) ∧ ((s.tracker k).find? (fun e => e.sent && e.pkt.tag == p.tag && setB e.pkt.op 7 == p.op) = some e) ∧ (idle s k))
    ∧ (∃ (s : State) (k : Tile) (e : Track),
      let idle := fun (s : State) (k : Tile) => ∀ x ∈ s.tracker k, x.sent = true ∨ x.pkt.op = 0x03
      ((s.tracker k).find? (fun e => (e.sent || e.local_) && !gtcBefore s.gtc e.expires) = some e) ∧ (idle s k))
    ∧ (∃ (s : State) (k : Tile) (e : Track),
      let idle := fun (s : State) (k : Tile) => ∀ x ∈ s.tracker k, x.sent = true ∨ x.pkt.op = 0x03
      let scope := (s.parts.flagScope.at k).filter fun x => decide (x.1 < e.seq)
      ((s.tracker k).find? (fun e => e.pkt.op == 0x03 && !e.sent) = some e) ∧ (idle s k) ∧ ((∀ x ∈ s.tracker k, x.seq < e.seq → x.ordersStore = false ∧ e.waitsFor x = false)) ∧ ((∀ x ∈ scope, flagFails x.2 = false) ∧ e.local_ = true))
    ∧ (∃ (s : State) (k : Tile) (e : Track),
      let idle := fun (s : State) (k : Tile) => ∀ x ∈ s.tracker k, x.sent = true ∨ x.pkt.op = 0x03
      let scope := (s.parts.flagScope.at k).filter fun x => decide (x.1 < e.seq)
      ((s.tracker k).find? (fun e => e.pkt.op == 0x03 && !e.sent) = some e) ∧ (idle s k) ∧ ((∀ x ∈ s.tracker k, x.seq < e.seq → x.ordersStore = false ∧ e.waitsFor x = false)) ∧ ((∀ x ∈ scope, flagFails x.2 = false) ∧ e.local_ = false))
    ∧ (∃ (s : State) (k : Tile) (e : Track),
      let idle := fun (s : State) (k : Tile) => ∀ x ∈ s.tracker k, x.sent = true ∨ x.pkt.op = 0x03
      let scope := (s.parts.flagScope.at k).filter fun x => decide (x.1 < e.seq)
      ((s.tracker k).find? (fun e => e.pkt.op == 0x03 && !e.sent) = some e) ∧ (idle s k) ∧ ((∀ x ∈ s.tracker k, x.seq < e.seq → x.ordersStore = false ∧ e.waitsFor x = false)) ∧ (flagFails 0x62 = true ∧ scope = [(4, 0x62)])) :=
  ⟨⟨served 0 (pk 1 0 8 []) [], 0, pk 1 0 8 [], [], ⟨by decide +kernel, by decide +kernel, .inl (by decide +kernel)⟩, by decide +kernel⟩,
   ⟨served 4 (pk 1 1099511631872 8 []) [on 0], 4, pk 1 1099511631872 8 [], [], ⟨by decide +kernel, by decide +kernel, .inr ⟨0, 0x1000, 0, by decide +kernel⟩⟩, by decide +kernel⟩,
   ⟨served 4 (pk 1 1099511631872 8 []) [on 0, wv .TS_POIS 1 0 64], 4, pk 1 1099511631872 8 [], [], ⟨by decide +kernel, by decide +kernel, .inr ⟨0, 0x1000, 0, by decide +kernel⟩⟩, by decide +kernel⟩,
   ⟨served 0 (pk 2 127 1 [7]) [], 0, pk 2 127 1 [7], [], ⟨by decide +kernel, by decide +kernel, .inl (by decide +kernel)⟩, by decide +kernel⟩,
   ⟨served 3 ({ pk 2 1099511631872 1 [7] with cntEn := true, cnt := 31, poison := 1 }) [on 0], 3, { pk 2 1099511631872 1 [7] with cntEn := true, cnt := 31, poison := 1 }, [], ⟨by decide +kernel, by decide +kernel, .inr ⟨0, 0x1000, 0, by decide +kernel⟩⟩, by decide +kernel⟩,
   ⟨served 0 (pk 3 0 8 [1, 0, 0, 0, 0, 0, 0, 0]) [], 0, pk 3 0 8 [1, 0, 0, 0, 0, 0, 0, 0], [], ⟨by decide +kernel, by decide +kernel, .inl (by decide +kernel)⟩, by decide +kernel⟩,
   ⟨served 4 ({ pk 3 1099511631872 8 [1, 0, 0, 0, 0, 0, 0, 0] with taint := true }) [on 0], 4, { pk 3 1099511631872 8 [1, 0, 0, 0, 0, 0, 0, 0] with taint := true }, [], ⟨by decide +kernel, by decide +kernel, .inr ⟨0, 0x1000, 0, by decide +kernel⟩⟩, by decide +kernel⟩,
   ⟨served 0 ({ pk 16 8 8 (List.replicate 16 1) with atype := 3 }) [], 0, { pk 16 8 8 (List.replicate 16 1) with atype := 3 }, [], .add, ⟨by decide +kernel, by decide +kernel, .inl (by decide +kernel)⟩, by decide +kernel⟩,
   ⟨served 0 ({ pk 17 8 8 (List.replicate 16 1) with atype := 3 }) [], 0, { pk 17 8 8 (List.replicate 16 1) with atype := 3 }, [], .min, ⟨by decide +kernel, by decide +kernel, .inl (by decide +kernel)⟩, by decide +kernel⟩,
   ⟨served 0 ({ pk 18 8 8 (List.replicate 16 1) with atype := 3 }) [], 0, { pk 18 8 8 (List.replicate 16 1) with atype := 3 }, [], .max, ⟨by decide +kernel, by decide +kernel, .inl (by decide +kernel)⟩, by decide +kernel⟩,
   ⟨served 0 ({ pk 19 8 8 (List.replicate 16 1) with atype := 3 }) [], 0, { pk 19 8 8 (List.replicate 16 1) with atype := 3 }, [], .cas, ⟨by decide +kernel, by decide +kernel, .inl (by decide +kernel)⟩, by decide +kernel⟩,
   ⟨served 0 (pk 0x20 63 0 []) [], 0, pk 0x20 63 0 [], [], by decide +kernel⟩,
   ⟨at_ 0 0 [.parts fun p => { p with responses := p.responses.set 0 [pk 0x81 0 8 []] }, .parts fun p => { p with tracker := p.tracker.set 0 [⟨pk 1 0 8 [], .coreLoad, 5, true, false, 10⟩] }], 0, pk 0x81 0 8 [], [], ⟨pk 1 0 8 [], .coreLoad, 5, true, false, 10⟩, by decide +kernel⟩,
   ⟨at_ 10 0 [.parts fun p => { p with tracker := p.tracker.set 0 [⟨pk 1 0 8 [], .coreLoad, 5, true, false, 10⟩] }], 0, ⟨pk 1 0 8 [], .coreLoad, 5, true, false, 10⟩, by decide +kernel⟩,
   ⟨at_ 0 0 [.parts fun p => { p with tracker := p.tracker.set 0 [⟨pk 3 0 8 [], .coreStore, 5, false, true, 10⟩] }], 0, ⟨pk 3 0 8 [], .coreStore, 5, false, true, 10⟩, by decide +kernel⟩,
   ⟨at_ 0 0 [.parts fun p => { p with tracker := p.tracker.set 0 [⟨pk 3 0 8 [], .coreStore, 5, false, false, 10⟩] }], 0, ⟨pk 3 0 8 [], .coreStore, 5, false, false, 10⟩, by decide +kernel⟩,
   ⟨at_ 0 0 [.parts fun p => { p with flagScope := p.flagScope.set 0 [(4, 0x62)] }, .parts fun p => { p with tracker := p.tracker.set 0 [⟨pk 3 0 8 [], .coreStore, 5, false, false, 10⟩] }], 0, ⟨pk 3 0 8 [], .coreStore, 5, false, false, 10⟩, by decide +kernel⟩⟩


/-- Communicator 0 of F-die f: one level of two members, the calling member 0 among them. -/
def comm0 (f mine : Nat) : List Act :=
  putNum (ctxAddr f 0) 8 0x20081 ++ putNum (ctxAddr f 0 + 8) 8 2 ++ putNum (ctxAddr f 0 + 48) 8 (2 ^ mine)

/-- A collective of opcode op over communicator 0. -/
def ceD (op : Nat) : Desc :=
  desc [(0, op), (64, 0x010000000000), (128, 0x010000001000), (192, 0x010000002000), (256, if 5 ≤ op then 0 else 128), (304, 1), (312, 6),
    (296, if op = 6 then 6 else 0)]

theorem witness_CollectiveStarts :
    (∃ (s : State) (k : Tile) (d : Desc) (rest : List Desc) (on : Bool), (s.EngineHead k 2 d rest (s.vr .ENG_LAST k 2) (funcServes (s.rd .CE_STAT_FSTATE k) (s.rd .CE_STAT_PEND_EN k) (s.vr .FUNC_DIS_AT k 4) d.issued) on) ∧ (d.opc = 1 ∧ ((ceBadPlan (s.ceCtx (homeF k) (d.f 295 288) (s.logicalOf k)) d ((s.ceCtx (homeF k) (d.f 295 288) (s.logicalOf k)).named d) || s.ceBadAddr k d (((s.ceCtx (homeF k) (d.f 295 288) (s.logicalOf k)).named d).headD ⟨0, 1, 0, 1, 0, 1, false⟩)) = false) ∧ d.f 367 352 = s.rd .CE_EPOCH_EPOCH k ∧ s.readsCaldera k d (s.ceReads k d) = false ∧ s.vr .CE_STALE k (d.f 295 288) ≤ s.clock))
    ∧ (∃ (s : State) (k : Tile) (d : Desc) (rest : List Desc) (on : Bool), (s.EngineHead k 2 d rest (s.vr .ENG_LAST k 2) (funcServes (s.rd .CE_STAT_FSTATE k) (s.rd .CE_STAT_PEND_EN k) (s.vr .FUNC_DIS_AT k 4) d.issued) on) ∧ (d.opc = 2 ∧ ((ceBadPlan (s.ceCtx (homeF k) (d.f 295 288) (s.logicalOf k)) d ((s.ceCtx (homeF k) (d.f 295 288) (s.logicalOf k)).named d) || s.ceBadAddr k d (((s.ceCtx (homeF k) (d.f 295 288) (s.logicalOf k)).named d).headD ⟨0, 1, 0, 1, 0, 1, false⟩)) = false) ∧ d.f 367 352 = s.rd .CE_EPOCH_EPOCH k ∧ s.readsCaldera k d (s.ceReads k d) = false ∧ s.vr .CE_STALE k (d.f 295 288) ≤ s.clock))
    ∧ (∃ (s : State) (k : Tile) (d : Desc) (rest : List Desc) (on : Bool), (s.EngineHead k 2 d rest (s.vr .ENG_LAST k 2) (funcServes (s.rd .CE_STAT_FSTATE k) (s.rd .CE_STAT_PEND_EN k) (s.vr .FUNC_DIS_AT k 4) d.issued) on) ∧ (d.opc = 3 ∧ ((ceBadPlan (s.ceCtx (homeF k) (d.f 295 288) (s.logicalOf k)) d ((s.ceCtx (homeF k) (d.f 295 288) (s.logicalOf k)).named d) || s.ceBadAddr k d (((s.ceCtx (homeF k) (d.f 295 288) (s.logicalOf k)).named d).headD ⟨0, 1, 0, 1, 0, 1, false⟩)) = false) ∧ d.f 367 352 = s.rd .CE_EPOCH_EPOCH k ∧ s.readsCaldera k d (s.ceReads k d) = false ∧ s.vr .CE_STALE k (d.f 295 288) ≤ s.clock))
    ∧ (∃ (s : State) (k : Tile) (d : Desc) (rest : List Desc) (on : Bool), (s.EngineHead k 2 d rest (s.vr .ENG_LAST k 2) (funcServes (s.rd .CE_STAT_FSTATE k) (s.rd .CE_STAT_PEND_EN k) (s.vr .FUNC_DIS_AT k 4) d.issued) on) ∧ (d.opc = 4 ∧ ((ceBadPlan (s.ceCtx (homeF k) (d.f 295 288) (s.logicalOf k)) d ((s.ceCtx (homeF k) (d.f 295 288) (s.logicalOf k)).named d) || s.ceBadAddr k d (((s.ceCtx (homeF k) (d.f 295 288) (s.logicalOf k)).named d).headD ⟨0, 1, 0, 1, 0, 1, false⟩)) = false) ∧ d.f 367 352 = s.rd .CE_EPOCH_EPOCH k ∧ s.readsCaldera k d (s.ceReads k d) = false ∧ s.vr .CE_STALE k (d.f 295 288) ≤ s.clock))
    ∧ (∃ (s : State) (k : Tile) (d : Desc) (rest : List Desc) (on : Bool), (s.EngineHead k 2 d rest (s.vr .ENG_LAST k 2) (funcServes (s.rd .CE_STAT_FSTATE k) (s.rd .CE_STAT_PEND_EN k) (s.vr .FUNC_DIS_AT k 4) d.issued) on) ∧ (d.opc = 5 ∧ ((ceBadPlan (s.ceCtx (homeF k) (d.f 295 288) (s.logicalOf k)) d ((s.ceCtx (homeF k) (d.f 295 288) (s.logicalOf k)).named d) || s.ceBadAddr k d (((s.ceCtx (homeF k) (d.f 295 288) (s.logicalOf k)).named d).headD ⟨0, 1, 0, 1, 0, 1, false⟩)) = false) ∧ d.f 367 352 = s.rd .CE_EPOCH_EPOCH k ∧ s.readsCaldera k d (s.ceReads k d) = false ∧ s.vr .CE_STALE k (d.f 295 288) ≤ s.clock))
    ∧ (∃ (s : State) (k : Tile) (d : Desc) (rest : List Desc) (on : Bool), (s.EngineHead k 2 d rest (s.vr .ENG_LAST k 2) (funcServes (s.rd .CE_STAT_FSTATE k) (s.rd .CE_STAT_PEND_EN k) (s.vr .FUNC_DIS_AT k 4) d.issued) on) ∧ (d.opc = 6 ∧ ((ceBadPlan (s.ceCtx (homeF k) (d.f 295 288) (s.logicalOf k)) d ((s.ceCtx (homeF k) (d.f 295 288) (s.logicalOf k)).named d) || s.ceBadAddr k d (((s.ceCtx (homeF k) (d.f 295 288) (s.logicalOf k)).named d).headD ⟨0, 1, 0, 1, 0, 1, false⟩)) = false) ∧ d.f 367 352 = s.rd .CE_EPOCH_EPOCH k ∧ s.readsCaldera k d (s.ceReads k d) = false ∧ s.vr .CE_STALE k (d.f 295 288) ≤ s.clock))
    ∧ (∃ (s : State) (k : Tile) (d : Desc) (rest : List Desc) (on : Bool), (s.EngineHead k 2 d rest (s.vr .ENG_LAST k 2) (funcServes (s.rd .CE_STAT_FSTATE k) (s.rd .CE_STAT_PEND_EN k) (s.vr .FUNC_DIS_AT k 4) d.issued) on) ∧ (d.opc = 1 ∧ ((ceBadPlan (s.ceCtx (homeF k) (d.f 295 288) (s.logicalOf k)) d ((s.ceCtx (homeF k) (d.f 295 288) (s.logicalOf k)).named d) || s.ceBadAddr k d (((s.ceCtx (homeF k) (d.f 295 288) (s.logicalOf k)).named d).headD ⟨0, 1, 0, 1, 0, 1, false⟩)) = true)))
    ∧ (∃ (s : State) (k : Tile) (d : Desc) (rest : List Desc) (on : Bool), (s.EngineHead k 2 d rest (s.vr .ENG_LAST k 2) (funcServes (s.rd .CE_STAT_FSTATE k) (s.rd .CE_STAT_PEND_EN k) (s.vr .FUNC_DIS_AT k 4) d.issued) on) ∧ (d.opc = 5 ∧ ((ceBadPlan (s.ceCtx (homeF k) (d.f 295 288) (s.logicalOf k)) d ((s.ceCtx (homeF k) (d.f 295 288) (s.logicalOf k)).named d) || s.ceBadAddr k d (((s.ceCtx (homeF k) (d.f 295 288) (s.logicalOf k)).named d).headD ⟨0, 1, 0, 1, 0, 1, false⟩)) = false) ∧ d.f 367 352 ≠ s.rd .CE_EPOCH_EPOCH k))
    ∧ (∃ (s : State) (k : Tile) (d : Desc) (rest : List Desc) (on : Bool), (s.EngineHead k 2 d rest (s.vr .ENG_LAST k 2) (funcServes (s.rd .CE_STAT_FSTATE k) (s.rd .CE_STAT_PEND_EN k) (s.vr .FUNC_DIS_AT k 4) d.issued) on) ∧ (d.opc = 5 ∧ ((ceBadPlan (s.ceCtx (homeF k) (d.f 295 288) (s.logicalOf k)) d ((s.ceCtx (homeF k) (d.f 295 288) (s.logicalOf k)).named d) || s.ceBadAddr k d (((s.ceCtx (homeF k) (d.f 295 288) (s.logicalOf k)).named d).headD ⟨0, 1, 0, 1, 0, 1, false⟩)) = false) ∧ d.f 367 352 = s.rd .CE_EPOCH_EPOCH k))
    ∧ (∃ (s : State) (k : Tile) (d : Desc) (rest : List Desc) (on : Bool), (s.EngineHead k 2 d rest (s.vr .ENG_LAST k 2) (funcServes (s.rd .CE_STAT_FSTATE k) (s.rd .CE_STAT_PEND_EN k) (s.vr .FUNC_DIS_AT k 4) d.issued) on) ∧ (d.opc = 5 ∧ ((ceBadPlan (s.ceCtx (homeF k) (d.f 295 288) (s.logicalOf k)) d ((s.ceCtx (homeF k) (d.f 295 288) (s.logicalOf k)).named d) || s.ceBadAddr k d (((s.ceCtx (homeF k) (d.f 295 288) (s.logicalOf k)).named d).headD ⟨0, 1, 0, 1, 0, 1, false⟩)) = false) ∧ d.f 367 352 = s.rd .CE_EPOCH_EPOCH k ∧ s.clock < s.vr .CE_STALE k (d.f 295 288)))
    ∧ (∃ (s : State) (k : Tile) (d : Desc) (rest : List Desc) (on : Bool), (s.EngineHead k 2 d rest (s.vr .ENG_LAST k 2) (funcServes (s.rd .CE_STAT_FSTATE k) (s.rd .CE_STAT_PEND_EN k) (s.vr .FUNC_DIS_AT k 4) d.issued) on) ∧ (d.opc = 1 ∧ ((ceBadPlan (s.ceCtx (homeF k) (d.f 295 288) (s.logicalOf k)) d ((s.ceCtx (homeF k) (d.f 295 288) (s.logicalOf k)).named d) || s.ceBadAddr k d (((s.ceCtx (homeF k) (d.f 295 288) (s.logicalOf k)).named d).headD ⟨0, 1, 0, 1, 0, 1, false⟩)) = false) ∧ d.f 367 352 = s.rd .CE_EPOCH_EPOCH k ∧ s.readsCaldera k d (s.ceReads k d) = true))
    ∧ (∃ (s : State) (k : Tile) (d : Desc) (rest : List Desc), (s.queue k 2 = d :: rest) ∧ (s.vr .CE_STALE k (d.f 295 288) ≤ s.clock)) :=
  ⟨⟨engAt 2 (ceD 1) (comm0 0 0 ++ [wr .CE_STAT_FSTATE 2 0] ++ []), 0, ceD 1, [], true, ⟨by decide +kernel, by decide +kernel, by decide +kernel, by decide +kernel, by decide +kernel, by decide +kernel, by decide +kernel⟩, by decide +kernel⟩,
   ⟨engAt 2 (ceD 2) (comm0 0 0 ++ [wr .CE_STAT_FSTATE 2 0] ++ []), 0, ceD 2, [], true, ⟨by decide +kernel, by decide +kernel, by decide +kernel, by decide +kernel, by decide +kernel, by decide +kernel, by decide +kernel⟩, by decide +kernel⟩,
   ⟨engAt 2 (ceD 3) (comm0 0 0 ++ [wr .CE_STAT_FSTATE 2 0] ++ []), 0, ceD 3, [], true, ⟨by decide +kernel, by decide +kernel, by decide +kernel, by decide +kernel, by decide +kernel, by decide +kernel, by decide +kernel⟩, by decide +kernel⟩,
   ⟨engAt 2 (ceD 4) (comm0 0 0 ++ [wr .CE_STAT_FSTATE 2 0] ++ []), 0, ceD 4, [], true, ⟨by decide +kernel, by decide +kernel, by decide +kernel, by decide +kernel, by decide +kernel, by decide +kernel, by decide +kernel⟩, by decide +kernel⟩,
   ⟨engAt 2 (ceD 5) (comm0 0 0 ++ [wr .CE_STAT_FSTATE 2 0] ++ []), 0, ceD 5, [], true, ⟨by decide +kernel, by decide +kernel, by decide +kernel, by decide +kernel, by decide +kernel, by decide +kernel, by decide +kernel⟩, by decide +kernel⟩,
   ⟨engAt 2 (ceD 6) (comm0 0 0 ++ [wr .CE_STAT_FSTATE 2 0] ++ []), 0, ceD 6, [], true, ⟨by decide +kernel, by decide +kernel, by decide +kernel, by decide +kernel, by decide +kernel, by decide +kernel, by decide +kernel⟩, by decide +kernel⟩,
   ⟨engAt 2 (desc [(0, 1)]) (comm0 0 0 ++ [wr .CE_STAT_FSTATE 2 0] ++ []), 0, desc [(0, 1)], [], true, ⟨by decide +kernel, by decide +kernel, by decide +kernel, by decide +kernel, by decide +kernel, by decide +kernel, by decide +kernel⟩, by decide +kernel⟩,
   ⟨engAt 2 (ceD 5) (comm0 0 0 ++ [wr .CE_STAT_FSTATE 2 0] ++ [wr .CE_EPOCH_EPOCH 1 0]), 0, ceD 5, [], true, ⟨by decide +kernel, by decide +kernel, by decide +kernel, by decide +kernel, by decide +kernel, by decide +kernel, by decide +kernel⟩, by decide +kernel⟩,
   ⟨engAt 2 (ceD 5) (comm0 0 0 ++ [wr .CE_STAT_FSTATE 0 0] ++ []), 0, ceD 5, [], false, ⟨by decide +kernel, by decide +kernel, by decide +kernel, by decide +kernel, by decide +kernel, by decide +kernel, by decide +kernel⟩, by decide +kernel⟩,
   ⟨engAt 2 (ceD 5) (comm0 0 0 ++ [wr .CE_STAT_FSTATE 2 0] ++ [wv .CE_STALE 2000000 0 0]), 0, ceD 5, [], true, ⟨by decide +kernel, by decide +kernel, by decide +kernel, by decide +kernel, by decide +kernel, by decide +kernel, by decide +kernel⟩, by decide +kernel⟩,
   ⟨engAt 2 ({ ceD 1 with win := true }) (comm0 0 0 ++ [wr .CE_STAT_FSTATE 2 0] ++ [wr .FS_STAT_WIN 1 0, wr .FS_CALDERA_SIZE 1 0]), 0, { ceD 1 with win := true }, [], true, ⟨by decide +kernel, by decide +kernel, by decide +kernel, by decide +kernel, by decide +kernel, by decide +kernel, by decide +kernel⟩, by decide +kernel⟩,
   ⟨engAt 2 (ceD 5) [], 0, ceD 5, [], by decide +kernel⟩⟩


/-- A run of a collective that starts at cycle 0, with its operations. -/
def ceR (op : Nat) (ready : Bool) (ops : List CeOp) : CeRun :=
  { desc := ceD op, start := 0, trk0 := 0, member := 0, gi := 0, seq := 0, maddr := 0, work := 0x1000, rblk := 0, pblk := 0, g := 2, d := 0, readyTo := [1],
    nbrs := [], readySent := ready, ops := ops, eLast := 0, lastLevel := 0 }

/-- Agent a runs r at a clock. -/
def ceAt (a clk : Nat) (r : CeRun) (l : List Act) : State :=
  at_ 0 clk ([on 0, on 164, wr .NI_MAP_VALID 1 0 0, .parts fun p => { p with ce := p.ce.put a (some r) }] ++ l)

theorem witness_CollectiveRuns :
    (∃ (s : State) (a : Fin 44) (r : CeRun), (s.CeCalm a r) ∧ (a.val < 40 ∧ r.readySent = false ∧ r.start + 8 ≤ s.clock ∧ r.readyTo = [1] ∧ s.trackerFull a = false))
    ∧ (∃ (s : State) (a : Fin 44) (r : CeRun), (s.CeCalm a r) ∧ (s.trackerFull a = false ∧ s.readyOf a r 1 = some ⟨1, 0, 0, 1, 0, 0x010001001000, (ceD 1).digest, 5⟩))
    ∧ (∃ (s : State) (a : Fin 44) (r : CeRun), (s.CeCalm a r) ∧ ((r.piece r.pieces).any (fun p => (r.finalAt p.1 p.2.1 p.2.2.2).any fun c => c < s.clock) = true))
    ∧ (∃ (s : State) (a : Fin 44) (r : CeRun), (s.CeCalm a r))
    ∧ (∃ (s : State) (a : Fin 44) (r : CeRun), (s.ceRun a = some r) ∧ (s.perform (ceGo a) = s) ∧ (r.fin = none) ∧ ((∃ x ∈ s.ceAwaits a r, r.start + x + r.late + s.ceLimit a ≤ s.clock)))
    ∧ (∃ (s : State) (a : Fin 44) (r : CeRun), (s.ceRun a = some r) ∧ (s.perform (ceGo a) = s) ∧ (r.fin = none) ∧ ((∃ x ∈ s.ceAwaits a r, r.start + x + r.late + s.ceLimit a ≤ s.clock)))
    ∧ (∃ (s : State) (k : Tile) (r : CeRun), (s.ceRun k = some r) ∧ (s.domOn k = true))
    ∧ (∃ (s : State) (a : Fin 44) (r : CeRun),
      let due := r.start + r.eLast + r.late
      let more := r.lastAt - due
      let c := max (due + more + 32) (if r.desc.opc = 6 then r.ackAt else 0)
      (s.ceRun a = some r) ∧ (s.perform (ceGo a) = s) ∧ (r.fin = none) ∧ ((∀ o ∈ r.ops, o.fin = true)) ∧ ((r.desc.opc = 6 → r.acks = 0 ∧ r.desc.f 431 400 ≤ r.landed)) ∧ (c ≤ s.clock))
    ∧ (∃ (s : State) (a : Fin 44) (r : CeRun),
      let due := r.start + r.eLast + r.late
      let more := r.lastAt - due
      let c := max (due + more + 32) (if r.desc.opc = 6 then r.ackAt else 0)
      (s.ceRun a = some r) ∧ (s.perform (ceGo a) = s) ∧ (r.fin = none) ∧ ((∀ o ∈ r.ops, o.fin = true)) ∧ ((r.desc.opc = 6 → r.acks = 0 ∧ r.desc.f 431 400 ≤ r.landed)) ∧ (c ≤ s.clock))
    ∧ (∃ (s : State) (k : Tile) (q : Running), (s.ceRun k = none) ∧ (s.running k 2 = some q) ∧ (s.parts.ceOut.at k = []) ∧ (q.done ≤ s.clock)) :=
  ⟨⟨ceAt 0 8 (ceR 5 false []) [], 0, ceR 5 false [], ⟨by decide +kernel, by decide +kernel, by decide +kernel, by decide +kernel, by decide +kernel⟩, by decide +kernel⟩,
   ⟨ceAt 0 8 (ceR 1 true [⟨.send, 0, 1, 0, 64, 0, 0, [], 0, false⟩]) [.parts fun p => { p with ceTok := p.ceTok.set 0 [⟨1, 0, 0, 1, 0, 0x010001001000, (ceD 1).digest, 5⟩] }], 0, ceR 1 true [⟨.send, 0, 1, 0, 64, 0, 0, [], 0, false⟩], ⟨by decide +kernel, by decide +kernel, by decide +kernel, by decide +kernel, by decide +kernel⟩, by decide +kernel⟩,
   ⟨ceAt 0 8 (ceR 4 true []) [], 0, ceR 4 true [], ⟨by decide +kernel, by decide +kernel, by decide +kernel, by decide +kernel, by decide +kernel⟩, by decide +kernel⟩,
   ⟨ceAt 40 8 (ceR 5 false []) [], 40, ceR 5 false [], ⟨by decide +kernel, by decide +kernel, by decide +kernel, by decide +kernel, by decide +kernel⟩⟩,
   ⟨ceAt 0 (2 ^ 40) (ceR 5 true [⟨.tokenIn, 0, 1, 0, 0, 0, 0, [], 0, false⟩]) [], 0, ceR 5 true [⟨.tokenIn, 0, 1, 0, 0, 0, 0, [], 0, false⟩], by decide +kernel⟩,
   ⟨ceAt 40 (2 ^ 40) (ceR 5 true [⟨.tokenIn, 0, 1, 0, 0, 0, 0, [], 0, false⟩]) [], 40, ceR 5 true [⟨.tokenIn, 0, 1, 0, 0, 0, 0, [], 0, false⟩], by decide +kernel⟩,
   ⟨ceAt 0 8 (ceR 5 true []) [], 0, ceR 5 true [], by decide +kernel⟩,
   ⟨ceAt 0 32 (ceR 5 true []) [], 0, ceR 5 true [], by decide +kernel⟩,
   ⟨ceAt 40 32 (ceR 5 true []) [], 40, ceR 5 true [], by decide +kernel⟩,
   ⟨at_ 0 2 [on 0, .parts fun p => { p with running := p.running.put 2 (some ⟨ceD 1, 0, 2, 0x84, 0, 0, false⟩) }], 0, ⟨ceD 1, 0, 2, 0x84, 0, 0, false⟩, by decide +kernel⟩⟩

theorem witness_CollectiveTraffic :
    (∃ (s : State) (pt : Fin 5) (p : Packet) (rest : List Packet) (l off : Nat) (k : Tile), (s.parts.serving.at pt = p :: rest) ∧ (p.op = 0x04) ∧ (p.len = p.data.length) ∧ ((pt = 4 → s.refusal 0 false p = none)) ∧ (targetOf p.addr (max 1 p.data.length) = .tile l off) ∧ (l ≠ 63) ∧ (s.physOf l = some k.val) ∧ (s.ceRun k = none))
    ∧ (∃ (s : State) (pt : Fin 5) (p : Packet) (rest : List Packet) (l off : Nat) (k : Tile),
      let n := p.data.length
      let entry := p.srcNode + 65536 * p.srcTile
      (s.parts.serving.at pt = p :: rest) ∧ (p.op = 0x04) ∧ (p.len = p.data.length) ∧ ((pt = 4 → s.refusal 0 false p = none)) ∧ (targetOf p.addr (max 1 p.data.length) = .tile l off) ∧ (l ≠ 63) ∧ (s.physOf l = some k.val) ∧ (s.ceRun k = some (ceR 5 true []) ∧ s.ceAwaiting (ceR 5 true []) off n entry = none))
    ∧ (∃ (s : State) (pt : Fin 5) (p : Packet) (rest : List Packet) (l off : Nat) (k : Tile),
      let n := p.data.length
      let entry := p.srcNode + 65536 * p.srcTile
      (s.parts.serving.at pt = p :: rest) ∧ (p.op = 0x04) ∧ (p.len = p.data.length) ∧ ((pt = 4 → s.refusal 0 false p = none)) ∧ (targetOf p.addr (max 1 p.data.length) = .tile l off) ∧ (l ≠ 63) ∧ (s.physOf l = some k.val) ∧ (s.ceRun k = some (ceR 1 true [⟨.take, 0, 1, 0, 64, 0, 0, [], 0, false⟩]) ∧ s.ceAwaiting (ceR 1 true [⟨.take, 0, 1, 0, 64, 0, 0, [], 0, false⟩]) off n entry = some (0, 0)))
    ∧ (∃ (s : State) (pt : Fin 5) (p : Packet) (rest : List Packet) (l off : Nat) (k : Tile),
      let n := p.data.length
      let entry := p.srcNode + 65536 * p.srcTile
      (s.parts.serving.at pt = p :: rest) ∧ (p.op = 0x04) ∧ (p.len = p.data.length) ∧ ((pt = 4 → s.refusal 0 false p = none)) ∧ (targetOf p.addr (max 1 p.data.length) = .tile l off) ∧ (l ≠ 63) ∧ (s.physOf l = some k.val) ∧ (s.ceRun k = some (ceR 1 true [⟨.take, 0, 1, 0, 128, 0, 0, [], 0, false⟩]) ∧ s.ceAwaiting (ceR 1 true [⟨.take, 0, 1, 0, 128, 0, 0, [], 0, false⟩]) off n entry = some (0, 0)))
    ∧ (∃ (s : State) (pt : Fin 5) (p : Packet) (rest : List Packet) (l off : Nat) (k : Tile),
      let n := p.data.length
      let entry := p.srcNode + 65536 * p.srcTile
      (s.parts.serving.at pt = p :: rest) ∧ (p.op = 0x04) ∧ (p.len = p.data.length) ∧ ((pt = 4 → s.refusal 0 false p = none)) ∧ (targetOf p.addr (max 1 p.data.length) = .tile l off) ∧ (l ≠ 63) ∧ (s.physOf l = some k.val) ∧ (s.ceRun k = some (ceR 1 true [⟨.left, 0, 1, 0, 64, 0, 0, [], 0, false⟩]) ∧ s.ceAwaiting (ceR 1 true [⟨.left, 0, 1, 0, 64, 0, 0, [], 0, false⟩]) off n entry = some (0, 0)))
    ∧ (∃ (s : State) (pt : Fin 5) (p : Packet) (rest : List Packet) (l off : Nat) (k : Tile),
      let n := p.data.length
      let entry := p.srcNode + 65536 * p.srcTile
      (s.parts.serving.at pt = p :: rest) ∧ (p.op = 0x04) ∧ (p.len = p.data.length) ∧ ((pt = 4 → s.refusal 0 false p = none)) ∧ (targetOf p.addr (max 1 p.data.length) = .tile l off) ∧ (l ≠ 63) ∧ (s.physOf l = some k.val) ∧ (s.ceRun k = some (ceR 1 true [⟨.right, 0, 1, 0, 64, 0, 0, [], 0, false⟩]) ∧ s.ceAwaiting (ceR 1 true [⟨.right, 0, 1, 0, 64, 0, 0, [], 0, false⟩]) off n entry = some (0, 0)))
    ∧ (∃ (s : State) (pt : Fin 5) (p : Packet) (rest : List Packet) (l off : Nat) (k : Tile),
      let f := fun lo n => leNat ((p.data.drop lo).take n)
      let x : CeTok := ⟨f 0 1, f 1 1, f 2 2, f 4 2, f 6 1, f 8 6, f 16 4, s.clock⟩
      (s.parts.serving.at pt = p :: rest) ∧ (p.op = 0x30) ∧ (targetOf p.addr 1 = .tile l off) ∧ (l ≠ 63) ∧ (s.physOf l = some k.val) ∧ (s.tileReset (if pt.val = 4 then homeF k else pt.val) l k = false) ∧ (x.kind ≠ 2 ∧ s.ceRun k = none))
    ∧ (∃ (s : State) (pt : Fin 5) (p : Packet) (rest : List Packet) (l off : Nat) (k : Tile),
      let f := fun lo n => leNat ((p.data.drop lo).take n)
      let x : CeTok := ⟨f 0 1, f 1 1, f 2 2, f 4 2, f 6 1, f 8 6, f 16 4, s.clock⟩
      (s.parts.serving.at pt = p :: rest) ∧ (p.op = 0x30) ∧ (targetOf p.addr 1 = .tile l off) ∧ (l ≠ 63) ∧ (s.physOf l = some k.val) ∧ (s.tileReset (if pt.val = 4 then homeF k else pt.val) l k = false) ∧ (x.kind = 1 ∧ s.ceRun k = some (ceR 5 true []) ∧ x.comm = (ceR 5 true []).desc.f 295 288 ∧ x.seq = (ceR 5 true []).seq ∧ x.digest ≠ (ceR 5 true []).desc.digest))
    ∧ (∃ (s : State) (pt : Fin 5) (p : Packet) (rest : List Packet) (l off : Nat) (k : Tile),
      let f := fun lo n => leNat ((p.data.drop lo).take n)
      let x : CeTok := ⟨f 0 1, f 1 1, f 2 2, f 4 2, f 6 1, f 8 6, f 16 4, s.clock⟩
      (s.parts.serving.at pt = p :: rest) ∧ (p.op = 0x30) ∧ (targetOf p.addr 1 = .tile l off) ∧ (l ≠ 63) ∧ (s.physOf l = some k.val) ∧ (s.tileReset (if pt.val = 4 then homeF k else pt.val) l k = false) ∧ (x.kind = 2 ∧ s.ceRun k = some (ceR 5 true []) ∧ (ceR 5 true []).fin = none ∧ (ceR 5 true []).desc.f 295 288 = x.comm ∧ (ceR 5 true []).seq = x.seq))
    ∧ (∃ (s : State) (pt : Fin 5) (p : Packet) (rest : List Packet) (l off : Nat) (k : Tile),
      let f := fun lo n => leNat ((p.data.drop lo).take n)
      let x : CeTok := ⟨f 0 1, f 1 1, f 2 2, f 4 2, f 6 1, f 8 6, f 16 4, s.clock⟩
      (s.parts.serving.at pt = p :: rest) ∧ (p.op = 0x30) ∧ (targetOf p.addr 1 = .tile l off) ∧ (l ≠ 63) ∧ (s.physOf l = some k.val) ∧ (s.tileReset (if pt.val = 4 then homeF k else pt.val) l k = false) ∧ (x.kind = 2 ∧ s.ceRun k = none ∧ seqBefore x.seq (s.vr .CE_SEQ k x.comm) = true))
    ∧ (∃ (s : State) (pt : Fin 5) (p : Packet) (rest : List Packet) (l off : Nat) (k : Tile),
      let f := fun lo n => leNat ((p.data.drop lo).take n)
      let x : CeTok := ⟨f 0 1, f 1 1, f 2 2, f 4 2, f 6 1, f 8 6, f 16 4, s.clock⟩
      (s.parts.serving.at pt = p :: rest) ∧ (p.op = 0x30) ∧ (targetOf p.addr 1 = .tile l off) ∧ (l ≠ 63) ∧ (s.physOf l = some k.val) ∧ (s.tileReset (if pt.val = 4 then homeF k else pt.val) l k = false) ∧ (x.kind = 2 ∧ s.ceRun k = none ∧ seqBefore x.seq (s.vr .CE_SEQ k x.comm) = false ∧ ¬ (s.vr .CE_ABSEQ k x.comm = x.seq + 1 ∧ s.clock < s.vr .CE_STALE k x.comm)))
    ∧ (∃ (s : State) (j : Fin 4),
      let d := s.slotDesc j
      let comm := d.f 295 288
      let c := s.ceCtx 0 comm 63
      let good := d.opc ∈ [1, 4, 5] ∧ ceBadPlan c d (c.named d) = false
      (s.domOn 164 = true) ∧ (s.rd .CE_TRIG_CTL_STATE 0 j ≠ 2) ∧ (good ∧ s.gtc = s.rd .CE_TRIG_AT_AT 0 j ∧ s.gtc ≠ 0))
    ∧ (∃ (s : State) (j : Fin 4),
      let d := s.slotDesc j
      let comm := d.f 295 288
      let c := s.ceCtx 0 comm 63
      let good := d.opc ∈ [1, 4, 5] ∧ ceBadPlan c d (c.named d) = false
      (s.domOn 164 = true) ∧ (s.rd .CE_TRIG_CTL_STATE 0 j ≠ 2) ∧ (¬ good)) :=
  ⟨⟨st [on 0, wr .NI_MAP_VALID 1 0 0, .parts fun q => { q with serving := q.serving.set 0 [pk 4 1099511631872 64 (List.replicate 64 1)] }], 0, pk 4 1099511631872 64 (List.replicate 64 1), [], 0, 0x1000, 0, by decide +kernel⟩,
   ⟨ceAt 0 8 (ceR 5 true []) [.parts fun q => { q with serving := q.serving.set 0 [pk 4 1099511631872 64 (List.replicate 64 1)] }], 0, pk 4 1099511631872 64 (List.replicate 64 1), [], 0, 0x1000, 0, by decide +kernel⟩,
   ⟨ceAt 0 8 (ceR 1 true [⟨.take, 0, 1, 0, 64, 0, 0, [], 0, false⟩]) [.parts fun q => { q with serving := q.serving.set 0 [pk 4 1099511631872 64 (List.replicate 64 1)] }], 0, pk 4 1099511631872 64 (List.replicate 64 1), [], 0, 0x1000, 0, by decide +kernel⟩,
   ⟨ceAt 0 8 (ceR 1 true [⟨.take, 0, 1, 0, 128, 0, 0, [], 0, false⟩]) [.parts fun q => { q with serving := q.serving.set 0 [pk 4 1099511631872 64 (List.replicate 64 1)] }], 0, pk 4 1099511631872 64 (List.replicate 64 1), [], 0, 0x1000, 0, by decide +kernel⟩,
   ⟨ceAt 0 8 (ceR 1 true [⟨.left, 0, 1, 0, 64, 0, 0, [], 0, false⟩]) [.parts fun q => { q with serving := q.serving.set 0 [pk 4 1099511631872 64 (List.replicate 64 1)] }], 0, pk 4 1099511631872 64 (List.replicate 64 1), [], 0, 0x1000, 0, by decide +kernel⟩,
   ⟨ceAt 0 8 (ceR 1 true [⟨.right, 0, 1, 0, 64, 0, 0, [], 0, false⟩]) [.parts fun q => { q with serving := q.serving.set 0 [pk 4 1099511631872 64 (List.replicate 64 1)] }], 0, pk 4 1099511631872 64 (List.replicate 64 1), [], 0, 0x1000, 0, by decide +kernel⟩,
   ⟨st [on 0, wr .NI_MAP_VALID 1 0 0, .parts fun q => { q with serving := q.serving.set 0 [pk 0x30 0x010000000000 20 ([1, 0] ++ leBytes 2 0 ++ [1, 0, 0, 0] ++ leBytes 8 0 ++ leBytes 4 0)] }], 0, pk 0x30 0x010000000000 20 ([1, 0] ++ leBytes 2 0 ++ [1, 0, 0, 0] ++ leBytes 8 0 ++ leBytes 4 0), [], 0, 0, 0, by decide +kernel⟩,
   ⟨ceAt 0 8 (ceR 5 true []) [.parts fun q => { q with serving := q.serving.set 0 [pk 0x30 0x010000000000 20 ([1, 0] ++ leBytes 2 0 ++ [1, 0, 0, 0] ++ leBytes 8 0 ++ leBytes 4 ((ceD 5).digest ^^^ 1))] }], 0, pk 0x30 0x010000000000 20 ([1, 0] ++ leBytes 2 0 ++ [1, 0, 0, 0] ++ leBytes 8 0 ++ leBytes 4 ((ceD 5).digest ^^^ 1)), [], 0, 0, 0, by decide +kernel⟩,
   ⟨ceAt 0 8 (ceR 5 true []) [.parts fun q => { q with serving := q.serving.set 0 [pk 0x30 0x010000000000 20 ([2, 0] ++ leBytes 2 0 ++ [1, 0, 0, 0] ++ leBytes 8 0 ++ leBytes 4 0)] }], 0, pk 0x30 0x010000000000 20 ([2, 0] ++ leBytes 2 0 ++ [1, 0, 0, 0] ++ leBytes 8 0 ++ leBytes 4 0), [], 0, 0, 0, by decide +kernel⟩,
   ⟨st [on 0, wr .NI_MAP_VALID 1 0 0, wv .CE_SEQ 1 0 0, .parts fun q => { q with serving := q.serving.set 0 [pk 0x30 0x010000000000 20 ([2, 0] ++ leBytes 2 0 ++ [1, 0, 0, 0] ++ leBytes 8 0 ++ leBytes 4 0)] }], 0, pk 0x30 0x010000000000 20 ([2, 0] ++ leBytes 2 0 ++ [1, 0, 0, 0] ++ leBytes 8 0 ++ leBytes 4 0), [], 0, 0, 0, by decide +kernel⟩,
   ⟨st [on 0, wr .NI_MAP_VALID 1 0 0, .parts fun q => { q with serving := q.serving.set 0 [pk 0x30 0x010000000000 20 ([2, 0] ++ leBytes 2 0 ++ [1, 0, 0, 0] ++ leBytes 8 0 ++ leBytes 4 0)] }], 0, pk 0x30 0x010000000000 20 ([2, 0] ++ leBytes 2 0 ++ [1, 0, 0, 0] ++ leBytes 8 0 ++ leBytes 4 0), [], 0, 0, 0, by decide +kernel⟩,
   ⟨at_ 5 0 ([on 164, wr .CE_TRIG_AT_AT 5 0 3, wr .CE_TRIG_CTL_OPC 5 0 3, wr .CE_TRIG_CTL_LVL_MASK 1 0 3] ++ comm0 0 63), 3, by decide +kernel⟩,
   ⟨st [on 164], 3, by decide +kernel⟩⟩


/-- The firmware works for mailbox m, which holds an acknowledged command with its request. -/
def mbx (m g cmd : Nat) (req : List Byte) (l : List Act) : State :=
  at_ g 0 ([on 169, wr .MB_STAT_FW_READY 1, wr .MB_OWN_OWN (2 ^ m)]
    ++ putBytes (mboxBase m) ([3, 0] ++ leBytes 2 cmd ++ [0, 3, 0, 0] ++ leBytes 2 req.length) ++ putBytes (mboxBase m + 64) req ++ l)

/-- Every F-die's interface is ON. -/
def facesOn : List Act := [on 164, on 165, on 166, on 167]

theorem witness_HostQueriesAndSettings :
    (∃ (s : State) (m : Fin 64), s.serves m 0x0001 = true)
    ∧ (∃ (s : State) (m : Fin 64), s.serves m 0x0002 = true)
    ∧ (∃ (s : State) (m : Fin 64), s.serves m 0x0003 = true)
    ∧ (∃ (s : State) (m : Fin 64), s.serves m 0x0401 = true)
    ∧ (∃ (s : State) (m : Fin 64), s.serves m 0x0402 = true)
    ∧ (∃ (s : State) (m : Fin 64) (f : Func), s.serves m 0x0102 = true ∧ s.funcOf (s.mbArg m 0 2) = some f)
    ∧ (∃ (s : State) (m : Fin 64) (r : RestoreRun), s.serves m 0x0309 = true ∧ s.parts.restore = some r ∧ r.jobId = s.mbArg m 0 8)
    ∧ (∃ (s : State) (m : Fin 64), s.serves m 0x0309 = true ∧ s.parts.restore = none)
    ∧ (∃ (s : State) (m : Fin 64), s.serves m 0x0103 = true)
    ∧ (∃ (s : State) (m : Fin 64), s.serves m 0x0201 = true ∧ s.linksUp = true)
    ∧ (∃ (s : State) (m : Fin 64), s.serves m 0x0201 = true ∧ s.linksUp = false ∧ (∀ f < 4, s.domOn (164 + f) = true))
    ∧ (∃ (s : State) (m : Fin 64), s.serves m 0x0202 = true)
    ∧ (∃ (s : State) (m : Fin 64), s.serves m 0x0203 = true ∧ s.mbArg m 0 1 < 4 ∧ s.mbArg m 1 1 < 16 ∧ s.mbArg m 2 1 = 0)
    ∧ (∃ (s : State) (m : Fin 64), s.serves m 0x0203 = true ∧ s.mbArg m 0 1 < 4 ∧ s.mbArg m 1 1 < 16 ∧ s.mbArg m 2 1 = 1)
    ∧ (∃ (s : State) (m : Fin 64), s.serves m 0x0203 = true ∧ s.mbArg m 0 1 < 4 ∧ s.mbArg m 1 1 < 16 ∧ s.mbArg m 2 1 = 2)
    ∧ (∃ (s : State) (m : Fin 64), s.serves m 0x0203 = true ∧ s.mbArg m 0 1 < 4 ∧ s.mbArg m 1 1 < 16 ∧ s.mbArg m 2 1 = 3)
    ∧ (∃ (s : State) (m : Fin 64), s.serves m 0x0204 = true ∧ s.domOn 171 = true ∧ s.mbArg m 0 1 < 4)
    ∧ (∃ (s : State) (m : Fin 64), s.serves m 0x0205 = true ∧ (∀ f < 4, s.domOn (164 + f) = true))
    ∧ (∃ (s : State) (m : Fin 64), s.serves m 0x0206 = true ∧ (∀ f < 4, s.domOn (164 + f) = true) ∧ (∀ f < 4, s.rd .NI_REPL_SIZE_FLIP_PEND f (s.mbArg m 0 1) ≠ 1) ∧ gtcBefore s.gtc (s.mbArg m 8 8) = true) :=
  ⟨⟨mbx 63 0 0x0001 [] [], 63, by decide +kernel⟩,
   ⟨mbx 63 0 0x0002 [] [], 63, by decide +kernel⟩,
   ⟨mbx 63 0 0x0003 [] [], 63, by decide +kernel⟩,
   ⟨mbx 63 0 0x0401 [] [], 63, by decide +kernel⟩,
   ⟨mbx 63 0 0x0402 [] [], 63, by decide +kernel⟩,
   ⟨mbx 63 0 0x0102 [173, 0] [], 63, .dom 173, by decide +kernel⟩,
   ⟨mbx 63 0 0x0309 [] [.parts fun p => { p with restore := some ⟨0, 0, 0, 0, 0, 0, 0, 0, 0, [], false, 0, []⟩ }], 63, ⟨0, 0, 0, 0, 0, 0, 0, 0, 0, [], false, 0, []⟩, by decide +kernel⟩,
   ⟨mbx 63 0 0x0309 [] [], 63, by decide +kernel⟩,
   ⟨mbx 63 0 0x0103 [0x90, 1] [], 63, by decide +kernel⟩,
   ⟨mbx 63 0 0x0201 [] [wr .FL_STAT_STATE 5 63], 63, by decide +kernel⟩,
   ⟨mbx 63 0 0x0201 [7, 0] facesOn, 63, by decide +kernel⟩,
   ⟨mbx 63 0 0x0202 (leBytes 2 1) [], 63, by decide +kernel⟩,
   ⟨mbx 63 0 0x0203 [3, 15, 0, 0, 15, 0, 0, 0] [], 63, by decide +kernel⟩,
   ⟨mbx 63 0 0x0203 [3, 15, 1, 0, 15, 0, 0, 0] [], 63, by decide +kernel⟩,
   ⟨mbx 63 0 0x0203 [3, 15, 2, 0, 15, 0, 0, 0] [], 63, by decide +kernel⟩,
   ⟨mbx 63 0 0x0203 [3, 15, 3, 0, 15, 0, 0, 0] [], 63, by decide +kernel⟩,
   ⟨mbx 63 0 0x0204 [3] [on 171], 63, by decide +kernel⟩,
   ⟨mbx 63 0 0x0205 [63] facesOn, 63, by decide +kernel⟩,
   ⟨mbx 63 0 0x0206 (leBytes 8 63 ++ leBytes 8 52500) facesOn, 63, by decide +kernel⟩⟩

theorem witness_HostService :
    (∃ (s : State) (m : Fin 64) (port : Fin 2) (_seq : BitVec 8) (_cmd : BitVec 16) (_ifver : BitVec 8) (_len : BitVec 16) (_tag : W64) (_payload : List Byte),
      let mine := bitOf (s.rd .MB_PORT_MAP_PORT) m = port.val
      (s.domOn (172 + port) = true) ∧ (s.domOn 169 = true) ∧ (¬ mine))
    ∧ (∃ (s : State) (m : Fin 64) (port : Fin 2) (_seq : BitVec 8) (_cmd : BitVec 16) (_ifver : BitVec 8) (_len : BitVec 16) (_tag : W64) (_payload : List Byte),
      let mine := bitOf (s.rd .MB_PORT_MAP_PORT) m = port.val
      (s.domOn (172 + port) = true) ∧ (s.domOn 169 = true) ∧ (mine ∧ s.mbOwn m = true))
    ∧ (∃ (s : State) (m : Fin 64) (port : Fin 2) (_seq : BitVec 8) (_cmd : BitVec 16) (_ifver : BitVec 8) (_len : BitVec 16) (_tag : W64) (_payload : List Byte),
      let mine := bitOf (s.rd .MB_PORT_MAP_PORT) m = port.val
      (s.domOn (172 + port) = true) ∧ (s.domOn 169 = true) ∧ (mine ∧ s.mbOwn m = false))
    ∧ (∃ (s : State) (_n : BitVec 16),
      let refused := fun (m : Nat) => cmdKnown (s.mbCmd m) = false ∨ 4032 < s.mbReqLen m ∨ s.num (mboxBase m + 5) 1 ≠ 3 ∨ s.reqBad m = true
      (s.periodDue = true) ∧ (testB (s.rd .MB_PEND_PEND) 63 = true ∧ ¬ refused 63))
    ∧ (∃ (s : State) (_n : BitVec 16),
      let refused := fun (m : Nat) => cmdKnown (s.mbCmd m) = false ∨ 4032 < s.mbReqLen m ∨ s.num (mboxBase m + 5) 1 ≠ 3 ∨ s.reqBad m = true
      (s.periodDue = true) ∧ (testB (s.rd .MB_PEND_PEND) 63 = true ∧ refused 63))
    ∧ (∃ s : State, (s.fwReady = true) ∧ (8 * 2 ^ s.rd .MB_STAT_TELEM_SHIFT ≤ s.vr .PERIOD_CNT))
    ∧ (∃ (s : State) (m : Fin 64) (f : Func),
      let on := (s.mbArg m 2 1 == 1) = true
      (s.serves m 0x0101 = true) ∧ (s.vr .MB_BEGUN 0 m ≠ 1) ∧ (s.funcOf (s.mbArg m 0 2) = some f) ∧ (s.fstate f = 1 ∧ on ∧ s.pendEn f = 0 ∧ s.pendDis f = 0 ∧ staggered f = false))
    ∧ (∃ (s : State) (m : Fin 64) (f : Func),
      let on := (s.mbArg m 2 1 == 1) = true
      (s.serves m 0x0101 = true) ∧ (s.vr .MB_BEGUN 0 m ≠ 1) ∧ (s.funcOf (s.mbArg m 0 2) = some f) ∧ (s.fstate f = 3 ∧ on ∧ s.pendEn f = 0 ∧ s.pendDis f = 0 ∧ staggered f = false))
    ∧ (∃ (s : State) (m : Fin 64) (f : Func),
      let on := (s.mbArg m 2 1 == 1) = true
      (s.serves m 0x0101 = true) ∧ (s.vr .MB_BEGUN 0 m ≠ 1) ∧ (s.funcOf (s.mbArg m 0 2) = some f) ∧ (s.fstate f = 2 ∧ on ∧ s.pendEn f = 0 ∧ s.pendDis f = 0 ∧ staggered f = false))
    ∧ (∃ (s : State) (m : Fin 64) (f : Func),
      let on := (s.mbArg m 2 1 == 1) = true
      (s.serves m 0x0101 = true) ∧ (s.vr .MB_BEGUN 0 m ≠ 1) ∧ (s.funcOf (s.mbArg m 0 2) = some f) ∧ (s.fstate f = 0 ∧ ¬ on ∧ s.pendEn f = 0 ∧ s.pendDis f = 0 ∧ staggered f = false))
    ∧ (∃ (s : State) (m : Fin 64) (f : Func),
      let on := (s.mbArg m 2 1 == 1) = true
      (s.serves m 0x0101 = true) ∧ (s.vr .MB_BEGUN 0 m ≠ 1) ∧ (s.funcOf (s.mbArg m 0 2) = some f) ∧ (s.fstate f = 0 ∧ on ∧ s.pendEn f = 0 ∧ s.pendDis f = 0 ∧ staggered f = false))
    ∧ (∃ (s : State) (m : Fin 64), (s.serves m 0x0104 = true) ∧ (s.vr .MB_BEGUN 0 m ≠ 1) ∧ (s.jobActive = true))
    ∧ (∃ (s : State) (m : Fin 64), (s.serves m 0x0104 = true) ∧ (s.vr .MB_BEGUN 0 m ≠ 1) ∧ (s.jobActive = false ∧ ∃ d < 80, s.dom d = 2))
    ∧ (∃ (s : State) (m : Fin 64), (s.waitsEvents m = true) ∧ (s.firstWaiter m = true ∧ s.parts.events ≠ []))
    ∧ (∃ (s : State) (m : Fin 64), (s.waitsEvents m = true) ∧ (s.mbArg m 0 8 ≠ 0 ∧ s.ackGtc m + s.mbArg m 0 8 ≤ s.gtc)) :=
  ⟨⟨st [on 169, on 172], 63, 0, 0, 1, 3, 0, 0, [], by decide +kernel⟩,
   ⟨st [on 169, on 173, wr .MB_OWN_OWN (2 ^ 63)], 63, 1, 0, 1, 3, 0, 0, [], by decide +kernel⟩,
   ⟨st [on 169, on 173], 63, 1, 0, 1, 3, 0, 0, [], by decide +kernel⟩,
   ⟨mbx 63 26250 0x0001 [] [wr .MB_PEND_PEND (2 ^ 63), .byte (mboxBase 63) 1], 0, by decide +kernel⟩,
   ⟨mbx 63 26250 0x0000 [] [wr .MB_PEND_PEND (2 ^ 63), .byte (mboxBase 63) 1], 0, by decide +kernel⟩,
   ⟨st [on 169, wr .MB_STAT_FW_READY 1, wv .PERIOD_CNT 0xFFFF], by decide +kernel⟩,
   ⟨mbx 63 0 0x0101 (leBytes 2 80 ++ [1]) [wr .PM_DOM_FSTATE 1 0 80], 63, .dom 80, by decide +kernel⟩,
   ⟨mbx 63 0 0x0101 (leBytes 2 80 ++ [1]) [wr .PM_DOM_FSTATE 3 0 80], 63, .dom 80, by decide +kernel⟩,
   ⟨mbx 63 0 0x0101 (leBytes 2 80 ++ [1]) [wr .PM_DOM_FSTATE 2 0 80], 63, .dom 80, by decide +kernel⟩,
   ⟨mbx 63 0 0x0101 (leBytes 2 80 ++ [0]) [wr .PM_DOM_FSTATE 0 0 80], 63, .dom 80, by decide +kernel⟩,
   ⟨mbx 63 0 0x0101 (leBytes 2 80 ++ [1]) [wr .PM_DOM_FSTATE 0 0 80], 63, .dom 80, by decide +kernel⟩,
   ⟨mbx 63 0 0x0104 [] [.parts fun p => { p with jobs := p.jobs.put 0 (some ⟨0, 0, 0, 1, 0, 0, 0, [], 0, 0, 0, [], 0, 0, false, false, 0, 0, 0, 0, 0, 0⟩) }], 63, by decide +kernel⟩,
   ⟨mbx 63 0 0x0104 [] [on 39, on 79], 63, by decide +kernel⟩,
   ⟨mbx 63 0 0x0403 [] [.parts fun p => { p with events := [⟨0, 5, 0, 0, []⟩] }], 63, by decide +kernel⟩,
   ⟨mbx 63 5 0x0403 (leBytes 8 5) [], 63, by decide +kernel⟩⟩


/-- The package is ready for jobs: its stacks are up, its time is locked and every rennet core runs. -/
def ready : List Act :=
  (List.range 20).flatMap (fun c => [on (80 + c), wr .LS_STAT_INIT_DONE 1 c]) ++
    (List.range 40).map (fun k => wv .RENNET_RUN 1 k) ++ [wr .GT_STAT_LOCKED 1]

/-- A layout at 0x10000 of one curd in tile 0 of node 0, with 64 bytes of its store. -/
def layout1 : List Act :=
  let e := leBytes 32 (2 ^ 64)
  putBytes 0x10000 (leBytes 2 1 ++ leBytes 4 0 ++ leBytes 2 1 ++ leBytes 4 1 ++ leBytes 32 42750998377025458543283982321149611933455961525500128352560289385648938500266) ++ putBytes 0x10040 e

/-- A JOB_SETUP request for job j with that layout and the nodes at 0x20000. -/
def setupReq (j ts nodes : Nat) : List Byte :=
  leBytes 16 0 ++ [BitVec.ofNat 8 j, 1, 1, 0] ++ leBytes 4 ts ++ leBytes 4 0 ++ leBytes 4 0 ++ leBytes 8 0x10000 ++ leBytes 8 nodes ++ leBytes 8 0x20000

theorem witness_JobSetup :
    (∃ (s : State) (m : Fin 64) (_agree : Bool), (s.serves m 0x0301 = true) ∧ (s.jobReady = false))
    ∧ (∃ (s : State) (m : Fin 64) (_agree : Bool),
      let a := s.mbArg m
      let j := a 16 1
      (s.serves m 0x0301 = true) ∧ (s.jobReady = true ∧ (s.jobAt j).isSome = true))
    ∧ (∃ (s : State) (m : Fin 64) (_agree : Bool),
      let a := s.mbArg m
      let y := s.layoutAt (a 32 8 % 2 ^ 48)
      let j := a 16 1
      let bad := s.layoutInvalid y (s.reqNodes m) = true
      (s.serves m 0x0301 = true) ∧ (s.jobReady = true ∧ s.jobAt j = none ∧ bad))
    ∧ (∃ (s : State) (m : Fin 64) (_agree : Bool),
      let a := s.mbArg m
      let y := s.layoutAt (a 32 8 % 2 ^ 48)
      let j := a 16 1
      let bad := s.layoutInvalid y (s.reqNodes m) = true
      let tooBig := y.overLimit (a 20 4) (a 24 4) = true
      (s.serves m 0x0301 = true) ∧ (s.jobReady = true ∧ s.jobAt j = none ∧ ¬ bad ∧ tooBig))
    ∧ (∃ (s : State) (m : Fin 64) (_agree : Bool),
      let a := s.mbArg m
      let y := s.layoutAt (a 32 8 % 2 ^ 48)
      let j := a 16 1
      let bad := s.layoutInvalid y (s.reqNodes m) = true
      let tooBig := y.overLimit (a 20 4) (a 24 4) = true
      (s.serves m 0x0301 = true) ∧ (s.jobReady = true ∧ s.jobAt j = none ∧ j < 64 ∧ ¬ bad ∧ ¬ tooBig))
    ∧ (∃ (s : State) (j : Fin 64) (x : Job), (s.jobAt j = some x) ∧ (s.fwReady = true) ∧ (x.posted = false) ∧ (gtcBefore s.gtc x.readyAt = false) ∧ (gtcBefore s.gtc x.streamsAt = false) ∧ (s.parts.events.length < 4096)) :=
  ⟨⟨mbx 63 0 0x0301 (setupReq 0 1 1) ([]), 63, false, by decide +kernel⟩,
   ⟨mbx 63 0 0x0301 (setupReq 0 1 1) (ready ++ [.parts fun p => { p with jobs := p.jobs.put 0 (some ⟨0, 0, 0, 1, 0, 0, 0, [], 0, 0, 0, [], 0, 0, false, false, 0, 0, 0, 0, 0, 0⟩) }]), 63, false, by decide +kernel⟩,
   ⟨mbx 63 0 0x0301 (setupReq 63 1 1) (ready), 63, false, by decide +kernel⟩,
   ⟨mbx 63 0 0x0301 (setupReq 63 0 1) (ready ++ layout1), 63, false, by decide +kernel⟩,
   ⟨mbx 63 0 0x0301 (setupReq 63 1 1) (ready ++ layout1), 63, false, by decide +kernel⟩,
   ⟨at_ 5 0 [on 169, wr .MB_STAT_FW_READY 1, .parts fun p => { p with jobs := p.jobs.put 63 (some ⟨0, 0, 0, 1, 0, 0, 0, [], 0, 0, 0, [], 0, 0, false, false, 0, 0, 0, 0, 0, 0⟩) }], 63, ⟨0, 0, 0, 1, 0, 0, 0, [], 0, 0, 0, [], 0, 0, false, false, 0, 0, 0, 0, 0, 0⟩, by decide +kernel⟩⟩

theorem witness_Checkpoints :
    (∃ (s : State) (m : Fin 64) (j : Job), (s.serves m 0x0307 = true) ∧ (s.jobAt (s.mbArg m 0 1) = some j) ∧ (j.opened = 0))
    ∧ (∃ (s : State) (m : Fin 64) (j : Job),
      let a := s.mbArg m
      (s.serves m 0x0307 = true) ∧ (s.jobAt (s.mbArg m 0 1) = some j) ∧ (j.opened ≠ 0 ∧ s.parts.ck.find (a 0 1) = some ⟨⟨1, 0, 1, false, [], 0⟩, none, 5, [], []⟩))
    ∧ (∃ (s : State) (n : Fin 64) (step : W64) (orders : List TileOrder) (j : Job) (k : Ck) (p : CkPolicy),
      let idle := ∀ o ∈ orders, s.domOn o.tile = true ∧ s.rd .MB_F2T_CTL_OWN o.tile = 0
      (s.jobAt n = some j) ∧ (s.parts.ck.find n = some k) ∧ (s.fwReady = true) ∧ (j.opened ≠ 0) ∧ (s.scheduled = true) ∧ (j.step ≤ step.toNat) ∧ (gtcBefore (s.stepOpen j step.toNat) s.gtc = false) ∧ (s.triggers j k step.toNat = true) ∧ ((∀ g ∈ k.gens, g.step ≠ step.toNat)) ∧ (k.at step.toNat = some p) ∧ (k.gens = [] ∧ idle ∧ orders.Pairwise (fun a b => a.tile ≠ b.tile)))
    ∧ (∃ (s : State) (n : Fin 64) (step : W64) (_orders : List TileOrder) (j : Job) (k : Ck) (p : CkPolicy), (s.jobAt n = some j) ∧ (s.parts.ck.find n = some k) ∧ (s.fwReady = true) ∧ (j.opened ≠ 0) ∧ (s.scheduled = true) ∧ (j.step ≤ step.toNat) ∧ (gtcBefore (s.stepOpen j step.toNat) s.gtc = false) ∧ (s.triggers j k step.toNat = true) ∧ ((∀ g ∈ k.gens, g.step ≠ step.toNat)) ∧ (k.at step.toNat = some p) ∧ (k.gens ≠ []))
    ∧ (∃ (s : State) (n : Fin 64) (_entry : BitVec 48) (_p1 _p2 : Place) (j : Job) (k : Ck) (p : CkPolicy) (c : Nat), (s.CutDue n j k p c) ∧ (∃ x ∈ k.gens, x.step ≠ c))
    ∧ (∃ (s : State) (n : Fin 64) (_entry : BitVec 48) (_p1 _p2 : Place) (j : Job) (k : Ck) (p : CkPolicy) (c : Nat), (s.CutDue n j k p c) ∧ ((∀ x ∈ k.gens, x.step = c) ∧ s.node 0 ≠ j.root))
    ∧ (∃ (s : State) (n : Fin 64) (kind : Fin 3) (curd : BitVec 16) (j : Job) (g : CkGen) (x : Shard), (s.jobAt n = some j) ∧ (s.cutGen n = some g) ∧ (s.fwReady = true) ∧ ((g.shards.find? fun x => x.kind == kind.val && x.curd == curd.toNat && x.host && !x.stored) = some x))
    ∧ (∃ (s : State) (n : Fin 64) (_others : List Shard) (_places : List (BitVec 48)) (_status : Byte) (j : Job) (k : Ck) (g : CkGen), (s.jobAt n = some j) ∧ (s.parts.ck.find n = some k) ∧ (s.cutGen n = some g) ∧ (s.fwReady = true) ∧ (s.node 0 ≠ j.root))
    ∧ (∃ (s : State) (n : Fin 64) (others : List Shard) (_places : List (BitVec 48)) (_status : Byte) (j : Job) (k : Ck) (g : CkGen),
      let y := s.layoutAt j.layoutAddr
      let l := g.shards ++ others
      (s.jobAt n = some j) ∧ (s.parts.ck.find n = some k) ∧ (s.cutGen n = some g) ∧ (s.fwReady = true) ∧ (s.node 0 = j.root ∧ k.at g.step = some ⟨1, 0, 1, false, [], 0⟩ ∧ complete_ y.curds l = true ∧ mixed l = true))
    ∧ (∃ (s : State) (n : Fin 64) (others : List Shard) (_places : List (BitVec 48)) (_status : Byte) (j : Job) (k : Ck) (g : CkGen),
      let y := s.layoutAt j.layoutAddr
      let l := g.shards ++ others
      (s.jobAt n = some j) ∧ (s.parts.ck.find n = some k) ∧ (s.cutGen n = some g) ∧ (s.fwReady = true) ∧ (s.node 0 = j.root ∧ k.at g.step = some ⟨1, 0, 1, false, [], 0⟩ ∧ complete_ y.curds l = true ∧ mixed l = false))
    ∧ (∃ (s : State) (n : Fin 64) (others : List Shard) (j : Job) (k : Ck) (g : CkGen) (p : CkPolicy), (s.jobAt n = some j) ∧ (s.parts.ck.find n = some k) ∧ (s.cutGen n = some g) ∧ (k.at g.step = some p) ∧ (s.fwReady = true) ∧ (gtcBefore s.gtc ((g.cut - 1 + (p.ckFrames + 8) * s.rd .GT_FRAME_CUR_LEN) % 2 ^ 64) = false) ∧ (complete_ (s.layoutAt j.layoutAddr).curds ((g.shards ++ others).map fun x => { x with stored := true }) = false)) :=
  ⟨⟨mbx 63 0 0x0307 ([63, 0, 0, 0] ++ leBytes 4 1 ++ leBytes 8 0 ++ [1, 0, 1]) [.parts fun p => { p with jobs := p.jobs.put 63 (some ⟨0, 0, 0, 1, 0, 0, 0, [0], 0, 0, 1, [], 0, 0, false, false, 0, 0, 1, 0, 0, 0⟩) }], 63, ⟨0, 0, 0, 1, 0, 0, 0, [0], 0, 0, 1, [], 0, 0, false, false, 0, 0, 1, 0, 0, 0⟩, by decide +kernel⟩,
   ⟨mbx 63 0 0x0307 ([63, 0, 0, 0] ++ leBytes 4 1 ++ leBytes 8 0 ++ [1, 0, 1]) [wr .GT_FRAME_CUR_LEN 10, .parts fun p => { p with jobs := p.jobs.put 63 (some ⟨0, 0, 0, 1, 0, 0, 0, [0], 0, 0, 1, [], 0, 0, false, false, 0, 0, 1, 0, 1, 0⟩) }, .parts fun p => { p with ck := p.ck.put 63 (some ⟨⟨1, 0, 1, false, [], 0⟩, none, 5, [], []⟩) }], 63, ⟨0, 0, 0, 1, 0, 0, 0, [0], 0, 0, 1, [], 0, 0, false, false, 0, 0, 1, 0, 1, 0⟩, by decide +kernel⟩,
   ⟨st [on 169, wr .MB_STAT_FW_READY 1, on 0, wr .GT_FRAME_CUR_LEN 10, .parts fun p => { p with jobs := p.jobs.put 63 (some ⟨0, 0, 0, 1, 0, 0, 0, [0], 0, 0, 1, [], 0, 0, false, false, 0, 0, 1, 0, 1, 0⟩) }, .parts fun p => { p with ck := p.ck.put 63 (some ⟨⟨1, 0, 1, false, [], 0⟩, none, 5, [], []⟩) }], 63, 0, [⟨0, 7, 0, []⟩], ⟨0, 0, 0, 1, 0, 0, 0, [0], 0, 0, 1, [], 0, 0, false, false, 0, 0, 1, 0, 1, 0⟩, ⟨⟨1, 0, 1, false, [], 0⟩, none, 5, [], []⟩, ⟨1, 0, 1, false, [], 0⟩, by decide +kernel⟩,
   ⟨st [on 169, wr .MB_STAT_FW_READY 1, wr .GT_FRAME_CUR_LEN 10, .parts fun p => { p with jobs := p.jobs.put 63 (some ⟨0, 0, 0, 1, 0, 0, 0, [0], 0, 0, 1, [], 0, 0, false, false, 0, 0, 1, 0, 1, 0⟩) }, .parts fun p => { p with ck := p.ck.put 63 (some ⟨⟨1, 0, 1, false, [], 0⟩, none, 5, [⟨5, 9, [], [], false, 0, []⟩], []⟩) }], 63, 0, [], ⟨0, 0, 0, 1, 0, 0, 0, [0], 0, 0, 1, [], 0, 0, false, false, 0, 0, 1, 0, 1, 0⟩, ⟨⟨1, 0, 1, false, [], 0⟩, none, 5, [⟨5, 9, [], [], false, 0, []⟩], []⟩, ⟨1, 0, 1, false, [], 0⟩, by decide +kernel⟩,
   ⟨at_ 10 0 [on 169, wr .MB_STAT_FW_READY 1, wr .GT_FRAME_CUR_LEN 10, wv .TICK_AT 11, .parts fun p => { p with jobs := p.jobs.put 63 (some ⟨0, 0, 0, 1, 0, 0, 0, [0], 0, 0, 1, [], 0, 0, false, false, 0, 0, 1, 0, 1, 0⟩) }, .parts fun p => { p with ck := p.ck.put 63 (some ⟨⟨1, 0, 1, false, [], 0⟩, none, 5, [⟨5, 9, [], [], false, 0, []⟩], []⟩) }], 63, 0, ⟨0, 0⟩, ⟨0, 0⟩, ⟨0, 0, 0, 1, 0, 0, 0, [0], 0, 0, 1, [], 0, 0, false, false, 0, 0, 1, 0, 1, 0⟩, ⟨⟨1, 0, 1, false, [], 0⟩, none, 5, [⟨5, 9, [], [], false, 0, []⟩], []⟩, ⟨1, 0, 1, false, [], 0⟩, 0, ⟨by decide +kernel, by decide +kernel, by decide +kernel, by decide +kernel, by decide +kernel, by decide +kernel, by decide +kernel, by decide +kernel, by decide +kernel, by decide +kernel⟩, by decide +kernel⟩,
   ⟨at_ 10 0 [on 169, wr .MB_STAT_FW_READY 1, wr .GT_FRAME_CUR_LEN 10, wv .TICK_AT 11, .parts fun p => { p with jobs := p.jobs.put 63 (some ⟨0, 0, 0, 1, 0, 0, 0, [0], 0, 0, 1, [], 0, 0, false, false, 0, 0, 1, 0, 1, 0⟩) }, .parts fun p => { p with ck := p.ck.put 63 (some ⟨⟨1, 0, 1, false, [], 0⟩, none, 5, [⟨5, 0, [], [], false, 0, []⟩], []⟩) }], 63, 0, ⟨0, 0⟩, ⟨0, 0⟩, ⟨0, 0, 0, 1, 0, 0, 0, [0], 0, 0, 1, [], 0, 0, false, false, 0, 0, 1, 0, 1, 0⟩, ⟨⟨1, 0, 1, false, [], 0⟩, none, 5, [⟨5, 0, [], [], false, 0, []⟩], []⟩, ⟨1, 0, 1, false, [], 0⟩, 0, ⟨by decide +kernel, by decide +kernel, by decide +kernel, by decide +kernel, by decide +kernel, by decide +kernel, by decide +kernel, by decide +kernel, by decide +kernel, by decide +kernel⟩, by decide +kernel⟩,
   ⟨st [on 169, wr .MB_STAT_FW_READY 1, .parts fun p => { p with jobs := p.jobs.put 63 (some ⟨0, 0, 0, 1, 0, 0, 0, [0], 0, 0, 1, [], 0, 0, false, false, 0, 0, 1, 0, 1, 0⟩) }, .parts fun p => { p with ck := p.ck.put 63 (some ⟨⟨1, 0, 1, false, [], 0⟩, none, 5, [⟨5, 0, [], [], false, 1, [⟨2, 0, 0, 0, 0, 0, false, 0, true, 0, 64, [], 0, false⟩]⟩], []⟩) }], 63, 2, 0, ⟨0, 0, 0, 1, 0, 0, 0, [0], 0, 0, 1, [], 0, 0, false, false, 0, 0, 1, 0, 1, 0⟩, ⟨5, 0, [], [], false, 1, [⟨2, 0, 0, 0, 0, 0, false, 0, true, 0, 64, [], 0, false⟩]⟩, ⟨2, 0, 0, 0, 0, 0, false, 0, true, 0, 64, [], 0, false⟩, by decide +kernel⟩,
   ⟨st [on 169, wr .MB_STAT_FW_READY 1, .parts fun p => { p with jobs := p.jobs.put 63 (some ⟨0, 0, 0, 1, 0, 0, 0, [0], 0, 0, 1, [], 0, 0, false, false, 0, 0, 1, 0, 1, 0⟩) }, .parts fun p => { p with ck := p.ck.put 63 (some ⟨⟨1, 0, 1, false, [], 0⟩, none, 5, [⟨5, 0, [], [], false, 1, []⟩], []⟩) }], 63, [], [], 0x82, ⟨0, 0, 0, 1, 0, 0, 0, [0], 0, 0, 1, [], 0, 0, false, false, 0, 0, 1, 0, 1, 0⟩, ⟨⟨1, 0, 1, false, [], 0⟩, none, 5, [⟨5, 0, [], [], false, 1, []⟩], []⟩, ⟨5, 0, [], [], false, 1, []⟩, by decide +kernel⟩,
   ⟨st [on 169, wr .MB_STAT_FW_READY 1, .parts fun p => { p with jobs := p.jobs.put 63 (some ⟨0, 0, 0, 1, 0, 0, 0, [0], 0, 0, 0, [], 0, 0, false, false, 0, 0, 1, 0, 1, 0⟩) }, .parts fun p => { p with ck := p.ck.put 63 (some ⟨⟨1, 0, 1, false, [], 0⟩, none, 5, [⟨5, 0, [], [], false, 1, []⟩], []⟩) }], 63, [⟨1, 0, 0, 0, 0, 0, false, 0, false, 0, 64, [], 0, true⟩, ⟨2, 0, 0, 1, 0, 0, false, 0, false, 0, 64, [], 0, true⟩], [], 0, ⟨0, 0, 0, 1, 0, 0, 0, [0], 0, 0, 0, [], 0, 0, false, false, 0, 0, 1, 0, 1, 0⟩, ⟨⟨1, 0, 1, false, [], 0⟩, none, 5, [⟨5, 0, [], [], false, 1, []⟩], []⟩, ⟨5, 0, [], [], false, 1, []⟩, by decide +kernel⟩,
   ⟨st [on 169, wr .MB_STAT_FW_READY 1, .parts fun p => { p with jobs := p.jobs.put 63 (some ⟨0, 0, 0, 1, 0, 0, 0, [0], 0, 0, 0, [], 0, 0, false, false, 0, 0, 1, 0, 1, 0⟩) }, .parts fun p => { p with ck := p.ck.put 63 (some ⟨⟨1, 0, 1, false, [], 0⟩, none, 5, [⟨5, 0, [], [], false, 1, []⟩], []⟩) }], 63, [⟨1, 0, 0, 0, 0, 0, false, 0, false, 0, 64, [], 0, true⟩, ⟨2, 0, 0, 0, 0, 0, false, 0, false, 0, 64, [], 0, true⟩], [], 0, ⟨0, 0, 0, 1, 0, 0, 0, [0], 0, 0, 0, [], 0, 0, false, false, 0, 0, 1, 0, 1, 0⟩, ⟨⟨1, 0, 1, false, [], 0⟩, none, 5, [⟨5, 0, [], [], false, 1, []⟩], []⟩, ⟨5, 0, [], [], false, 1, []⟩, by decide +kernel⟩,
   ⟨at_ 90 0 [on 169, wr .MB_STAT_FW_READY 1, wr .GT_FRAME_CUR_LEN 10, .parts fun p => { p with jobs := p.jobs.put 63 (some ⟨0, 0, 0, 1, 0, 0, 0, [0], 0, 0, 1, [], 0, 0, false, false, 0, 0, 1, 0, 1, 0⟩) }, .parts fun p => { p with ck := p.ck.put 63 (some ⟨⟨1, 0, 1, false, [], 0⟩, none, 5, [⟨5, 0, [], [], false, 1, []⟩], []⟩) }], 63, [], ⟨0, 0, 0, 1, 0, 0, 0, [0], 0, 0, 1, [], 0, 0, false, false, 0, 0, 1, 0, 1, 0⟩, ⟨⟨1, 0, 1, false, [], 0⟩, none, 5, [⟨5, 0, [], [], false, 1, []⟩], []⟩, ⟨5, 0, [], [], false, 1, []⟩, ⟨1, 0, 1, false, [], 0⟩, by decide +kernel⟩⟩


/-- The manifest of generation 3 with no curd and the two other shards, unsigned, with its digest. -/
def man0 : List Byte :=
  leBytes 4 1 ++ leBytes 4 3 ++ leBytes 20 0 ++ leBytes 4 2 ++ leBytes 352 0
    ++ leBytes 32 83780738771482932375425474800437939861360618983477346744874968006519311628955

theorem selected : ∃ x, selectManifest [readManifest man0 0] 0 0 = .inl x ∧ x.curds = 0 := by
  have h : (selectManifest [readManifest man0 0] 0 0).getLeft?.any (fun x => x.curds = 0) = true := by decide +kernel
  revert h
  generalize selectManifest [readManifest man0 0] 0 0 = z
  intro h
  cases z with
  | inl x => exact ⟨x, rfl, by simpa using h⟩
  | inr _ => simp at h

theorem witness_Restores :
    (∃ (s : State) (m : Fin 64) (_copies _headers : List (List Byte)),
      let a := s.mbArg m
      let y := s.layoutAt (a 24 8 % 2 ^ 48)
      (s.serves m 0x0308 = true) ∧ (∃ q ∈ y.mine (s.node 0), s.physOf q.2.tile = some 0 ∧ s.vr .TILE_JOB 0 ≠ 0))
    ∧ (∃ (s : State) (m : Fin 64) (copies _headers : List (List Byte)),
      let a := s.mbArg m
      let y := s.layoutAt (a 24 8 % 2 ^ 48)
      (s.serves m 0x0308 = true) ∧ ((∀ q ∈ y.mine (s.node 0), s.vr .TILE_JOB ((s.physOf q.2.tile).getD 0) = 0) ∧ selectManifest (copies.map (readManifest · (a 32 32))) (a 0 8) (a 8 4) = .inr 0x82))
    ∧ (∃ (s : State) (m : Fin 64) (copies _headers : List (List Byte)),
      let a := s.mbArg m
      let y := s.layoutAt (a 24 8 % 2 ^ 48)
      (s.serves m 0x0308 = true) ∧ ((∀ q ∈ y.mine (s.node 0), s.vr .TILE_JOB ((s.physOf q.2.tile).getD 0) = 0) ∧ ∃ x, selectManifest (copies.map (readManifest · (a 32 32))) (a 0 8) (a 8 4) = .inl x ∧ x.curds ≠ y.curds))
    ∧ (∃ (s : State) (m : Fin 64) (copies headers : List (List Byte)),
      let a := s.mbArg m
      let y := s.layoutAt (a 24 8 % 2 ^ 48)
      (s.serves m 0x0308 = true) ∧ ((∀ q ∈ y.mine (s.node 0), s.vr .TILE_JOB ((s.physOf q.2.tile).getD 0) = 0) ∧ sizesDiffer y headers = false ∧ s.parts.jobs = [] ∧ ∃ x, selectManifest (copies.map (readManifest · (a 32 32))) (a 0 8) (a 8 4) = .inl x ∧ x.curds = y.curds))
    ∧ (∃ (s : State) (shards : List ShardCheck) (_l _k : W64) (_depth : BitVec 8) (_sched : Option SchedMsg) (r : RestoreRun),
      let bad := offenders r shards
      (s.parts.restore = some r) ∧ (s.fwReady = true) ∧ (r.loading = true) ∧ (s.parts.events.length < 4096) ∧ (bad ≠ []))
    ∧ (∃ (s : State) (shards : List ShardCheck) (_l _k : W64) (_depth : BitVec 8) (_sched : Option SchedMsg) (r : RestoreRun),
      let bad := offenders r shards
      (s.parts.restore = some r) ∧ (s.fwReady = true) ∧ (r.loading = true) ∧ (s.parts.events.length < 4096) ∧ (bad = [] ∧ s.parts.jobs.find r.job = some ⟨0, 0, 0, 1, 0, 0, 0, [0], 0, 0, 1, [], 0, 0, false, false, 0, 0, 1, 0, 1, 0⟩)) :=
  ⟨⟨mbx 63 0 0x0308 (leBytes 8 0 ++ leBytes 8 0 ++ leBytes 8 0 ++ leBytes 8 0x10000 ++ leBytes 32 0) (putBytes 0x10000 [1, 0, 0, 0, 0, 0, 1, 0, 1] ++ [wv .TILE_JOB 64 0]), 63, [], [], by decide +kernel⟩,
   ⟨mbx 63 0 0x0308 (leBytes 8 0 ++ leBytes 8 0 ++ leBytes 8 0 ++ leBytes 8 0x10000 ++ leBytes 32 0) (putBytes 0x10000 [1, 0, 0, 0, 0, 0, 1, 0, 1]), 63, [], [], by decide +kernel⟩,
   ⟨mbx 63 0 0x0308 (leBytes 8 0 ++ leBytes 8 0 ++ leBytes 8 0 ++ leBytes 8 0x10000 ++ leBytes 32 0) (putBytes 0x10000 [1, 0, 0, 0, 0, 0, 1, 0, 1]), 63, [man0], [], by decide +kernel, (by
      obtain ⟨x, h, c⟩ := selected
      refine ⟨by decide +kernel, x, ?_, ?_⟩
      · have e1 : (mbx 63 0 0x0308 (leBytes 8 0 ++ leBytes 8 0 ++ leBytes 8 0 ++ leBytes 8 0x10000 ++ leBytes 32 0) (putBytes 0x10000 [1, 0, 0, 0, 0, 0, 1, 0, 1])).mbArg 63 32 32 = 0 := by decide +kernel
        have e2 : (mbx 63 0 0x0308 (leBytes 8 0 ++ leBytes 8 0 ++ leBytes 8 0 ++ leBytes 8 0x10000 ++ leBytes 32 0) (putBytes 0x10000 [1, 0, 0, 0, 0, 0, 1, 0, 1])).mbArg 63 0 8 = 0 := by decide +kernel
        have e3 : (mbx 63 0 0x0308 (leBytes 8 0 ++ leBytes 8 0 ++ leBytes 8 0 ++ leBytes 8 0x10000 ++ leBytes 32 0) (putBytes 0x10000 [1, 0, 0, 0, 0, 0, 1, 0, 1])).mbArg 63 8 4 = 0 := by decide +kernel
        show selectManifest [readManifest man0 ((mbx 63 0 0x0308 (leBytes 8 0 ++ leBytes 8 0 ++ leBytes 8 0 ++ leBytes 8 0x10000 ++ leBytes 32 0) (putBytes 0x10000 [1, 0, 0, 0, 0, 0, 1, 0, 1])).mbArg 63 32 32)] ((mbx 63 0 0x0308 (leBytes 8 0 ++ leBytes 8 0 ++ leBytes 8 0 ++ leBytes 8 0x10000 ++ leBytes 32 0) (putBytes 0x10000 [1, 0, 0, 0, 0, 0, 1, 0, 1])).mbArg 63 0 8) ((mbx 63 0 0x0308 (leBytes 8 0 ++ leBytes 8 0 ++ leBytes 8 0 ++ leBytes 8 0x10000 ++ leBytes 32 0) (putBytes 0x10000 [1, 0, 0, 0, 0, 0, 1, 0, 1])).mbArg 63 8 4) = _
        rw [e1, e2, e3]; exact h
      · rw [c]; decide +kernel)⟩,
   ⟨mbx 63 0 0x0308 (leBytes 8 0 ++ leBytes 8 0 ++ leBytes 8 0 ++ leBytes 8 0x10000 ++ leBytes 32 0) ([]), 63, [man0], [], by decide +kernel, (by
      obtain ⟨x, h, c⟩ := selected
      refine ⟨by decide +kernel, by decide +kernel, by decide +kernel, x, ?_, ?_⟩
      · have e1 : (mbx 63 0 0x0308 (leBytes 8 0 ++ leBytes 8 0 ++ leBytes 8 0 ++ leBytes 8 0x10000 ++ leBytes 32 0) ([])).mbArg 63 32 32 = 0 := by decide +kernel
        have e2 : (mbx 63 0 0x0308 (leBytes 8 0 ++ leBytes 8 0 ++ leBytes 8 0 ++ leBytes 8 0x10000 ++ leBytes 32 0) ([])).mbArg 63 0 8 = 0 := by decide +kernel
        have e3 : (mbx 63 0 0x0308 (leBytes 8 0 ++ leBytes 8 0 ++ leBytes 8 0 ++ leBytes 8 0x10000 ++ leBytes 32 0) ([])).mbArg 63 8 4 = 0 := by decide +kernel
        show selectManifest [readManifest man0 ((mbx 63 0 0x0308 (leBytes 8 0 ++ leBytes 8 0 ++ leBytes 8 0 ++ leBytes 8 0x10000 ++ leBytes 32 0) ([])).mbArg 63 32 32)] ((mbx 63 0 0x0308 (leBytes 8 0 ++ leBytes 8 0 ++ leBytes 8 0 ++ leBytes 8 0x10000 ++ leBytes 32 0) ([])).mbArg 63 0 8) ((mbx 63 0 0x0308 (leBytes 8 0 ++ leBytes 8 0 ++ leBytes 8 0 ++ leBytes 8 0x10000 ++ leBytes 32 0) ([])).mbArg 63 8 4) = _
        rw [e1, e2, e3]; exact h
      · rw [c]; decide +kernel)⟩,
   ⟨st [on 169, wr .MB_STAT_FW_READY 1, .parts fun p => { p with restore := some ⟨7, 63, 5, 1, 2, 0, 1, 0, 0, [⟨0, false, false, 0, 0, 0, 0, 64, [], 0⟩], true, 0, []⟩ }], [], 1, 2, 0, none, ⟨7, 63, 5, 1, 2, 0, 1, 0, 0, [⟨0, false, false, 0, 0, 0, 0, 64, [], 0⟩], true, 0, []⟩, by decide +kernel⟩,
   ⟨st [on 169, wr .MB_STAT_FW_READY 1, .parts fun p => { p with jobs := p.jobs.put 63 (some ⟨0, 0, 0, 1, 0, 0, 0, [0], 0, 0, 1, [], 0, 0, false, false, 0, 0, 1, 0, 1, 0⟩) }, .parts fun p => { p with restore := some ⟨7, 63, 5, 1, 2, 0, 1, 0, 0, [], true, 0, []⟩ }], [], 1, 2, 0, none, ⟨7, 63, 5, 1, 2, 0, 1, 0, 0, [], true, 0, []⟩, by decide +kernel⟩⟩

theorem witness_TileMessages :
    (∃ (s : State) (k : Tile) (_kind _len _seq : BitVec 8), (s.fwReady = true) ∧ (s.domOn k = true) ∧ (s.rd .MB_F2T_CTL_OWN k ≠ 1))
    ∧ (∃ (s : State) (k : Tile) (_v : W64), (s.domOn k = true) ∧ (s.rd .MB_F2T_CTL_OWN k ≠ 0))
    ∧ (∃ (s : State) (k : Tile) (v : W64),
      let x := v.toNat
      (s.domOn k = true) ∧ (s.rd .MB_T2F_CTL_OWN k ≠ 1) ∧ (testB x 0 = false))
    ∧ (∃ (s : State) (k : Tile) (v : W64),
      let x := v.toNat
      (s.domOn k = true) ∧ (s.rd .MB_T2F_CTL_OWN k ≠ 1) ∧ (testB x 0 = true))
    ∧ (∃ (s : State) (k : Tile) (_step : W64) (_epoch : BitVec 16),
      let kind := s.rd .MB_T2F_CTL_KIND k
      (s.fwReady = true) ∧ (s.domOn k = true) ∧ (s.rd .MB_T2F_CTL_OWN k ≠ 0) ∧ (s.parts.events.length < 4095) ∧ (kind ∉ [2, 3, 4]))
    ∧ (∃ (s : State) (k : Tile) (_step : W64) (_epoch : BitVec 16),
      let kind := s.rd .MB_T2F_CTL_KIND k
      (s.fwReady = true) ∧ (s.domOn k = true) ∧ (s.rd .MB_T2F_CTL_OWN k ≠ 0) ∧ (s.parts.events.length < 4095) ∧ (kind = 4))
    ∧ (∃ (s : State) (k : Tile) (_step : W64) (_epoch : BitVec 16),
      let kind := s.rd .MB_T2F_CTL_KIND k
      let n := s.jobOf k
      (s.fwReady = true) ∧ (s.domOn k = true) ∧ (s.rd .MB_T2F_CTL_OWN k ≠ 0) ∧ (s.parts.events.length < 4095) ∧ (kind = 3 ∧ s.cutGen n = none))
    ∧ (∃ (s : State) (k : Tile) (_step : W64) (_epoch : BitVec 16),
      let kind := s.rd .MB_T2F_CTL_KIND k
      let n := s.jobOf k
      (s.fwReady = true) ∧ (s.domOn k = true) ∧ (s.rd .MB_T2F_CTL_OWN k ≠ 0) ∧ (s.parts.events.length < 4095) ∧ (kind = 3 ∧ s.cutGen n = some ⟨5, 0, [], [], false, 1, []⟩))
    ∧ (∃ (s : State) (k : Tile) (_step : W64) (_epoch : BitVec 16),
      let kind := s.rd .MB_T2F_CTL_KIND k
      let w := fun i => s.rd .MB_T2F_DATA_DATA k i
      let n := s.jobOf k
      let st := bitsOf (w 0) 23 16
      (s.fwReady = true) ∧ (s.domOn k = true) ∧ (s.rd .MB_T2F_CTL_OWN k ≠ 0) ∧ (s.parts.events.length < 4095) ∧ (kind = 2 ∧ s.cutGen n = some ⟨5, 0, [], [], false, 1, []⟩ ∧ st ≠ 0))
    ∧ (∃ (s : State) (k : Tile) (_step : W64) (_epoch : BitVec 16),
      let kind := s.rd .MB_T2F_CTL_KIND k
      let w := fun i => s.rd .MB_T2F_DATA_DATA k i
      let n := s.jobOf k
      let st := bitsOf (w 0) 23 16
      (s.fwReady = true) ∧ (s.domOn k = true) ∧ (s.rd .MB_T2F_CTL_OWN k ≠ 0) ∧ (s.parts.events.length < 4095) ∧ (kind = 2 ∧ s.cutGen n = some ⟨5, 0, [], [], false, 1, []⟩ ∧ st = 0))
    ∧ (∃ (s : State) (m : Fin 64),
      let req := s.bytes (mboxBase m + 64) (min 4032 (s.mbReqLen m))
      let code := leNat ((req.drop 1).take 1)
      (s.serves m 0x0501 = true) ∧ (code ∉ [0x81, 0x82, 0x83, 0x84, 0xE0, 0xE1, 0xE3]))
    ∧ (∃ (s : State) (m : Fin 64),
      let req := s.bytes (mboxBase m + 64) (min 4032 (s.mbReqLen m))
      let code := leNat ((req.drop 1).take 1)
      (s.serves m 0x0501 = true) ∧ (code ∈ [0x81, 0x82, 0x83, 0xE0] ∧ leNat (req.take 1) = 0x12 ∧ s.parts.spdm.stage < 3)) :=
  ⟨⟨st [on 169, wr .MB_STAT_FW_READY 1, on 39], 39, 1, 0, 0, by decide +kernel⟩,
   ⟨st [on 39, wr .MB_F2T_CTL_OWN 1 39], 39, 0, by decide +kernel⟩,
   ⟨st [on 39], 39, 0, by decide +kernel⟩,
   ⟨st [on 39], 39, 1, by decide +kernel⟩,
   ⟨st [on 169, wr .MB_STAT_FW_READY 1, on 39, wv .TILE_JOB 64 39, wr .MB_T2F_CTL_OWN 1 39, wr .MB_T2F_CTL_KIND 5 39, wr .MB_T2F_DATA_DATA 0 39 0], 39, 0, 0, by decide +kernel⟩,
   ⟨st [on 169, wr .MB_STAT_FW_READY 1, on 39, wv .TILE_JOB 64 39, wr .MB_T2F_CTL_OWN 1 39, wr .MB_T2F_CTL_KIND 4 39, wr .MB_T2F_DATA_DATA 0 39 0], 39, 0, 0, by decide +kernel⟩,
   ⟨st [on 169, wr .MB_STAT_FW_READY 1, on 39, wv .TILE_JOB 64 39, wr .MB_T2F_CTL_OWN 1 39, wr .MB_T2F_CTL_KIND 3 39, wr .MB_T2F_DATA_DATA 0 39 0], 39, 0, 0, by decide +kernel⟩,
   ⟨st [on 169, wr .MB_STAT_FW_READY 1, on 39, wv .TILE_JOB 64 39, wr .MB_T2F_CTL_OWN 1 39, wr .MB_T2F_CTL_KIND 3 39, wr .MB_T2F_DATA_DATA 0 39 0, .parts fun p => { p with ck := p.ck.put 63 (some ⟨⟨1, 0, 1, false, [], 0⟩, none, 5, [⟨5, 0, [], [], false, 1, []⟩], []⟩) }], 39, 0, 0, by decide +kernel⟩,
   ⟨st [on 169, wr .MB_STAT_FW_READY 1, on 39, wv .TILE_JOB 64 39, wr .MB_T2F_CTL_OWN 1 39, wr .MB_T2F_CTL_KIND 2 39, wr .MB_T2F_DATA_DATA 0x10000 39 0, .parts fun p => { p with ck := p.ck.put 63 (some ⟨⟨1, 0, 1, false, [], 0⟩, none, 5, [⟨5, 0, [], [], false, 1, []⟩], []⟩) }], 39, 0, 0, by decide +kernel⟩,
   ⟨st [on 169, wr .MB_STAT_FW_READY 1, on 39, wv .TILE_JOB 64 39, wr .MB_T2F_CTL_OWN 1 39, wr .MB_T2F_CTL_KIND 2 39, wr .MB_T2F_DATA_DATA 0 39 0, .parts fun p => { p with ck := p.ck.put 63 (some ⟨⟨1, 0, 1, false, [], 0⟩, none, 5, [⟨5, 0, [], [], false, 1, []⟩], []⟩) }], 39, 0, 0, by decide +kernel⟩,
   ⟨mbx 63 0 0x0501 [0x12, 0x7F, 0, 0] [], 63, by decide +kernel⟩,
   ⟨mbx 63 0 0x0501 [0x12, 0x83, 0, 0] [], 63, by decide +kernel⟩⟩

theorem witness_TreeBroadcasts :
    (∃ (s : State) (_f : BitVec 16) (m : BMsg) (_cs : List (BitVec 16)),
      let held := ∃ b ∈ s.parts.bcasts, b.msg.ident = m.ident ∧ b.msg.digest = m.digest
      (s.fwReady = true) ∧ (held))
    ∧ (∃ (s : State) (_f : BitVec 16) (m : BMsg) (_cs : List (BitVec 16)),
      let held := ∃ b ∈ s.parts.bcasts, b.msg.ident = m.ident ∧ b.msg.digest = m.digest
      (s.fwReady = true) ∧ (¬ held ∧ s.domOn 171 = true ∧ s.rd .GT_LAUNCH_CTL_STATE 0 3 = 1 ∧ s.rd .GT_LAUNCH_CTL_JOB 0 3 = 63 ∧ gtcBefore s.gtc (s.rd .GT_LAUNCH_AT_L 0 3) = true))
    ∧ (∃ (s : State) (_f : BitVec 16) (m : BMsg) (_cs : List (BitVec 16)),
      let held := ∃ b ∈ s.parts.bcasts, b.msg.ident = m.ident ∧ b.msg.digest = m.digest
      (s.fwReady = true) ∧ (¬ held ∧ s.domOn 171 = true ∧ s.freeSlot = some 0))
    ∧ (∃ (s : State) (_f : BitVec 16) (m : BMsg) (_cs : List (BitVec 16)),
      let held := ∃ b ∈ s.parts.bcasts, b.msg.ident = m.ident ∧ b.msg.digest = m.digest
      (s.fwReady = true) ∧ (¬ held))
    ∧ (∃ (s : State) (m : BMsg) (_cs : List (BitVec 16)), (s.fwReady = true) ∧ (s.bcast m.ident = none) ∧ (s.parts.bcastOut.head? = some m.content) ∧ ((∀ r, m.content ≠ .rennet r)) ∧ (s.parts.adoptWait = []))
    ∧ (∃ (s : State) (_from_ : BitVec 16) (_id : BitVec 32) (_named : Option (BitVec 16)), (s.fwReady = true))
    ∧ (∃ (s : State) (child : BitVec 16) (id : BitVec 32) (_orphans : List Orphan) (b : BState), (s.fwReady = true) ∧ (s.bcast id = some b) ∧ ((∃ c ∈ b.children, c.node = child ∧ c.state = 0 ∧ c.sentAt + s.tAck ≤ s.gtc)) ∧ (s.parts.rindQueue.length < 56) ∧ (s.vr .GASP ≠ 1) ∧ ((b.parent = none → ∀ job d l k sc, b.msg.content ≠ .arm job d l k sc)))
    ∧ (∃ (s : State) (_from_ : BitVec 16) (id : BitVec 32) (_named : BitVec 16), (s.fwReady = true) ∧ (s.bcast id = none))
    ∧ (∃ (s : State) (_from_ : BitVec 16) (id : BitVec 32) (_named : BitVec 16), (s.fwReady = true) ∧ (s.bcast id = some ⟨(⟨7, 9, .cancel 63 0⟩ : BMsg), some 1, [], [], ⟨[], [], []⟩, false⟩))
    ∧ (∃ (s : State) (id : BitVec 32) (named : BitVec 16) (b : BState), (s.fwReady = true) ∧ (s.bcast id = some b) ∧ ((∃ a ∈ b.adopts, a.node = named ∧ a.since + s.tAck ≤ s.gtc)))
    ∧ (∃ (s : State) (id : BitVec 32) (child : BitVec 16) (rep : SubReport) (b : BState),
      let rest := ∃ c ∈ b.children, c.node ≠ child ∧ c.state < 2
      (s.fwReady = true) ∧ (s.bcast id = some b) ∧ (b.reported = false) ∧ ((∃ c ∈ b.children, c.node = child ∧ c.state ≤ 1)) ∧ (rep.failed = []) ∧ (¬ rest ∧ b.adopts = []))
    ∧ (∃ (s : State) (id : BitVec 32) (child : BitVec 16) (rep : SubReport) (b : BState),
      let rest := ∃ c ∈ b.children, c.node ≠ child ∧ c.state < 2
      (s.fwReady = true) ∧ (s.bcast id = some b) ∧ (b.reported = false) ∧ ((∃ c ∈ b.children, c.node = child ∧ c.state ≤ 1)) ∧ (rep.failed = []) ∧ (rest)) :=
  ⟨⟨st [on 169, wr .MB_STAT_FW_READY 1, .parts fun p => { p with bcasts := [⟨(⟨7, 9, .cancel 63 0⟩ : BMsg), some 1, [], [], ⟨[], [], []⟩, false⟩] }], 1, (⟨7, 9, .cancel 63 0⟩ : BMsg), [2], by decide +kernel⟩,
   ⟨st [on 169, wr .MB_STAT_FW_READY 1, on 171, wr .GT_LAUNCH_CTL_STATE 1 0 3, wr .GT_LAUNCH_CTL_JOB 63 0 3, wr .GT_LAUNCH_AT_L 5 0 3], 1, (⟨7, 9, .cancel 63 0⟩ : BMsg), [2], by decide +kernel⟩,
   ⟨st [on 169, wr .MB_STAT_FW_READY 1, on 171], 1, ⟨7, 9, .arm 63 0 5 1 none⟩, [2], by decide +kernel⟩,
   ⟨st [on 169, wr .MB_STAT_FW_READY 1], 1, ⟨7, 9, .rennet ⟨1, 0, [], [], [], []⟩⟩, [2], by decide +kernel⟩,
   ⟨st [on 169, wr .MB_STAT_FW_READY 1, .parts fun p => { p with bcastOut := [.cancel 63 0] }], (⟨7, 9, .cancel 63 0⟩ : BMsg), [2, 2], by decide +kernel, by decide +kernel, by decide +kernel, nofun, by decide +kernel⟩,
   ⟨st [on 169, wr .MB_STAT_FW_READY 1], 1, 7, none, by decide +kernel⟩,
   ⟨at_ 10500000 0 [on 169, wr .MB_STAT_FW_READY 1, .parts fun p => { p with bcasts := [⟨(⟨7, 9, .cancel 63 0⟩ : BMsg), some 1, [⟨2, 0, 0⟩], [], ⟨[], [], []⟩, false⟩] }], 2, 7, [⟨3, none⟩], ⟨(⟨7, 9, .cancel 63 0⟩ : BMsg), some 1, [⟨2, 0, 0⟩], [], ⟨[], [], []⟩, false⟩, by decide +kernel, by decide +kernel, by decide +kernel, by decide +kernel, by decide +kernel, fun h => absurd h (by decide)⟩,
   ⟨st [on 169, wr .MB_STAT_FW_READY 1], 1, 7, 2, by decide +kernel⟩,
   ⟨st [on 169, wr .MB_STAT_FW_READY 1, .parts fun p => { p with bcasts := [⟨(⟨7, 9, .cancel 63 0⟩ : BMsg), some 1, [], [], ⟨[], [], []⟩, false⟩] }], 1, 7, 2, by decide +kernel⟩,
   ⟨at_ 10500000 0 [on 169, wr .MB_STAT_FW_READY 1, .parts fun p => { p with bcasts := [⟨(⟨7, 9, .cancel 63 0⟩ : BMsg), some 1, [], [⟨2, 1, 0⟩], ⟨[], [], []⟩, false⟩] }], 7, 2, ⟨(⟨7, 9, .cancel 63 0⟩ : BMsg), some 1, [], [⟨2, 1, 0⟩], ⟨[], [], []⟩, false⟩, by decide +kernel⟩,
   ⟨st [on 169, wr .MB_STAT_FW_READY 1, .parts fun p => { p with bcasts := [⟨(⟨7, 9, .cancel 63 0⟩ : BMsg), some 1, [⟨2, 0, 1⟩], [], ⟨[], [], []⟩, false⟩] }], 7, 2, ⟨[], [], []⟩, ⟨(⟨7, 9, .cancel 63 0⟩ : BMsg), some 1, [⟨2, 0, 1⟩], [], ⟨[], [], []⟩, false⟩, by decide +kernel⟩,
   ⟨st [on 169, wr .MB_STAT_FW_READY 1, .parts fun p => { p with bcasts := [⟨(⟨7, 9, .cancel 63 0⟩ : BMsg), some 1, [⟨2, 0, 1⟩, ⟨3, 0, 0⟩], [], ⟨[], [], []⟩, false⟩] }], 7, 2, ⟨[], [], []⟩, ⟨(⟨7, 9, .cancel 63 0⟩ : BMsg), some 1, [⟨2, 0, 1⟩, ⟨3, 0, 0⟩], [], ⟨[], [], []⟩, false⟩, by decide +kernel⟩⟩

theorem witness_FunctionRequests :
    (∃ s : State, 2 ≤ s.dom 39 ∧ s.dom 39 ≤ 3)
    ∧ (∃ s : State, s.dom 39 = 1)
    ∧ (∃ s : State, s.dom 39 = 0)
    ∧ (∃ (s : State) (k : Tile) (_v _w : Bool), (s.domOn k = true))
    ∧ (∃ s : State, s.dom 169 ≠ 0)
    ∧ (∃ s : State, s.dom 169 = 0)
    ∧ (∃ (s : State) (d : Fin 174) (_v : Bool), ((164 ≤ d.val ∧ d.val ≤ 168) ∨ s.rd .PM_STAT_RAILS_OK = 0))
    ∧ (∃ (s : State) (d : Fin 174) (_v : Bool), ((164 ≤ d.val ∧ d.val ≤ 168) ∨ s.rd .PM_STAT_RAILS_OK = 0))
    ∧ (∃ (s : State) (d : Fin 174) (_v : Bool), ((164 ≤ d.val ∧ d.val ≤ 168) ∨ s.rd .PM_STAT_RAILS_OK = 0))
    ∧ (∃ (s : State) (d : Fin 174), (¬ (164 ≤ d.val ∧ d.val ≤ 168)) ∧ (s.rd .PM_STAT_RAILS_OK ≠ 0) ∧ (40 ≤ d.val ∧ ¬ (100 ≤ d.val ∧ d.val < 164 ∧ s.dom d = 2)))
    ∧ (∃ (s : State) (d : Fin 174),
      let a := 40 + d.val
      (¬ (164 ≤ d.val ∧ d.val ≤ 168)) ∧ (s.rd .PM_STAT_RAILS_OK ≠ 0) ∧ (d.val < 40 ∧ ¬ (s.dom d = 2 ∧ s.dom a ≠ 0)))
    ∧ (∃ (s : State) (d : Fin 174),
      let a := 40 + d.val
      (¬ (164 ≤ d.val ∧ d.val ≤ 168)) ∧ (s.rd .PM_STAT_RAILS_OK ≠ 0) ∧ (d.val < 40 ∧ s.dom d = 2 ∧ s.dom a ≠ 0))
    ∧ (∃ (s : State) (d : Fin 174),
      let l := d.val - 100
      (¬ (164 ≤ d.val ∧ d.val ≤ 168)) ∧ (s.rd .PM_STAT_RAILS_OK ≠ 0) ∧ (100 ≤ d.val ∧ d.val < 164 ∧ s.dom d = 2 ∧ s.linkState l = 5))
    ∧ (∃ (s : State) (d : Fin 174),
      let l := d.val - 100
      (¬ (164 ≤ d.val ∧ d.val ≤ 168)) ∧ (s.rd .PM_STAT_RAILS_OK ≠ 0) ∧ (100 ≤ d.val ∧ d.val < 164 ∧ s.dom d = 2 ∧ s.linkState l = 0))
    ∧ (∃ (s : State) (d : Fin 174),
      let l := d.val - 100
      (¬ (164 ≤ d.val ∧ d.val ≤ 168)) ∧ (s.rd .PM_STAT_RAILS_OK ≠ 0) ∧ (100 ≤ d.val ∧ d.val < 164 ∧ s.dom d = 2 ∧ s.linkState l = 7))
    ∧ (∃ (s : State) (d : Fin 174),
      let l := d.val - 100
      (¬ (164 ≤ d.val ∧ d.val ≤ 168)) ∧ (s.rd .PM_STAT_RAILS_OK ≠ 0) ∧ (100 ≤ d.val ∧ d.val < 164 ∧ s.dom d = 2 ∧ s.linkState l = 8))
    ∧ (∃ (s : State) (d : Fin 174),
      let l := d.val - 100
      (¬ (164 ≤ d.val ∧ d.val ≤ 168)) ∧ (s.rd .PM_STAT_RAILS_OK ≠ 0) ∧ (100 ≤ d.val ∧ d.val < 164 ∧ s.dom d = 2 ∧ s.linkState l = 6)) :=
  ⟨⟨st [wr .PM_DOM_FSTATE 2 0 39], by decide +kernel⟩,
   ⟨st [wr .PM_DOM_FSTATE 1 0 39], by decide +kernel⟩,
   ⟨st [wr .PM_DOM_FSTATE 0 0 39], by decide +kernel⟩,
   ⟨st [on 39], 39, false, true, by decide +kernel⟩,
   ⟨st [on 169], by decide +kernel⟩,
   ⟨st [], by decide +kernel⟩,
   ⟨st [wr .PM_STAT_RAILS_OK 1], 164, true, .inl (by decide +kernel)⟩,
   ⟨st [wr .PM_STAT_RAILS_OK 1], 168, true, .inl (by decide +kernel)⟩,
   ⟨st [], 0, true, .inr (by decide +kernel)⟩,
   ⟨st [wr .PM_STAT_RAILS_OK 1, on 79], 79, by decide +kernel⟩,
   ⟨st [wr .PM_STAT_RAILS_OK 1, on 39], 39, by decide +kernel⟩,
   ⟨st [wr .PM_STAT_RAILS_OK 1, on 39, on 79], 39, by decide +kernel⟩,
   ⟨st [wr .PM_STAT_RAILS_OK 1, on 163, wr .FL_STAT_STATE 5 63], 163, by decide +kernel⟩,
   ⟨st [wr .PM_STAT_RAILS_OK 1, on 163, wr .FL_STAT_STATE 0 63], 163, by decide +kernel⟩,
   ⟨st [wr .PM_STAT_RAILS_OK 1, on 163, wr .FL_STAT_STATE 7 63], 163, by decide +kernel⟩,
   ⟨st [wr .PM_STAT_RAILS_OK 1, on 163, wr .FL_STAT_STATE 8 63], 163, by decide +kernel⟩,
   ⟨st [wr .PM_STAT_RAILS_OK 1, on 163, wr .FL_STAT_STATE 6 63], 163, by decide +kernel⟩⟩

theorem witness_FunctionTransitions :
    (∃ (s : State) (f : Func) (_failed : List FailedLine), (s.fstate f = 1) ∧ (s.funcAt f + s.startCycles f ≤ s.clock) ∧ (s.pendDis f = 1))
    ∧ (∃ (s : State) (f : Func) (_failed : List FailedLine), (s.fstate f = 1) ∧ (s.funcAt f + s.startCycles f ≤ s.clock) ∧ (s.pendDis f ≠ 1 ∧ funcTile f ≠ none ∧ s.parts.funcWait = []))
    ∧ (∃ (s : State) (f : Func) (_failed : List FailedLine), (s.fstate f = 1) ∧ (s.funcAt f + s.startCycles f ≤ s.clock) ∧ (s.pendDis f ≠ 1 ∧ funcTile f ≠ none ∧ s.parts.funcWait = [⟨.vx 39, 0x0127, some 63⟩] ∧ s.mbOwn 63 = true))
    ∧ (∃ (s : State) (f : Func) (_failed : List FailedLine), (s.fstate f = 1) ∧ (s.funcAt f + s.startCycles f ≤ s.clock) ∧ (s.pendDis f ≠ 1 ∧ s.parts.funcWait = []))
    ∧ (∃ (s : State) (f : Func) (_failed : List FailedLine), (s.fstate f = 1) ∧ (s.funcAt f + s.startCycles f ≤ s.clock) ∧ (s.pendDis f ≠ 1 ∧ s.vr .TILE_HELD 39 = 0 ∧ s.parts.funcWait = []))
    ∧ (∃ (s : State) (f : Func) (_failed : List FailedLine), (s.fstate f = 1) ∧ (s.funcAt f + s.startCycles f ≤ s.clock) ∧ (s.pendDis f ≠ 1))
    ∧ (∃ (s : State) (f : Func) (_failed : List FailedLine), (s.fstate f = 1) ∧ (s.funcAt f + s.startCycles f ≤ s.clock) ∧ (s.pendDis f ≠ 1 ∧ s.parts.funcWait = [] ∧ s.vr .SELF_REF 19 ≤ 1))
    ∧ (∃ (s : State) (f : Func) (_failed : List FailedLine), (s.fstate f ≠ 1 ∨ s.clock < s.funcAt f + s.startCycles f))
    ∧ (∃ (s : State) (f : Func) (_failed : List FailedLine), (s.fstate f ≠ 1 ∨ s.clock < s.funcAt f + s.startCycles f))
    ∧ (∃ (s : State) (f : Func), (s.fstate f = 3) ∧ (s.drained f = true) ∧ (s.vr .DORM_STAGE = 0) ∧ (s.parts.funcWait = []) ∧ (s.pendEn f ≠ 1))
    ∧ (∃ (s : State) (f : Func), (s.fstate f = 3) ∧ (s.drained f = true) ∧ (s.vr .DORM_STAGE = 0) ∧ (s.parts.funcWait = []) ∧ (s.pendEn f = 1 ∧ staggered f = false))
    ∧ (∃ (s : State) (f : Func), (s.fstate f = 3) ∧ (s.drained f = true) ∧ (s.vr .DORM_STAGE = 0) ∧ (s.parts.funcWait = []) ∧ (s.pendEn f = 1 ∧ staggered f = true))
    ∧ (∃ (s : State) (f : Func), (s.fstate f = 3) ∧ (s.drained f = true) ∧ (s.vr .DORM_STAGE = 0) ∧ (s.parts.funcWait = []) ∧ (s.pendEn f ≠ 1))
    ∧ (∃ (s : State) (f : Func), (s.fstate f = 3) ∧ (s.drained f = true) ∧ (s.vr .DORM_STAGE = 0) ∧ (s.parts.funcWait = []) ∧ (s.pendEn f ≠ 1))
    ∧ (∃ (s : State) (f : Func), (s.fstate f ≠ 3 ∨ s.drained f = false))
    ∧ (∃ (s : State) (f : Func), (s.fstate f ≠ 3 ∨ s.drained f = false))
    ∧ (∃ s : State, s.vr .SLOT_AT = 0 ∧ (List.range 80).find? s.slotReady = some 0)
    ∧ (∃ s : State, s.vr .SLOT_AT - 1 + 31500 ≤ s.clock ∧ (List.range 80).find? s.slotReady = some 79)
    ∧ (∃ s : State, s.vr .SLOT_AT ≠ 0 ∧ s.clock < s.vr .SLOT_AT - 1 + 31500) :=
  ⟨⟨at_ 0 256 [wr .VX_STAT_FSTATE 1 39, wr .VX_STAT_PEND_DIS 1 39], .vx 39, [], by decide +kernel⟩,
   ⟨at_ 0 256 [wr .VX_STAT_FSTATE 1 39], .vx 39, [], by decide +kernel⟩,
   ⟨at_ 0 256 [wr .VX_STAT_FSTATE 1 39, wr .MB_OWN_OWN (2 ^ 63), .parts fun p => { p with funcWait := [⟨.vx 39, 0x0127, some 63⟩] }], .vx 39, [], by decide +kernel⟩,
   ⟨at_ 0 16 [wr .EC_SCRUB_CTL_FSTATE 1], .scrub, [], by decide +kernel⟩,
   ⟨at_ 0 10500 [wr .PM_DOM_FSTATE 1 0 39], .dom 39, [], by decide +kernel⟩,
   ⟨at_ 0 10500 [wr .PM_DOM_FSTATE 1 0 171], .dom 171, [], by decide +kernel⟩,
   ⟨at_ 0 44040192 [wr .PM_DOM_FSTATE 1 0 99], .dom 99, [⟨127, 17⟩], by decide +kernel⟩,
   ⟨at_ 0 255 [wr .VX_STAT_FSTATE 1 39], .vx 39, [], .inr (by decide +kernel)⟩,
   ⟨at_ 0 256 [wr .VX_STAT_FSTATE 2 39], .vx 39, [], .inl (by decide +kernel)⟩,
   ⟨at_ 0 21000 [wr .VX_STAT_FSTATE 3 39], .vx 39, by decide +kernel⟩,
   ⟨at_ 0 21000 [wr .VX_STAT_FSTATE 3 39, wr .VX_STAT_PEND_EN 1 39], .vx 39, by decide +kernel⟩,
   ⟨at_ 0 21000 [wr .PM_DOM_FSTATE 3 0 39, wr .PM_DOM_PEND_EN 1 0 39], .dom 39, by decide +kernel⟩,
   ⟨at_ 0 21000 [wr .PM_DOM_FSTATE 3 0 171], .dom 171, by decide +kernel⟩,
   ⟨at_ 0 21000 [wr .EC_SCRUB_CTL_FSTATE 3], .scrub, by decide +kernel⟩,
   ⟨at_ 0 21000 [wr .VX_STAT_FSTATE 2 39], .vx 39, .inl (by decide +kernel)⟩,
   ⟨at_ 0 104 [wr .PM_DOM_FSTATE 3 0 171], .dom 171, .inr (by decide +kernel)⟩,
   ⟨st [wr .PM_DOM_PEND_EN 1 0 0], by decide +kernel⟩,
   ⟨at_ 0 31500 [on 39, wr .PM_DOM_PEND_EN 1 0 79, wv .SLOT_AT 1], by decide +kernel⟩,
   ⟨at_ 0 31499 [wv .SLOT_AT 1], by decide +kernel⟩⟩


/-- The package at the end of its wake, with a digest in PM_DORM_DIGEST. -/
def wakeBase : State :=
  at_ 0 1470000 ([on 169, wr .PM_STAT_PSTATE 7] ++ (List.range 20).map fun c => on (80 + c))

def wakeAt (d : Nat → Nat) : State := wakeBase.run ((List.range 4).map fun i => wr .PM_DORM_DIGEST_DIGEST (d i) 0 i)

theorem wake_get (d : Nat → Nat) (l : Loc) (h : ∀ i, l ≠ .reg .PM_DORM_DIGEST_DIGEST 0 i) : (wakeAt d).get l = wakeBase.get l := by
  simp [wakeAt, List.range_succ, State.run, wr, get_act_reg, h]

theorem wake_digest (d : Nat → Nat) (i : Nat) (h : i < 4) : (wakeAt d).rd .PM_DORM_DIGEST_DIGEST 0 i = d i % 2 ^ 64 := by
  have w : (Loc.reg .PM_DORM_DIGEST_DIGEST 0 i).width = 64 := rfl
  rcases (by omega : i = 0 ∨ i = 1 ∨ i = 2 ∨ i = 3) with rfl | rfl | rfl | rfl <;>
    simp [wakeAt, List.range_succ, State.run, wr, State.rd, get_act_reg] <;> rfl

theorem wake_bytes (d : Nat → Nat) (a n : Nat) : (wakeAt d).bytes a n = wakeBase.bytes a n := by
  simp [wakeAt, State.bytes, List.range_succ, State.run, wr]

/-- The conditions of a wake's end hold, whatever the digest. -/
theorem wake_holds (d : Nat → Nat) : (wakeAt d).rd .PM_STAT_PSTATE = 7 ∧ (wakeAt d).domOn 169 = true ∧ (∀ c < 20, (wakeAt d).domOn (80 + c) = true)
    ∧ (wakeAt d).vr .WAKE_AT + 1470000 ≤ (wakeAt d).clock := by
  refine ⟨?_, ?_, ?_, ?_⟩
  · rw [State.rd, wake_get _ _ (by simp)]; decide +kernel
  · rw [State.domOn, State.dom, State.rd, wake_get _ _ (by simp)]; decide +kernel
  · intro c hc
    rw [State.domOn, State.dom, State.rd, wake_get _ _ (by simp)]
    revert c; decide +kernel
  · rw [State.vr, wake_get _ _ (by simp)]
    simp [wakeAt, List.range_succ, State.run, wr]; decide +kernel

/-- Word i of the digest of the saved copy. -/
def savedWord (i : Nat) : Nat := leNat (((sha3_256 (wakeBase.bytes fwRegion sramSize)).drop (8 * i)).take 8)

theorem wake_bad (d : Nat → Nat) : (wakeAt d).savedBad = (List.range 4).any fun i => (wakeAt d).rd .PM_DORM_DIGEST_DIGEST 0 i != savedWord i := by
  simp only [State.savedBad, savedWord, wake_bytes]

theorem wake_saved (d : Nat → Nat) : (wakeAt d).parts.secSaved = [] := by
  simp [wakeAt, List.range_succ, State.run, wr]; decide +kernel

theorem wake_wf (d : Nat → Nat) : (wakeAt d).wf = true := wf_run _ wakeBase (by decide +kernel)

theorem lt_of_leNat : ∀ bs : List Byte, leNat bs < 2 ^ (8 * bs.length)
  | [] => by simp [leNat]
  | b :: bs => by
    have h := lt_of_leNat bs
    have hb : b.toNat < 256 := b.isLt
    have e : 2 ^ (8 * (b :: bs).length) = 256 * 2 ^ (8 * bs.length) := by
      rw [List.length_cons, Nat.mul_add, Nat.pow_add]; simp [Nat.mul_comm]
    rw [e]; simp only [leNat]; omega

theorem savedWord_lt (i : Nat) : savedWord i < 2 ^ 64 := by
  refine Nat.lt_of_lt_of_le (lt_of_leNat _) (Nat.pow_le_pow_right (by omega) ?_)
  simp only [List.length_take]; omega

theorem other_word (x : Nat) : ∃ y, y % 2 ^ 64 ≠ x := ⟨(x + 1) % 2 ^ 64, by omega⟩

/-- Some digest is not that of the saved copy. -/
theorem wake_other : ∃ d, (wakeAt d).savedBad = true := by
  obtain ⟨y, hy⟩ := other_word (savedWord 0)
  refine ⟨fun _ => y, ?_⟩
  rw [wake_bad, List.any_eq_true]
  refine ⟨0, List.mem_range.mpr (by decide), ?_⟩
  rw [wake_digest _ _ (by decide)]
  exact bne_iff_ne.mpr hy

theorem witness_ResetsAndWakes :
    (∃ s : State, (s.domOn 168 = true) ∧ (s.rd .PM_STAT_RAILS_OK = 0))
    ∧ (∃ s : State, (s.domOn 168 = true))
    ∧ (∃ s : State, (s.domOn 168 = true) ∧ (s.rd .PM_STAT_RAILS_OK = 1))
    ∧ (∃ (s : State) (rails : BitVec 3), (s.domOn 168 = true) ∧ (rails ≠ 0) ∧ (s.parts.rindQueue.length < 64))
    ∧ (∃ (s : State) (_core : Fin 8) (_periods : BitVec 32) (_offset : BitVec 22), (s.domOn 169 = true) ∧ (s.parts.rindQueue.length < 64))
    ∧ (∃ s : State, s.rd .PM_DORM_WAKE_PIN_EN = 1 ∧ s.rd .PM_STAT_PSTATE = 6 ∧ s.vr .WAKE_LATCH = 0)
    ∧ (∃ s : State, s.rd .PM_DORM_WAKE_I3C_EN = 1 ∧ s.rd .PM_STAT_PSTATE = 6 ∧ s.vr .WAKE_LATCH = 0)
    ∧ (∃ s : State, s.rd .PM_DORM_WAKE_ALARM_EN = 1 ∧ s.rd .PM_WAKE_AT_AT ≠ 0 ∧ s.gtc = s.rd .PM_WAKE_AT_AT ∧ s.rd .PM_STAT_PSTATE = 6 ∧ s.vr .WAKE_LATCH = 0)
    ∧ (∃ s : State, s.rd .PM_DORM_WAKE_PIN_EN = 1 ∧ s.rd .PM_STAT_PSTATE = 5 ∧ s.vr .WAKE_LATCH = 0)
    ∧ (∃ s : State, s.rd .PM_DORM_WAKE_I3C_EN = 1 ∧ s.rd .PM_STAT_PSTATE = 5 ∧ s.vr .WAKE_LATCH = 0)
    ∧ (∃ s : State, s.rd .PM_DORM_WAKE_ALARM_EN = 1 ∧ s.rd .PM_WAKE_AT_AT ≠ 0 ∧ s.gtc = s.rd .PM_WAKE_AT_AT ∧ s.rd .PM_STAT_PSTATE = 5 ∧ s.vr .WAKE_LATCH = 0)
    ∧ (∃ s : State, s.rd .PM_STAT_PSTATE ≠ 6 ∧ s.rd .PM_STAT_PSTATE ≠ 5)
    ∧ (∃ s : State, (s.rd .PM_STAT_PSTATE = 7 ∧ s.domOn 169 = true ∧ (∀ c < 20, s.domOn (80 + c) = true) ∧ s.vr .WAKE_AT + 1470000 ≤ s.clock) ∧ s.savedBad = true)
    ∧ (∃ s : State, (s.rd .PM_STAT_PSTATE = 7 ∧ s.domOn 169 = true ∧ (∀ c < 20, s.domOn (80 + c) = true) ∧ s.vr .WAKE_AT + 1470000 ≤ s.clock) ∧ s.savedBad = false ∧ s.wf = true ∧ s.parts.secSaved = []) :=
  ⟨⟨st [on 168], by decide +kernel⟩,
   ⟨st [on 168], by decide +kernel⟩,
   ⟨st [on 168, wr .PM_STAT_RAILS_OK 1], by decide +kernel⟩,
   ⟨st [on 168], 1, by decide +kernel⟩,
   ⟨st [on 169], 7, 0, 0, by decide +kernel⟩,
   ⟨at_ 5 0 [wr .PM_STAT_PSTATE 6, wr .PM_DORM_WAKE_PIN_EN 1], by decide +kernel⟩,
   ⟨at_ 5 0 [wr .PM_STAT_PSTATE 6, wr .PM_DORM_WAKE_I3C_EN 1], by decide +kernel⟩,
   ⟨at_ 5 0 [wr .PM_STAT_PSTATE 6, wr .PM_DORM_WAKE_ALARM_EN 1, wr .PM_WAKE_AT_AT 5], by decide +kernel⟩,
   ⟨at_ 5 0 [wr .PM_STAT_PSTATE 5, wr .PM_DORM_WAKE_PIN_EN 1], by decide +kernel⟩,
   ⟨at_ 5 0 [wr .PM_STAT_PSTATE 5, wr .PM_DORM_WAKE_I3C_EN 1], by decide +kernel⟩,
   ⟨at_ 5 0 [wr .PM_STAT_PSTATE 5, wr .PM_DORM_WAKE_ALARM_EN 1, wr .PM_WAKE_AT_AT 5], by decide +kernel⟩,
   ⟨st [], by decide +kernel⟩,
   ⟨wakeAt wake_other.choose, wake_holds _, wake_other.choose_spec⟩,
   ⟨wakeAt savedWord, wake_holds _, by
      rw [wake_bad, List.any_eq_false]
      intro i hi
      rw [wake_digest _ _ (List.mem_range.mp hi)]
      have := savedWord_lt i
      simp only [bne_iff_ne]; omega, wake_wf _, wake_saved _⟩⟩

theorem witness_PowerHeatAndFuses :
    (∃ (s : State) (w _hot16 : BitVec 16) (_die : Fin 25),
      let watts := w.toNat
      let l := (watts :: s.parts.powSamples).take 1024
      let avg := l.foldl (· + ·) 0 / l.length
      let cap := s.rd .PM_CAP_WATTS
      let due := s.vr .CAP_FALL_AT = 0 ∨ s.vr .CAP_FALL_AT - 1 + 1050000 ≤ s.clock
      (s.domOn 168 = true) ∧ (s.vr .POW_AT = 0 ∨ s.vr .POW_AT - 1 + 1050 ≤ s.clock) ∧ (s.vr .CAP_DUTY ≤ 8) ∧ (s.vr .CAP_OVER ≤ 16) ∧ (cap < avg ∧ due ∧ 10 * watts ≤ 11 * cap))
    ∧ (∃ (s : State) (w _hot16 : BitVec 16) (_die : Fin 25),
      let watts := w.toNat
      let cap := s.rd .PM_CAP_WATTS
      (s.domOn 168 = true) ∧ (s.vr .POW_AT = 0 ∨ s.vr .POW_AT - 1 + 1050 ≤ s.clock) ∧ (s.vr .CAP_DUTY ≤ 8) ∧ (s.vr .CAP_OVER ≤ 16) ∧ (15 ≤ s.vr .CAP_OVER ∧ 11 * cap < 10 * watts))
    ∧ (∃ (s : State) (w _hot16 : BitVec 16) (_die : Fin 25),
      let watts := w.toNat
      let l := (watts :: s.parts.powSamples).take 1024
      let avg := l.foldl (· + ·) 0 / l.length
      let cap := s.rd .PM_CAP_WATTS
      (s.domOn 168 = true) ∧ (s.vr .POW_AT = 0 ∨ s.vr .POW_AT - 1 + 1050 ≤ s.clock) ∧ (s.vr .CAP_DUTY ≤ 8) ∧ (s.vr .CAP_OVER ≤ 16) ∧ (avg ≤ cap ∧ 98 * cap ≤ 100 * avg ∧ 10 * watts ≤ 11 * cap))
    ∧ (∃ (s : State) (w _hot16 : BitVec 16) (_die : Fin 25),
      let watts := w.toNat
      let l := (watts :: s.parts.powSamples).take 1024
      let avg := l.foldl (· + ·) 0 / l.length
      let cap := s.rd .PM_CAP_WATTS
      let d := s.vr .CAP_DUTY
      (s.domOn 168 = true) ∧ (s.vr .POW_AT = 0 ∨ s.vr .POW_AT - 1 + 1050 ≤ s.clock) ∧ (s.vr .CAP_DUTY ≤ 8) ∧ (s.vr .CAP_OVER ≤ 16) ∧ (100 * avg < 98 * cap ∧ d < 8 ∧ s.vr .CAP_RISE_AT + 1050000 ≤ s.clock ∧ 10 * watts ≤ 11 * cap))
    ∧ (∃ (s : State) (_w hot16 : BitVec 16) (_die : Fin 25), (s.domOn 168 = true) ∧ (s.vr .POW_AT = 0 ∨ s.vr .POW_AT - 1 + 1050 ≤ s.clock) ∧ (s.vr .CAP_DUTY ≤ 8) ∧ (s.vr .CAP_OVER ≤ 16) ∧ (16 * (s.rd .PM_TRIP_DIE_WARN : Int) ≤ toSigned 16 hot16.toNat))
    ∧ (∃ (s : State) (temp : BitVec 16) (_die : Fin 25), (s.domOn 168 = true) ∧ (16 * (s.rd .PM_TRIP_DIE_WARN : Int) ≤ toSigned 16 temp.toNat))
    ∧ (∃ s : State, s.domOn 168 = true ∧ s.vr .DUTY_AT = 0 ∧ s.rd .PM_THROT_DUTY ≤ 8 ∧ min (s.vr .CAP_DUTY) (s.vr .THERM_DUTY) ≤ 8 ∧ s.rd .PM_THROT_DUTY = 2 ∧ min (s.vr .CAP_DUTY) (s.vr .THERM_DUTY) = 1 ∧ s.fwReady = true ∧ s.parts.events.length < 4096)
    ∧ (∃ s : State, s.domOn 168 = true ∧ s.vr .DUTY_AT = 0 ∧ s.rd .PM_THROT_DUTY ≤ 8 ∧ min (s.vr .CAP_DUTY) (s.vr .THERM_DUTY) ≤ 8 ∧ s.rd .PM_THROT_DUTY = 7 ∧ min (s.vr .CAP_DUTY) (s.vr .THERM_DUTY) = 8 ∧ s.rd .PM_CTL_CAP_IRQ = 1)
    ∧ (∃ s : State, s.rd .PM_THROT_DUTY = min (s.vr .CAP_DUTY) (s.vr .THERM_DUTY))
    ∧ (∃ s : State, (s.domOn 168 = true) ∧ (s.vr .THERMTRIP ≠ 1) ∧ (s.parts.rindQueue.length < 64) ∧ (s.dieAt (s.rd .PM_TRIP_DIE_CRIT) = true ∨ (∃ c < 20, s.vr .TEMP_AT c ≠ 0 ∧ s.domOn (80 + c) = true ∧ 16 * ((s.rd .LS_CTL_TRIP c : Int) + 5) ≤ toSigned 16 (s.rd .LS_TEMP_CUR c))))
    ∧ (∃ s : State, (s.domOn 168 = true) ∧ (s.vr .THERMTRIP ≠ 1) ∧ (s.parts.rindQueue.length < 64) ∧ (s.dieAt (s.rd .PM_TRIP_DIE_CRIT) = true ∨ (∃ c < 20, s.vr .TEMP_AT c ≠ 0 ∧ s.domOn (80 + c) = true ∧ 16 * ((s.rd .LS_CTL_TRIP c : Int) + 5) ≤ toSigned 16 (s.rd .LS_TEMP_CUR c))))
    ∧ (∃ s : State, s.domOn 168 = true ∧ 256 ≤ s.fuses.entries.length)
    ∧ (∃ s : State,
      let n := s.fuses.entries.length
      (s.domOn 168 = true) ∧ (n < 256 ∧ s.rd .PM_FUSE_CTL_BUSY = 1))
    ∧ (∃ s : State,
      let n := s.fuses.entries.length
      (s.domOn 168 = true) ∧ (n < 256 ∧ s.rd .PM_FUSE_CTL_BUSY ≠ 1))
    ∧ (∃ s : State, (s.domOn 168 = true) ∧ (s.rd .PM_FUSE_CTL_BUSY = 1) ∧ (s.vr .FUSE_AT ≤ s.clock)) :=
  ⟨⟨at_ 0 0 [on 168], 1601, 0, 24, by decide +kernel, .inl (by decide +kernel), by decide +kernel⟩,
   ⟨at_ 0 0 [on 168, wv .CAP_OVER 15], 1761, 0, 24, by decide +kernel, .inl (by decide +kernel), by decide +kernel⟩,
   ⟨at_ 0 0 [on 168], 1600, 0, 24, by decide +kernel, .inl (by decide +kernel), by decide +kernel⟩,
   ⟨at_ 0 1050000 [on 168, wv .CAP_DUTY 7], 100, 0, 24, by decide +kernel, .inl (by decide +kernel), by decide +kernel⟩,
   ⟨at_ 0 0 [on 168], 100, 2000, 24, by decide +kernel, .inl (by decide +kernel), by decide +kernel⟩,
   ⟨st [on 168], 2000, 24, by decide +kernel⟩,
   ⟨st [on 168, on 169, wr .MB_STAT_FW_READY 1, wr .PM_THROT_DUTY 2, wv .CAP_DUTY 1], by decide +kernel⟩,
   ⟨st [on 168, wr .PM_THROT_DUTY 7, wr .PM_CTL_CAP_IRQ 1], by decide +kernel⟩,
   ⟨st [], by decide +kernel⟩,
   ⟨st [on 168, wr .PM_TEMP_DIE_MAX 2047], by decide +kernel, by decide +kernel, by decide +kernel, .inl (by decide +kernel)⟩,
   ⟨st [on 168, on 99, wv .TEMP_AT 1 19, wr .LS_TEMP_CUR 2047 19], by decide +kernel, by decide +kernel, by decide +kernel, .inr (by decide +kernel)⟩,
   ⟨{ st [on 168] with fuses := { Fuses.shipped with entries := List.replicate 256 0 } }, by decide +kernel⟩,
   ⟨st [on 168, wr .PM_FUSE_CTL_BUSY 1], by decide +kernel⟩,
   ⟨st [on 168], by decide +kernel⟩,
   ⟨st [on 168, wr .PM_FUSE_CTL_BUSY 1], by decide +kernel⟩⟩

theorem witness_FirmwareLoad :
    (∃ (s : State) (_image : List Byte), (s.bootReady = false))
    ∧ (∃ (s : State) (image : List Byte),
      let len := s.mbArg 0 0 4
      let img := image.take len ++ List.replicate (len - image.length) 0
      let st := if s.bootChecks img len ≠ 0 then s.bootChecks img len else if imageSigned img then 0 else 0x8A
      (s.bootReady = true) ∧ (st ≠ 0))
    ∧ (∃ (s : State) (_bad : List Tile) (r : Rennet), (s.parts.rennet = some r) ∧ (s.rd .PM_STAT_PSTATE = 4 ∨ s.rd .PM_STAT_PSTATE = 7) ∧ ((∀ k ∈ s.inService, k < 40 ∧ s.domOn k = true)) ∧ (s.inService.Nodup) ∧ (s.inService.length = 40 ∧ s.vr .TILE_HELD 39 = 0 ∧ s.vr .RENNET_RUN 39 = 0 ∧ s.rd .TC_CTL_RUN 39 ≠ 1))
    ∧ (∃ (s : State) (bad : List Tile) (r : Rennet), (s.parts.rennet = some r) ∧ (s.rd .PM_STAT_PSTATE = 4 ∨ s.rd .PM_STAT_PSTATE = 7) ∧ ((∀ k ∈ s.inService, k < 40 ∧ s.domOn k = true)) ∧ (s.inService.Nodup) ∧ (∃ b ∈ bad, b.val ∈ s.inService)) :=
  ⟨⟨st [], [], by decide +kernel⟩,
   ⟨st ([on 169, on 170, wr .PM_STAT_PSTATE 1, wr .MB_OWN_OWN 1] ++ putBytes (mboxBase 0) [1, 0, 1, 0xFF, 0, 3]), [], by decide +kernel⟩,
   ⟨st ((List.range 40).map on ++ [wr .PM_STAT_PSTATE 4, .parts fun p => { p with rennet := some ⟨0x3FFF, [1], [2]⟩ }]), [], ⟨0x3FFF, [1], [2]⟩, by decide +kernel, .inl (by decide +kernel), by decide +kernel⟩,
   ⟨st ((List.range 40).map on ++ [wr .PM_STAT_PSTATE 7, .parts fun p => { p with rennet := some ⟨0x3FFF, [1], [2]⟩ }]), [39], ⟨0x3FFF, [1], [2]⟩, by decide +kernel, .inr (by decide +kernel), by decide +kernel⟩⟩

theorem witness_MeasurementsAndSideband :
    (∃ (s : State) (v : W64), (s.dom 170 ≠ 0) ∧ (testB v.toNat 5 = false) ∧ (testB v.toNat 3 = false))
    ∧ (∃ (s : State) (v : W64),
      let k := bitsOf v.toNat 2 0
      (s.dom 170 ≠ 0) ∧ (testB v.toNat 5 = false) ∧ (testB v.toNat 3 = true ∧ k < 3))
    ∧ (∃ (s : State) (v : W64),
      let k := bitsOf v.toNat 2 0
      (s.dom 170 ≠ 0) ∧ (testB v.toNat 5 = false) ∧ (testB v.toNat 3 = true ∧ s.rd .SC_EXT_CTL_BUSY ≠ 1 ∧ 3 ≤ k))
    ∧ (∃ s : State, (s.rd .SC_EXT_CTL_BUSY ≠ 0))
    ∧ (∃ (s : State) (_i : TapInstr), (s.domOn 168 = true))
    ∧ (∃ s : State, (s.domOn 168 = true) ∧ (s.rd .PM_STAT_PSTATE = 6 ∧ s.rd .PM_DORM_WAKE_I3C_EN = 1))
    ∧ (∃ s : State, (s.domOn 168 = true) ∧ (s.rd .PM_STAT_PSTATE ∉ [5, 6])) :=
  ⟨⟨st [on 170], 3, by decide +kernel⟩,
   ⟨st [on 170], 10, by decide +kernel⟩,
   ⟨st [on 170], 11, by decide +kernel⟩,
   ⟨st [wr .SC_EXT_CTL_BUSY 1], by decide +kernel⟩,
   ⟨st [on 168], .priv, by decide +kernel⟩,
   ⟨st [on 168, wr .PM_STAT_PSTATE 6, wr .PM_DORM_WAKE_I3C_EN 1], by decide +kernel⟩,
   ⟨st [on 168], by decide +kernel⟩⟩

theorem witness_CancelWindow :
    (∃ (s : State) (k : Fin 4) (_node : BitVec 16), (s.domOn 171 = true) ∧ (s.rd .GT_LAUNCH_CTL_STATE 0 k = 1) ∧ (gtcBefore s.gtc (s.rd .GT_LAUNCH_AT_L 0 k) = true))
    ∧ (∃ (s : State) (k : Fin 4) (_node : BitVec 16), (s.domOn 171 = true) ∧ (s.rd .GT_LAUNCH_CTL_STATE 0 k = 1) ∧ (gtcBefore s.gtc (s.rd .GT_LAUNCH_AT_L 0 k) = false))
    ∧ (∃ (s : State) (k : Fin 4), (s.rd .GT_LAUNCH_CTL_STATE 0 k = 2)) :=
  ⟨⟨st [on 171, wr .GT_LAUNCH_CTL_STATE 1 0 3, wr .GT_LAUNCH_AT_L 1 0 3], 3, 0, by decide +kernel⟩,
   ⟨at_ 1 0 [on 171, wr .GT_LAUNCH_CTL_STATE 1 0 3, wr .GT_LAUNCH_AT_L 1 0 3], 3, 0, by decide +kernel⟩,
   ⟨st [wr .GT_LAUNCH_CTL_STATE 2 0 3], 3, by decide +kernel⟩⟩

theorem witness_SkippedCut :
    (∃ (s : State) (n : Fin 64) (_step : W64) (_orders : List TileOrder) (j : Job) (k : Ck), (s.jobAt n = some j) ∧ (s.parts.ck.find n = some k) ∧ (k.gens ≠ []))
    ∧ (∃ (s : State) (n : Fin 64) (_entry : BitVec 48) (_p1 _p2 : Place) (j : Job) (k : Ck) (p : CkPolicy) (c : Nat), (s.CutDue n j k p c) ∧ ((∃ x ∈ k.gens, x.step ≠ c)) ∧ (s.parts.events.length < 4096)) :=
  ⟨⟨st [.parts fun p => { p with jobs := p.jobs.put 63 (some ⟨0, 0, 0, 1, 0, 0, 0, [0], 0, 0, 1, [], 0, 0, false, false, 0, 0, 1, 0, 1, 0⟩) }, .parts fun p => { p with ck := p.ck.put 63 (some ⟨⟨1, 0, 1, false, [], 0⟩, none, 5, [⟨5, 9, [], [], false, 0, []⟩], []⟩) }], 63, 0, [], ⟨0, 0, 0, 1, 0, 0, 0, [0], 0, 0, 1, [], 0, 0, false, false, 0, 0, 1, 0, 1, 0⟩, ⟨⟨1, 0, 1, false, [], 0⟩, none, 5, [⟨5, 9, [], [], false, 0, []⟩], []⟩, by decide +kernel⟩,
   ⟨at_ 10 0 [on 169, wr .MB_STAT_FW_READY 1, wr .GT_FRAME_CUR_LEN 10, wv .TICK_AT 11, .parts fun p => { p with jobs := p.jobs.put 63 (some ⟨0, 0, 0, 1, 0, 0, 0, [0], 0, 0, 1, [], 0, 0, false, false, 0, 0, 1, 0, 1, 0⟩) }, .parts fun p => { p with ck := p.ck.put 63 (some ⟨⟨1, 0, 1, false, [], 0⟩, none, 5, [⟨5, 9, [], [], false, 0, []⟩], []⟩) }], 63, 0, ⟨0, 0⟩, ⟨0, 0⟩, ⟨0, 0, 0, 1, 0, 0, 0, [0], 0, 0, 1, [], 0, 0, false, false, 0, 0, 1, 0, 1, 0⟩, ⟨⟨1, 0, 1, false, [], 0⟩, none, 5, [⟨5, 9, [], [], false, 0, []⟩], []⟩, ⟨1, 0, 1, false, [], 0⟩, 0, ⟨by decide +kernel, by decide +kernel, by decide +kernel, by decide +kernel, by decide +kernel, by decide +kernel, by decide +kernel, by decide +kernel, by decide +kernel, by decide +kernel⟩, by decide +kernel⟩⟩

theorem witness_BoundaryScan :
    (∃ (s : State) (i : TapInstr), (s.domOn 168 = true) ∧ (i ∈ [.bypass, .idcode, .samplePreload]))
    ∧ (∃ (s : State) (i : TapInstr), (s.domOn 168 = true) ∧ (i ∈ [.extest, .extestPulse, .extestTrain] ∧ s.rd .PM_STAT_PSTATE = 0))
    ∧ (∃ (s : State) (i : TapInstr), (s.domOn 168 = true) ∧ (i ∈ [.extest, .extestPulse, .extestTrain] ∧ s.rd .PM_STAT_PSTATE = 1))
    ∧ (∃ (s : State) (i : TapInstr), (s.domOn 168 = true) ∧ (i ∈ [.extest, .extestPulse, .extestTrain] ∧ s.rd .PM_STAT_PSTATE = 2))
    ∧ (∃ (s : State) (i : TapInstr) (_image : List Byte), (i ∈ [.extest, .extestPulse, .extestTrain]) ∧ (s.vr .TAP = tapCode i))
    ∧ (∃ (s : State) (i : TapInstr) (_image : List Byte), (i ∉ [.extest, .extestPulse, .extestTrain]) ∧ (s.vr .TAP = tapCode i) ∧ (s.domOn 169 = true) ∧ (s.domOn 170 = true) ∧ (s.rd .PM_STAT_PSTATE = 1 ∨ s.rd .PM_STAT_PSTATE = 3) ∧ (s.mbOwn 0 = true) ∧ (s.mbCmd 0 = 0xFF01)) :=
  ⟨⟨st [on 168], .bypass, by decide +kernel⟩,
   ⟨st [on 168, wr .PM_STAT_PSTATE 0], .extest, by decide +kernel⟩,
   ⟨st [on 168, wr .PM_STAT_PSTATE 1], .extest, by decide +kernel⟩,
   ⟨st [on 168, wr .PM_STAT_PSTATE 2], .extest, by decide +kernel⟩,
   ⟨st [wv .TAP 5], .extestTrain, [], by decide +kernel⟩,
   ⟨st (([on 169, on 170, wr .PM_STAT_PSTATE 1, wr .MB_OWN_OWN 1] ++ putBytes (mboxBase 0) [1, 0, 1, 0xFF, 0, 3]) ++ [wv .TAP 2]), .samplePreload, [], by decide +kernel, by decide +kernel, by decide +kernel, by decide +kernel, .inl (by decide +kernel), by decide +kernel⟩⟩

theorem witness_LineSwap :
    (∃ (s : State) (_e : BitVec 16), (s.domOn 168 = true) ∧ (s.vr .I3C_SEEN = 0 ∨ s.vr .I3C_BUS_AT + 1048576 ≤ s.clock))
    ∧ (∃ (s : State) (_e : BitVec 16), (s.domOn 168 = true) ∧ (s.vr .I3C_SEEN = 0 ∨ s.vr .I3C_BUS_AT + 1048576 ≤ s.clock))
    ∧ (∃ s : State, (s.domOn 168 = true))
    ∧ (∃ (s t : State) (c : Instr), exec c s = .next t ∧ (∀ r, c ≠ .auxPowerOn r) ∧ s.vr .I3C_SWAP = 1) :=
  ⟨⟨st [on 168], 16, by decide +kernel, .inl (by decide +kernel)⟩,
   ⟨at_ 0 1048576 [on 168, wv .I3C_SEEN 1], 15, by decide +kernel, .inr (by decide +kernel)⟩,
   ⟨st [on 168], by decide +kernel⟩,
   ⟨st [wv .I3C_SWAP 1], _, .lastGasp, rfl, by simp, by decide⟩⟩

theorem witness_ReadinessGate :
    (∃ (s : State) (m : Fin 64) (_agree : Bool), (s.serves m 0x0301 = true) ∧ (s.jobReady = false))
    ∧ (∃ s : State, (s.fwReady = true) ∧ (8 * 2 ^ s.rd .MB_STAT_TELEM_SHIFT ≤ s.vr .PERIOD_CNT))
    ∧ (∃ (s : State) (m : Fin 64) (ready stat g : Nat), (s.serves m 0x0401 = true) ∧ (s.mbArg m 0 2 = 0) ∧ (s.parts.telem.find 0 = some ⟨[ready, stat], g⟩)) :=
  ⟨⟨mbx 63 0 0x0301 [] [], 63, false, by decide +kernel⟩,
   ⟨st [on 169, wr .MB_STAT_FW_READY 1, wv .PERIOD_CNT 0xFFFF], by decide +kernel⟩,
   ⟨mbx 63 0 0x0401 [] [.parts fun p => { p with telem := p.telem.put 0 (some ⟨[1, 2], 5⟩) }], 63, 1, 2, 5, by decide +kernel⟩⟩

theorem witness_EmptyQueueIsOneCycle :
    (∃ s : State, (s.pending = []) ∧ (s.domOn 171 = true))
    ∧ (∃ s : State, (s.pending = []) ∧ (s.domOn 171 = false)) :=
  ⟨⟨st [on 171], by decide +kernel⟩,
   ⟨st [], by decide +kernel⟩⟩

theorem witness_StepKeepsWellFormed :
    (∃ s t : State, s.wf = true ∧ step s = .next t)
    ∧ (∃ s t : State, s.wf = true ∧ step s = .next t ∧ s.pending ≠ []) :=
  ⟨⟨State.reset, _, by decide, rfl⟩,
   ⟨{ st [on 171] with pending := [.lastGasp] }, _, by decide +kernel, rfl, by simp⟩⟩

theorem witness_CommandsKeepTheRest :
    (∃ (c : Instr) (s t : State), exec c s = .next t ∧ t.fuses ≠ s.fuses)
    ∧ (∃ (c : Instr) (s t : State), exec c s = .next t ∧ t.mram ≠ s.mram)
    ∧ (∃ (c : Instr) (s t : State), exec c s = .next t ∧ t.gtc ≠ s.gtc) :=
  ⟨⟨.lifecycleScrap, { st [on 170] with fuses := { Fuses.shipped with lifecycle := 2 } }, _, rfl, by decide +kernel⟩,
   ⟨.lastGasp, st [on 168], _, rfl, by decide +kernel⟩,
   ⟨.pkgResetPin, at_ 5 0 [on 168], _, rfl, by decide +kernel⟩⟩

theorem witness_JobCommands :
    (∃ (s : State) (m : Fin 64), (s.serves m 0x0302 = true) ∧ (s.freeSlot = none))
    ∧ (∃ (s : State) (m : Fin 64), (s.serves m 0x0302 = true) ∧ (s.freeSlot = some 3 ∧ s.domOn 171 = true))
    ∧ (∃ (s : State) (m : Fin 64),
      let j := s.mbArg m 0 1 % 64
      (s.serves m 0x0303 = true) ∧ (s.domOn 171 = true) ∧ (s.rd .GT_LAUNCH_CTL_STATE 0 3 = 1 ∧ s.rd .GT_LAUNCH_CTL_JOB 0 3 = j ∧ gtcBefore s.gtc (s.rd .GT_LAUNCH_AT_L 0 3) = true))
    ∧ (∃ (s : State) (m : Fin 64),
      let j := s.mbArg m 0 1
      (s.serves m 0x0304 = true) ∧ (s.jobAt j = none))
    ∧ (∃ (s : State) (m : Fin 64),
      let j := s.mbArg m 0 1
      (s.serves m 0x0304 = true) ∧ (s.jobAt j = some ⟨0, 0, 0, 1, 0, 0, 0, [0], 0, 0, 1, [], 0, 0, false, false, 0, 0, 1, 0, 1, 0⟩ ∧ s.scheduled = false))
    ∧ (∃ (s : State) (m : Fin 64),
      let j := s.mbArg m 0 1
      (s.serves m 0x0304 = true) ∧ (s.jobAt j = some ⟨0, 0, 0, 1, 0, 0, 0, [0], 0, 0, 1, [], 0, 0, false, false, 0, 0, 1, 0, 1, 0⟩ ∧ s.scheduled = true))
    ∧ (∃ (s : State) (m : Fin 64),
      let j := s.mbArg m 0 1
      (s.serves m 0x0304 = true) ∧ (s.jobAt j = some ⟨0, 0, 0, 1, 0, 0, 0, [0], 0, 0, 1, [], 0, 0, false, false, 1, 0, 1, 0, 1, 0⟩ ∧ s.scheduled = true ∧ s.atTick = true ∧ (⟨0, 0, 0, 1, 0, 0, 0, [0], 0, 0, 1, [], 0, 0, false, false, 1, 0, 1, 0, 1, 0⟩ : Job).ending ≠ s.gtc + 1))
    ∧ (∃ (s : State) (m : Fin 64),
      let ts := s.maskTiles (s.mbArg m 0 8)
      (s.serves m 0x0305 = true) ∧ (s.vr .MB_BEGUN 0 m = 0 ∧ ts ≠ []))
    ∧ (∃ (s : State) (m : Fin 64),
      let ts := s.maskTiles (s.mbArg m 0 8)
      let all := ∀ x ∈ ts, s.rd .TC_PREEMPT_DONE x.2 = 1
      (s.serves m 0x0305 = true) ∧ (s.vr .MB_BEGUN 0 m ≠ 0 ∧ all))
    ∧ (∃ (s : State) (m : Fin 64),
      let ts := s.maskTiles (s.mbArg m 0 8)
      let all := ∀ x ∈ ts, s.rd .TC_PREEMPT_DONE x.2 = 1
      let late := (∃ x ∈ ts, s.vr .PREEMPT_LATE x.2 = 1) ∨ s.ackGtc m + s.eightFrames ≤ s.gtc
      (s.serves m 0x0305 = true) ∧ (s.vr .MB_BEGUN 0 m ≠ 0 ∧ ¬ all ∧ late))
    ∧ (∃ (s : State) (m : Fin 64),
      let ts := s.maskTiles (s.mbArg m 0 8)
      (s.serves m 0x0306 = true) ∧ (s.mbArg m 8 1 = 0 ∧ ts = [(39, 39)]))
    ∧ (∃ (s : State) (m : Fin 64), (s.serves m 0x0306 = true) ∧ (s.mbArg m 8 1 ≠ 0 ∧ s.vr .TILE_HELD 39 ≠ 0 ∧ s.dom 39 = 0)) :=
  ⟨⟨mbx 63 0 0x0302 [63] [wr .GT_LAUNCH_CTL_STATE 1 0 0, wr .GT_LAUNCH_CTL_STATE 1 0 1, wr .GT_LAUNCH_CTL_STATE 1 0 2, wr .GT_LAUNCH_CTL_STATE 1 0 3], 63, by decide +kernel⟩,
   ⟨mbx 63 0 0x0302 [63] [on 171, wr .GT_LAUNCH_CTL_STATE 1 0 0, wr .GT_LAUNCH_CTL_STATE 1 0 1, wr .GT_LAUNCH_CTL_STATE 1 0 2], 63, by decide +kernel⟩,
   ⟨mbx 63 0 0x0303 [63] [on 171, wr .GT_LAUNCH_CTL_STATE 1 0 3, wr .GT_LAUNCH_CTL_JOB 63 0 3, wr .GT_LAUNCH_AT_L 5 0 3], 63, by decide +kernel⟩,
   ⟨mbx 63 0 0x0304 [63] [], 63, by decide +kernel⟩,
   ⟨mbx 63 0 0x0304 [63] [.parts fun p => { p with jobs := p.jobs.put 63 (some ⟨0, 0, 0, 1, 0, 0, 0, [0], 0, 0, 1, [], 0, 0, false, false, 0, 0, 1, 0, 1, 0⟩) }], 63, by decide +kernel⟩,
   ⟨mbx 63 0 0x0304 [63] [wr .GT_FRAME_CUR_LEN 10, .parts fun p => { p with jobs := p.jobs.put 63 (some ⟨0, 0, 0, 1, 0, 0, 0, [0], 0, 0, 1, [], 0, 0, false, false, 0, 0, 1, 0, 1, 0⟩) }], 63, by decide +kernel⟩,
   ⟨mbx 63 10 0x0304 [63] [wr .GT_FRAME_CUR_LEN 10, wv .TICK_AT 11, .parts fun p => { p with jobs := p.jobs.put 63 (some ⟨0, 0, 0, 1, 0, 0, 0, [0], 0, 0, 1, [], 0, 0, false, false, 1, 0, 1, 0, 1, 0⟩) }], 63, by decide +kernel⟩,
   ⟨mbx 63 0 0x0305 (leBytes 8 1 ++ leBytes 8 0x1000 ++ leBytes 4 0x1000) [], 63, by decide +kernel⟩,
   ⟨mbx 63 0 0x0305 (leBytes 8 1 ++ leBytes 8 0x1000 ++ leBytes 4 0x1000) [wv .MB_BEGUN 1 0 63, wr .TC_PREEMPT_DONE 1 0], 63, by decide +kernel⟩,
   ⟨mbx 63 8388608 0x0305 (leBytes 8 1 ++ leBytes 8 0x1000 ++ leBytes 4 0x1000) [wv .MB_BEGUN 1 0 63], 63, by decide +kernel⟩,
   ⟨mbx 63 0 0x0306 (leBytes 8 (2 ^ 39) ++ [0]) [on 39], 63, by decide +kernel⟩,
   ⟨mbx 63 0 0x0306 (leBytes 8 (2 ^ 39) ++ [1]) [wv .TILE_HELD 1 39], 63, by decide +kernel⟩⟩

/-! ### Ill-formed terms, one for each check of WellFormed -/

theorem test_packet_op_width : (pk 256 0 0 []).wellFormed = false := by decide
theorem test_packet_class : ({ pk 1 0 8 [] with cls := 4 } : Packet).wellFormed = false := by decide
theorem test_packet_ttl : ({ pk 1 0 8 [] with ttl := 32 } : Packet).wellFormed = false := by decide
theorem test_packet_nodes : ({ pk 1 0 8 [] with srcNode := 65536 } : Packet).wellFormed = false
    ∧ ({ pk 1 0 8 [] with dstNode := 65536 } : Packet).wellFormed = false := by decide
theorem test_packet_tile_and_tag : ({ pk 1 0 8 [] with srcTile := 64 } : Packet).wellFormed = false
    ∧ ({ pk 1 0 8 [] with tag := 1024 } : Packet).wellFormed = false := by decide
theorem test_packet_addr_and_len : (pk 1 (2 ^ 48) 8 []).wellFormed = false ∧ (pk 1 0 4097 []).wellFormed = false := by decide
theorem test_packet_small_fields : ({ pk 1 0 8 [] with atype := 16 } : Packet).wellFormed = false
    ∧ ({ pk 1 0 8 [] with stamp := 2 ^ 64 } : Packet).wellFormed = false ∧ ({ pk 1 0 8 [] with d := 2 ^ 24 } : Packet).wellFormed = false
    ∧ ({ pk 1 0 8 [] with cnt := 32 } : Packet).wellFormed = false ∧ ({ pk 1 0 8 [] with status := 256 } : Packet).wellFormed = false := by decide
theorem test_packet_data : (pk 2 0 8 (List.replicate 4097 0)).wellFormed = false := by decide +kernel
theorem test_block_credits : (Instr.linkBlockReceive 0 ⟨0, 0, false, [1, 1, 1], [], 0, 0, 0, true, false⟩).wellFormed = false := by decide
theorem test_block_packets : (Instr.linkBlockReceive 0 ⟨0, 0, false, [1, 1, 1, 1], [pk 256 0 0 []], 0, 0, 0, true, false⟩).wellFormed = false := by decide
theorem test_image_digest : (Instr.rennetLoad (some ⟨1, 0, [], [], [], []⟩) []).wellFormed = false := by decide
theorem test_image_imem : (Instr.rennetLoad (some ⟨1, 0, List.replicate 32 0, List.replicate 65537 0, [], []⟩) []).wellFormed = false := by decide +kernel
theorem test_image_dmem : (Instr.rennetLoad (some ⟨1, 0, List.replicate 32 0, [], List.replicate 65537 0, []⟩) []).wellFormed = false := by decide +kernel
theorem test_bad_tiles_once : (Instr.rennetLoad none [3, 3]).wellFormed = false := by decide
theorem test_broadcast_image : (Instr.treeBroadcast none ⟨0, 0, .rennet ⟨1, 0, [], [], [], []⟩⟩ []).wellFormed = false := by decide
theorem test_short_write_data : (Instr.stackRequest 0 true false 0 2 [1] 0).wellFormed = false := by decide
theorem test_long_write_data : (Instr.stackRequest 0 true true 0 0 [1] 0).wellFormed = false := by decide
theorem test_orders : (Instr.cutOrder 0 0 (List.replicate 41 ⟨0, 0, 0, []⟩)).wellFormed = false := by decide
theorem test_manifest_places : (Instr.manifestWrite 0 [] [0, 0, 0, 0, 0] 0).wellFormed = false := by decide
theorem test_shard_digests : (Instr.manifestWrite 0 [⟨0, 0, 0, 0, 0, 0, false, 0, false, 0, 0, [], 0, false⟩] [] 0).wellFormed = false
    ∧ (Instr.checkpointDeadline 0 [⟨0, 0, 0, 0, 0, 0, false, 0, false, 0, 0, [], 0, false⟩]).wellFormed = false
    ∧ (Instr.restoreLoadComplete [⟨0, 0, 0, 0, 0, 0, [], 0, false, 0⟩] 0 0 0 none).wellFormed = false := by decide
theorem test_payload : (Instr.mailboxHandover 0 0 0 1 3 0 0 (List.replicate 4033 0)).wellFormed = false := by decide +kernel
theorem test_copies : (Instr.restore 0 [[], [], [], [], []] []).wellFormed = false := by decide

/-! ### Worked examples of the spec, and hand calculation from its rules -/

/-- The state that a command leaves. -/
def after (c : Instr) (s : State) : State := match exec c s with | .next t => t | _ => s

/-- The example under R261: stack 1, channel 110, bank 10, row 1,864, byte 0. -/
theorem test_stack_hash : stackMap 0x001234567800 = ⟨1, 110, 10, 1864, 0⟩ := by decide
/-- Its next granule lands on stack 0, channel 110. -/
theorem test_stack_hash_next : (stackMap 0x001234567900).stack = 0 ∧ (stackMap 0x001234567900).ch = 110 := by decide
/-- The example under R154: FP32 0x3F806000 to BF16 with r = 0xB3C10000 and with r = 0x12000000. -/
theorem test_stochastic_rounding : (Fmt.bf16.convert .fp32 (.stoch 0xB3C10000) false 0x3F806000).1 = 0x3F81
    ∧ (Fmt.bf16.convert .fp32 (.stoch 0x12000000) false 0x3F806000).1 = 0x3F80 := by decide +kernel
/-- The example of sliced precision: the slices of 6.5 and of -2^-7 in a row with E = 2. -/
theorem test_row_slices : (List.range 7).map (fun p => slByte 7 2 p (Fmt.fp64.decode 0x401A000000000000)) = [104, 0, 0, 0, 0, 0, 0]
    ∧ (List.range 7).map (fun p => slByte 7 2 p (Fmt.fp64.decode 0xBF80000000000000)) = [255, 224, 0, 0, 0, 0, 0] := by decide +kernel
/-- The slices of 1 + 2^-52 in a column with F = 1. -/
theorem test_column_slices : (List.range 7).map (fun p => slByte 7 1 p (Fmt.fp64.decode 0x3FF0000000000001)) = [32, 0, 0, 0, 0, 0, 2] := by decide +kernel
/-- Its three sums at the scale 2^-105 round to 0x4019F00000000002. -/
theorem test_sliced_output :
    mmfElem .fp64 0 (.fin false 1 0) false (3264 * 2 ^ 96 + 14336 * 2 ^ 88 + 208 * 2 ^ 48) (-105) = 0x4019F00000000002 := by decide +kernel
/-- Strict mode there has 14 pairs, W = 128 and M_s = 512. -/
theorem test_strict_pairs : (slPairs true 0 2 7).length = 14 ∧ slWidth 2 7 = 128 ∧ slHeight 2 7 = 512 := by decide +kernel
/-- The example of fabric links: RT = 1,068 gives F = 58, the long-cable class of Table 13.5 (2). -/
theorem test_link_flight : flightOf 1068 = 58 ∧ classOf 58 = 2 := by decide
/-- The example of R60: a frame of 1,050,000 cycles gives T_ack = 10,500,000. -/
theorem test_tAck : (st [wr .GT_FRAME_CUR_LEN 1050000]).tAck = 10500000 := by decide +kernel

/-- 2^64 - 1 plus 1 wraps to 0, and gp0 takes nothing (R65). -/
theorem test_add_wraps : (after (.integerAlu 0 .add 3 1 (.imm 1) 0) (coreOn [wv .GP (2 ^ 64 - 1) 0 1, wv .GP 7 0 3])).vr .GP 0 3 = 0 := by decide +kernel
theorem test_gp0_keeps : (after (.integerAlu 0 .add 0 1 (.imm 1) 0) (coreOn [wv .GP 6 0 1])).vr .GP 0 0 = 0 := by decide +kernel
/-- 1.5 × 2.0 + 0.5 = 3.5 in FP64. -/
theorem test_fma : (after (.scalarFp 0 .fma .fp64 4 1 2 3) (coreOn [wv .SV 0x3FF8000000000000 0 1, wv .SV 0x4000000000000000 0 2, wv .SV 0x3FE0000000000000 0 3])).vr .SV 0 4
    = 0x400C000000000000 := by decide +kernel
/-- An INT32 add at the lowest value of the sector: -2^31 + 1 (R341). -/
theorem test_atomic_add : (after (.stackAtomic 0 4 .add .i32 1 0) (st [on 80, .byte 7 0x80])).num 4 4 = 0x80000001 := by decide +kernel
/-- A routing entry is written at the index that the write names (R331). -/
theorem test_rt_entry : (after (.routeEntryWrite 3 0xFFFF) (st [on 167, wr .NI_RT_DATA_ENTRY 0x1234 3])).vr .RT 3 0xFFFF = 0x1234 := by decide +kernel
/-- A trip of 94 is below R279's range and keeps its value; HYST is taken. -/
theorem test_trip_range : (after (.lsCtlWrite 0 0x15E) (st [on 80])).rd .LS_CTL_TRIP 0 = 110 ∧ (after (.lsCtlWrite 0 0x15E) (st [on 80])).rd .LS_CTL_HYST 0 = 1 := by decide +kernel
/-- EC_SCRUB_PERIOD takes no value below 2,048 (R297). -/
theorem test_scrub_period : (after (.scrubPeriodWrite 2048) (st [on 169])).rd .EC_SCRUB_PERIOD_CYCLES = 2048
    ∧ (after (.scrubPeriodWrite 2047) (st [on 169, wr .EC_SCRUB_PERIOD_CYCLES 4000])).rd .EC_SCRUB_PERIOD_CYCLES = 4000 := by decide +kernel
/-- A handover of a mailbox that the firmware owns is counted and changes no byte (R429). -/
theorem test_handover_refused : (after (.mailboxHandover 63 1 0 1 3 0 0 [9]) (st [on 169, on 173, wr .MB_OWN_OWN (2 ^ 63)])).rd .MB_VIOL_HOST_WR = 1
    ∧ (after (.mailboxHandover 63 1 0 1 3 0 0 [9]) (st [on 169, on 173, wr .MB_OWN_OWN (2 ^ 63)])).byte (mboxBase 63 + 64) = 0 := by decide +kernel
/-- An enable of an OFF domain above 79 starts it; an enable of tile 0 waits for its slot (Table 19.3, R468). -/
theorem test_enable : (after (.pmDomEnWrite 80 true) (st [wr .PM_STAT_RAILS_OK 1])).dom 80 = 1
    ∧ (after (.pmDomEnWrite 0 true) (st [wr .PM_STAT_RAILS_OK 1])).rd .PM_DOM_SLOT_WAIT 0 0 = 1 := by decide +kernel
/-- Sixteen edges show a swap, fifteen do not (R522). -/
theorem test_swap : (after (.i3cSwapDetect 16) (st [on 168])).vr .I3C_SWAP = 1 ∧ (after (.i3cSwapDetect 15) (st [on 168])).vr .I3C_SWAP = 0 := by decide +kernel
/-- SCRAP ends the lifecycle in RMA alone (R487). -/
theorem test_scrap : (after .lifecycleScrap (st [on 170])).fuses.lifecycle = 1 := by decide +kernel
/-- A cycle passes on an empty queue, and the GTC wraps at 2^64 (R34). -/
theorem test_gtc_wraps : (match step (at_ (2 ^ 64 - 1) 0 [on 171]) with | .next t => t.gtc | _ => 1) = 0 := by decide +kernel
/-- The table gives no row any bits, so no word spells a command. -/
theorem test_no_word : decodeTableWord 8 0 = none := by decide

end Sys2Proof.Tests
end

section
/-! SUPPORT. The skipped cut (R412): what ends a generation, what a cut order does while another generation is open, and what the tick that ends
a triggering step does then. -/
namespace Sys2Proof.Machine

variable {P : Loc → Prop} {B : Nat → Prop}

/-! ### The end of a generation (R415) -/

/-- Checkpointing of a job with a generation no longer in progress. -/
def Ck.without (k : Ck) (gen : Nat) : Ck := { k with gens := k.gens.filter fun x => x.gen != gen }

@[simp] theorem Ck.newest_without (k : Ck) (gen : Nat) : (k.without gen).newest = k.newest := rfl

theorem Ck.gen_ne_of_mem_without {k : Ck} {gen : Nat} {x : CkGen} (h : x ∈ (k.without gen).gens) : x.gen ≠ gen := by
  simpa using (List.mem_filter.1 h).2

/-- Where the event queue has room, the end of a generation takes it off the list of its job and queues its event. -/
theorem endGen_eq {s : State} (job : Nat) (g : CkGen) (status : Nat) (h : s.parts.events.length < 4096) :
    endGen job g status s = [ckSet job (·.without g.gen),
      .parts fun p => { p with events := p.events ++ [⟨s.gtc, 0x0003, status, job, [g.gen, g.step]⟩] }] := by
  simp only [endGen, postEvent, if_pos h]
  rfl

theorem actsIn_endGen {s : State} (job : Nat) (g : CkGen) (status : Nat) (h : s.parts.events.length < 4096) :
    ActsIn P B (endGen job g status s) := by
  rw [endGen_eq job g status h]
  exact actsIn_cons trivial (actsIn_cons trivial actsIn_nil)

theorem parts_perform_endGen {s : State} (job : Nat) (g : CkGen) (status : Nat) (h : s.parts.events.length < 4096) :
    (s.perform (endGen job g status)).parts = { s.parts with
      ck := s.parts.ck.put job ((s.parts.ck.find job).map (·.without g.gen))
      events := s.parts.events ++ [⟨s.gtc, 0x0003, status, job, [g.gen, g.step]⟩] } := by
  rw [State.perform, endGen_eq job g status h]
  rfl

/-! ### No order for a generation that finds another open -/

/-- While a generation is in progress, the next one is only noted: no tile gets an order. -/
theorem actsIn_cutOrder {s : State} {job : Nat} {k : Ck} (step : Nat) (orders : List TileOrder) (hck : s.parts.ck.find job = some k)
    (hopen : k.gens ≠ []) : ActsIn P B (cutOrder job step orders s) := by
  unfold cutOrder
  split
  case h_2 => exact actsIn_nil
  case h_1 j k' _ hck' =>
    obtain rfl : k = k' := Option.some.inj (hck.symm.trans hck')
    have hunordered : k.gens.isEmpty = false := by simpa using hopen
    split
    · exact actsIn_nil
    · refine actsIn_append.2 ⟨actsIn_cons trivial actsIn_nil, actsIn_append.2 ⟨?_, actsIn_nil⟩⟩
      cases k.at step with
      | none => exact actsIn_nil
      | some p =>
        simp only [hunordered]
        exact actsIn_nil

/-! ### The generation of a step that ends -/

/-- The generation of step c: the one in progress, or else the next (R403). -/
def Ck.genOfStep (k : Ck) (c : Nat) : CkGen := (k.gens.find? fun g => g.step == c).getD ⟨k.next, c, k.slots, [], false, 0, []⟩

theorem Ck.gen_genOfStep (k : Ck) (c : Nat) : (k.genOfStep c).gen = ((k.gens.find? fun g => g.step == c).map CkGen.gen).getD k.next := by
  unfold Ck.genOfStep
  cases k.gens.find? fun g => g.step == c <;> rfl

theorem Ck.step_genOfStep (k : Ck) (c : Nat) : (k.genOfStep c).step = c := by
  unfold Ck.genOfStep
  cases hf : k.gens.find? fun g => g.step == c with
  | none => rfl
  | some g => simpa using List.find?_some hf

/-- Checkpointing `k'` of a job once step c has the generation that `k` gives it: a new one joins those in progress. -/
def Ck.assign (k : Ck) (c : Nat) (k' : Ck) : Ck :=
  if (k.gens.find? fun g => g.step == c).isNone then { k' with next := (k'.next + 1) % 2 ^ 32, gens := k'.gens ++ [k.genOfStep c] } else k'

@[simp] theorem Ck.newest_assign (k : Ck) (c : Nat) (k' : Ck) : (k.assign c k').newest = k'.newest := by
  unfold Ck.assign
  split <;> rfl

/-! ### The tick that ends a triggering step (R404, R412) -/

/-- The job once step c has ended: the next step opens after the pause. -/
def Job.goesOn (j : Job) (c gtc pause : Nat) : Job := { j with step := c + 1, opened := (gtc + pause) % 2 ^ 64 + 1, prevEnd := gtc }

/-- The next step of a job opens. -/
def openNext (n : Nat) (j : Job) : Act := .parts fun x => { x with jobs := x.jobs.put n (some j) }

section
variable {s : State} {n : Nat} {j : Job} {k : Ck} {p : CkPolicy} {c : Nat}

/-- A due cut is skipped while the generation of another step is in progress (R412), and is taken otherwise (R404). -/
theorem checkpointCut_of_cutDue (h : s.CutDue n j k p c) (entry : Nat) (places : Place × Place) :
    checkpointCut n entry places s =
      if k.gens.any fun x => x.step != c then
        plans [fun _ => [ckSet n (k.assign c), openNext n (j.goesOn c s.gtc 0)], endGen n (k.genOfStep c) 0x17] s
      else
        plans [fun _ => [ckSet n (k.assign c), openNext n (j.goesOn c s.gtc (p.ckFrames * s.rd .GT_FRAME_CUR_LEN)),
            genSet n (k.genOfStep c).gen fun g => { g with cut := s.gtc + 1 }],
          rootShards n j p (k.genOfStep c) s.gtc entry places] s := by
  obtain ⟨hjob, hck, hopened, hsched, htick, hlater, ⟨hpos, hwhole⟩, rfl, htrig, hpol⟩ := h
  have hdue : ¬ (j.opened = 0 ∨ ¬ s.scheduled ∨ ¬ gtcBefore (j.opened - 1) s.gtc ∨ gtcSpan (j.opened - 1) s.gtc % max 1 (s.stepLen j) ≠ 0
      ∨ gtcSpan (j.opened - 1) s.gtc = 0 ∨ ¬ s.atTick
      ∨ ¬ s.triggers j k (j.step + gtcSpan (j.opened - 1) s.gtc / max 1 (s.stepLen j) - 1)) := by
    simp [hopened, hsched, hlater, hwhole, hpos, htick, htrig]
  simp only [checkpointCut, hjob, hck, if_neg hdue, hpol]
  rfl

/-- At a skipped cut the step gets its generation, the next step opens without a pause, and the generation ends with status 0x17. -/
theorem perform_checkpointCut_skipped (h : s.CutDue n j k p c) (hopen : ∃ x ∈ k.gens, x.step ≠ c) (entry : Nat) (places : Place × Place) :
    s.perform (checkpointCut n entry places)
      = (s.run [ckSet n (k.assign c), openNext n (j.goesOn c s.gtc 0)]).perform (endGen n (k.genOfStep c) 0x17) := by
  have hany : (k.gens.any fun x => x.step != c) = true := by simpa using hopen
  rw [State.perform, checkpointCut_of_cutDue h, if_pos hany]
  exact (perform_plans_cons s _ _).trans (perform_plans_cons _ _ [])

/-- A skipped cut leaves the list of generations without its own, the job in its next step, and one event. -/
theorem parts_perform_checkpointCut_skipped (h : s.CutDue n j k p c) (hopen : ∃ x ∈ k.gens, x.step ≠ c)
    (hroom : s.parts.events.length < 4096) (entry : Nat) (places : Place × Place) :
    (s.perform (checkpointCut n entry places)).parts = { s.parts with
      ck := (s.parts.ck.put n (some (k.assign c k))).put n (some ((k.assign c k).without (k.genOfStep c).gen))
      jobs := s.parts.jobs.put n (some (j.goesOn c s.gtc 0))
      events := s.parts.events ++ [⟨s.gtc, 0x0003, 0x17, n, [(k.genOfStep c).gen, c]⟩] } := by
  rw [perform_checkpointCut_skipped h hopen, parts_perform_endGen]
  · simp [ckSet, openNext, h.ck, Ck.step_genOfStep]
  · exact hroom

/-- A skipped cut touches no register, variable or byte. -/
theorem within_checkpointCut_skipped (h : s.CutDue n j k p c) (hopen : ∃ x ∈ k.gens, x.step ≠ c)
    (hroom : s.parts.events.length < 4096) (entry : Nat) (places : Place × Place) :
    Within s (s.perform (checkpointCut n entry places)) P B := by
  rw [perform_checkpointCut_skipped h hopen, State.perform, ← run_append]
  refine within_run s (actsIn_append.2 ⟨actsIn_cons trivial (actsIn_cons trivial actsIn_nil), ?_⟩)
  exact actsIn_endGen n (k.genOfStep c) 0x17 hroom

end

/-- Settles O57: a generation that finds another open gets no order, and the tick that ends its step skips the cut. -/
theorem skippedCut : Obligations.SkippedCut := by
  unfold Obligations.SkippedCut
  refine ⟨fun s n step orders j k _ hck hopen => ?_, fun s n entry p1 p2 j k p c h hopen hroom => ?_⟩
  · exact ⟨_, rfl, within_run s (actsIn_cutOrder step.toNat orders hck hopen)⟩
  · have hparts := parts_perform_checkpointCut_skipped h hopen hroom entry.toNat (p1, p2)
    rw [← k.gen_genOfStep c]
    refine ⟨_, (k.assign c k).without (k.genOfStep c).gen, rfl, by rw [hparts], ?_, ?_, by simp, ?_, by rw [hparts], by rw [hparts], ?_⟩
    · simp [hparts, Job.goesOn]
    · simp [hparts]
    · exact fun _ => Ck.gen_ne_of_mem_without
    · exact within_checkpointCut_skipped h hopen hroom entry.toNat (p1, p2)

end Sys2Proof.Machine
end

section
/-! SUPPORT. The return of a host mailbox (R431): what its bytes and OWN read afterwards. -/
namespace Sys2Proof.Machine

/-! ### Bytes of memory as lists and numbers -/

theorem length_bytes (s : State) (a n : Nat) : (s.bytes a n).length = n := by simp [State.bytes]

theorem bytes_add (s : State) (a n k : Nat) : s.bytes a (n + k) = s.bytes a n ++ s.bytes (a + n) k := by
  simp [State.bytes, List.range_add, Nat.add_assoc]

theorem bytes_succ (s : State) (a n : Nat) : s.bytes a (n + 1) = s.byte a :: s.bytes (a + 1) n := by
  rw [Nat.add_comm, bytes_add]
  simp [State.bytes]

theorem bytes_congr {s t : State} {a n : Nat} (h : ∀ k < n, t.byte (a + k) = s.byte (a + k)) : t.bytes a n = s.bytes a n :=
  List.map_congr_left fun k hk => h k (List.mem_range.1 hk)

/-- Memory that holds the little-endian bytes of a number reads as that number. -/
theorem num_of_bytes_eq_leBytes {s : State} {n a v : Nat} (h : s.bytes a n = leBytes n v) : s.num a n = v % 256 ^ n := by
  induction n generalizing a v with
  | zero => simp [State.num, State.bytes, leNat, Nat.mod_one]
  | succ n ih =>
    rw [bytes_succ, leBytes] at h
    obtain ⟨hbyte, hrest⟩ := List.cons.inj h
    have hlow : (BitVec.ofNat 8 v).toNat = v % 256 := BitVec.toNat_ofNat v 8
    calc s.num a (n + 1) = (s.byte a).toNat + 256 * s.num (a + 1) n := congrArg leNat (bytes_succ s a n)
      _ = v % 256 + 256 * (v / 256 % 256 ^ n) := by rw [hbyte, ih hrest, hlow]
      _ = v % 256 ^ (n + 1) := by rw [Nat.pow_succ', Nat.mod_mul]

/-- Stored bytes read back as a list. -/
theorem bytes_run_putBytes (s : State) (a : Nat) (bs : List Byte) : (s.run (putBytes a bs)).bytes a bs.length = bs := by
  refine List.ext_getElem (length_bytes ..) fun k _ hk => ?_
  simpa [State.bytes] using byte_run_putBytes bs s a k hk

/-- Ranges outside the stored bytes keep theirs. -/
theorem bytes_run_putBytes_other (s : State) {a x n : Nat} {bs : List Byte} (h : x + n ≤ a ∨ a + bs.length ≤ x) :
    (s.run (putBytes a bs)).bytes x n = s.bytes x n :=
  bytes_congr fun k hk => byte_run_putBytes_other bs (x + k) s a (by omega)

/-! ### One bit of a word -/

theorem testB_eq_testBit (v b : Nat) : testB v b = v.testBit b :=
  (congrArg (fun x => x % 2 == 1) (Nat.shiftRight_eq_div_pow v b)).trans Nat.testBit_eq_decide_div_mod_eq.symm

theorem testB_clrB_same (v b : Nat) : testB (clrB v b) b = false := by
  unfold clrB
  split
  case isTrue h =>
    rw [testB, Nat.shiftRight_eq_div_pow] at h ⊢
    have hdiv : (v - 2 ^ b) / 2 ^ b = v / 2 ^ b - 1 := by simpa using Nat.sub_mul_div v (2 ^ b) 1
    simp only [beq_iff_eq] at h
    simp only [hdiv, beq_eq_false_iff_ne]
    omega
  case isFalse h => simpa using h

/-! ### The return -/

/-- What the return does last: the pending bit clears, and the owning port is notified where HOST_NOTIFY is 1. -/
def State.notifyHost (s : State) (m : Nat) : List Act :=
  wr .MB_PEND_PEND (clrB (s.rd .MB_PEND_PEND) m)
    :: if s.rd .MB_CTL_HOST_NOTIFY = 1 then [bumpV s .MB_NOTIFY 1 0 (bitOf (s.rd .MB_PORT_MAP_PORT) m)] else []

/-- What the return does once the response, its length, DONE_BY and STATUS are stored: the mailbox takes OWN = 0, in its bytes and in the register. -/
def State.handBack (s : State) (m : Nat) : List Act :=
  .byte (mboxBase m) (s.byte (mboxBase m) &&& 0xFE) :: wr .MB_OWN_OWN (clrB (s.rd .MB_OWN_OWN) m) :: s.notifyHost m

theorem actsIn_notifyHost {P : Loc → Prop} {B : Nat → Prop} (s : State) (m : Nat) (hpend : P (.reg .MB_PEND_PEND 0 0))
    (hnotify : ∀ port, P (.var .MB_NOTIFY 0 port)) : ActsIn P B (s.notifyHost m) := by
  refine actsIn_cons hpend ?_
  split
  · exact actsIn_cons (hnotify _) actsIn_nil
  · exact actsIn_nil

theorem perform_mailboxReturn (s : State) (m status : Nat) (rsp : List Byte) (doneBy : Nat) :
    s.perform (mailboxReturn m status rsp doneBy)
      = ((((s.run (putBytes (mboxBase m + 64) rsp)).run (putBytes (mboxBase m + 10) (leBytes 2 rsp.length))).run
          (putBytes (mboxBase m + 24) (leBytes 8 doneBy))).run (putBytes (mboxBase m + 4) (leBytes 1 status))).run (s.handBack m) := by
  simp only [← run_append, List.append_assoc]
  simp only [State.perform, mailboxReturn, State.handBack, State.notifyHost, putNum, List.append_assoc, List.cons_append, List.nil_append]

/-- The hand-back reaches no byte but the mailbox's first. -/
theorem bytes_run_handBack (s t : State) {m x : Nat} (n : Nat) (h : mboxBase m < x) : (t.run (s.handBack m)).bytes x n = t.bytes x n := by
  have hin : ActsIn (fun _ => True) (· = mboxBase m) (s.handBack m) :=
    actsIn_cons rfl (actsIn_cons trivial (actsIn_notifyHost s m trivial fun _ => trivial))
  exact bytes_congr fun k _ => byte_run_of_actsIn (by omega) t hin

theorem mbOwn_run_handBack (s t : State) (m : Nat) : (t.run (s.handBack m)).mbOwn m = false := by
  have hown : (t.run (s.handBack m)).rd .MB_OWN_OWN = clrB (s.rd .MB_OWN_OWN) m % 2 ^ 64 := by
    have hlater : ActsIn (· ≠ .reg .MB_OWN_OWN 0 0) (fun _ => False) (s.notifyHost m) :=
      actsIn_notifyHost s m (by simp) fun _ => by simp
    exact (get_run_of_actsIn (fun h => h rfl) _ hlater).trans ((get_act_reg ..).trans (if_pos rfl))
  rw [State.mbOwn, hown, testB_eq_testBit, Nat.testBit_mod_two_pow, ← testB_eq_testBit, testB_clrB_same, Bool.and_false]

/-- A mailbox that the firmware returns stands returned with the status and response. -/
theorem isReturned_mailboxReturn (s : State) (m : Nat) {status : Nat} (rsp : List Byte) (doneBy : Nat) (h : status < 256) :
    (s.perform (mailboxReturn m status rsp doneBy)).IsReturned m status rsp := by
  rw [perform_mailboxReturn]
  refine ⟨mbOwn_run_handBack _ _ _, ?_, ?_, ?_⟩
  · refine (num_of_bytes_eq_leBytes (v := status) ?_).trans (Nat.mod_eq_of_lt h)
    exact (bytes_run_handBack _ _ _ (by omega)).trans (bytes_run_putBytes _ _ (leBytes 1 status))
  · refine num_of_bytes_eq_leBytes (n := 2) (v := rsp.length) ?_
    refine (bytes_run_handBack _ _ _ (by omega)).trans ((bytes_run_putBytes_other _ (by simp [leBytes])).trans ?_)
    exact (bytes_run_putBytes_other _ (by omega)).trans (bytes_run_putBytes _ _ (leBytes 2 rsp.length))
  · rw [bytes_run_handBack _ _ _ (by omega), bytes_run_putBytes_other _ (by simp [leBytes]),
      bytes_run_putBytes_other _ (by simp [leBytes]), bytes_run_putBytes_other _ (by simp [leBytes]), bytes_run_putBytes]

/-- A served command without work of its own only returns its mailbox. -/
theorem perform_command_of_serves {s : State} {m cmd : Nat} (answer : State → Nat × List Byte) (h : s.serves m cmd = true) :
    s.perform (command m cmd (fun _ => []) answer) = s.perform (mailboxReturn m (answer s).1 (answer s).2 s.gtc) := by
  simp [State.perform, command, plans, Plan.seq, h]

end Sys2Proof.Machine
end

section
/-! SUPPORT. The readiness gate (R464): JOB_SETUP before the package is ready, the sample of group 0x0000, and what TELEM_READ returns of it. -/
namespace Sys2Proof.Machine

/-- While JOB_READY is 0, a served JOB_SETUP only returns 0x8C. -/
theorem perform_jobSetup_of_not_jobReady {s : State} {m : Nat} (agree : Bool) (hserves : s.serves m 0x0301 = true) (hready : s.jobReady = false) :
    s.perform (jobSetup m agree) = s.perform (mailboxReturn m 0x8C [] s.gtc) := by
  simp [State.perform, jobSetup, hserves, hready]

/-- The samples of a list of groups leave the value of each group listed, and the earlier sample of every other. -/
theorem find_telem_run_samples (f : Nat → Sample) (gs : List Nat) (g : Nat) (s : State) :
    (s.run (gs.map fun k => .parts fun p => { p with telem := p.telem.put k (some (f k)) })).parts.telem.find g
      = if g ∈ gs then some (f g) else s.parts.telem.find g := by
  induction gs generalizing s with
  | nil => rfl
  | cons k gs ih =>
    rw [List.map_cons, run_cons, ih]
    by_cases hk : g = k
    · simp [hk]
    · simp [hk]

/-- A telemetry sample that is due samples group 0x0000. -/
theorem find_telem_perform_telemetrySample {s : State} (hready : s.fwReady = true) (hdue : 8 * 2 ^ s.rd .MB_STAT_TELEM_SHIFT ≤ s.vr .PERIOD_CNT) :
    (s.perform telemetrySample).parts.telem.find 0 = some ⟨s.groupWords 0, s.gtc⟩ := by
  have hgo : ¬ (¬ s.fwReady = true ∨ s.vr .PERIOD_CNT < 8 * 2 ^ s.rd .MB_STAT_TELEM_SHIFT) := by simp [hready, hdue]
  rw [State.perform, telemetrySample, if_neg hgo, run_cons]
  exact (find_telem_run_samples (fun g => ⟨s.groupWords g, s.gtc⟩) ..).trans (if_pos (List.mem_append_left _ (by decide)))

/-- TELEM_READ of a group that has been sampled stands returned with the sample's words and its GTC. -/
theorem isReturned_telemRead {s : State} {m : Fin 64} {x : Sample} (hserves : s.serves m 0x0401 = true)
    (hfind : s.parts.telem.find (s.mbArg m 0 2) = some x) :
    ∃ t, exec (.telemRead m) s = .next t ∧ t.IsReturned m 0 (x.words.flatMap (leBytes 8) ++ leBytes 8 x.gtc) := by
  refine ⟨_, rfl, ?_⟩
  rw [perform_command_of_serves _ hserves]
  simpa only [hfind, Option.getD_some] using isReturned_mailboxReturn s m (x.words.flatMap (leBytes 8) ++ leBytes 8 x.gtc) s.gtc (by decide : 0 < 256)

/-- Settles O60: JOB_SETUP returns 0x8C until the package is ready, and TELEM_READ of group 0x0000 returns the sampled PM_READY and PM_STAT. -/
theorem readinessGate : Obligations.ReadinessGate := by
  unfold Obligations.ReadinessGate
  refine ⟨fun s m agree hserves hready => ⟨_, rfl, ?_⟩, fun s hready hdue => ⟨_, s.gtc, rfl, ?_⟩, fun s m ready stat g hserves hgroup hfind => ?_⟩
  · rw [perform_jobSetup_of_not_jobReady agree hserves hready]
    exact isReturned_mailboxReturn s m [] s.gtc (by decide)
  · exact find_telem_perform_telemetrySample hready hdue
  · rw [← hgroup] at hfind
    obtain ⟨t, hexec, hown, hstatus, -, hresponse⟩ := isReturned_telemRead hserves hfind
    have hwords : t.bytes (mboxBase m + 64) (8 + 16) = leBytes 8 ready ++ (leBytes 8 stat ++ leBytes 8 g) := hresponse
    rw [bytes_add, bytes_add t _ 8 8] at hwords
    obtain ⟨hready, hrest⟩ := List.append_inj hwords (length_bytes ..)
    obtain ⟨hstat, -⟩ := List.append_inj hrest (length_bytes ..)
    exact ⟨t, hexec, hown, hstatus, num_of_bytes_eq_leBytes hready, num_of_bytes_eq_leBytes hstat⟩

end Sys2Proof.Machine
end

section
/-! SUPPORT. Boundary scan (R489): the instruction that the TAP serves once one is loaded, when the boot ROM is ready for an image, and that what it
does with one leaves the mailbox acknowledged. -/
namespace Sys2Proof.Machine

variable {B : Nat → Prop}

/-! ### The instruction that is served -/

theorem tapCode_lt (i : TapInstr) : tapCode i < 2 ^ Var.TAP.width := by cases i <;> decide

/-- The codes 3 to 5 are those of EXTEST and its kin. -/
theorem tapCode_extest_iff (i : TapInstr) : (3 ≤ tapCode i ∧ tapCode i ≤ 5) ↔ i ∈ [.extest, .extestPulse, .extestTrain] := by
  cases i <;> decide

/-- While domain 168 is ON, an instruction that is loaded becomes the current one, and the package keeps its state. -/
theorem exec_tapInstruction {s : State} (i : TapInstr) (h : s.domOn 168 = true) :
    ∃ t, exec (.tapInstruction i) s = .next t ∧ t.vr .TAP = tapCode i ∧ t.rd .PM_STAT_PSTATE = s.rd .PM_STAT_PSTATE := by
  refine ⟨s.run [wv .TAP (tapCode i)], ?_, ?_, ?_⟩
  · exact congrArg (fun as => Host.Outcome.next (s.run as)) (if_pos h)
  · exact (get_act_var ..).trans ((if_pos rfl).trans (Nat.mod_eq_of_lt (tapCode_lt i)))
  · exact (get_act_var ..).trans (if_neg (by simp))

/-- BYPASS, IDCODE and SAMPLE/PRELOAD are served in every state. -/
theorem tapServed_of_always {s : State} {i : TapInstr} (hcur : s.vr .TAP = tapCode i) (hi : i ∈ [.bypass, .idcode, .samplePreload]) :
    s.tapServed = tapCode i := by
  obtain ⟨hextest, hpriv⟩ : ¬ (3 ≤ tapCode i ∧ tapCode i ≤ 5) ∧ tapCode i ≠ 6 := by
    revert hi
    cases i <;> decide
  simp only [State.tapServed, hcur, if_neg hextest, if_neg hpriv]

/-- EXTEST and its kin are served in AUX_ONLY and BOOT_WAIT, and act as BYPASS otherwise. -/
theorem tapServed_of_extest {s : State} {i : TapInstr} (hcur : s.vr .TAP = tapCode i) (hi : i ∈ [.extest, .extestPulse, .extestTrain]) :
    s.tapServed = if s.rd .PM_STAT_PSTATE = 0 ∨ s.rd .PM_STAT_PSTATE = 1 then tapCode i else tapCode .bypass := by
  have hearly : s.rd .PM_STAT_PSTATE ≤ 1 ↔ s.rd .PM_STAT_PSTATE = 0 ∨ s.rd .PM_STAT_PSTATE = 1 := by omega
  simp only [State.tapServed, hcur, if_pos ((tapCode_extest_iff i).2 hi), hearly]
  rfl

/-! ### The boot ROM's readiness for an image -/

theorem not_bootReady_of_extest {s : State} {i : TapInstr} (hcur : s.vr .TAP = tapCode i) (hi : i ∈ [.extest, .extestPulse, .extestTrain]) :
    ¬ s.bootReady = true := by
  simp [State.bootReady, hcur, (tapCode_extest_iff i).2 hi]

theorem bootReady_of_not_extest {s : State} {i : TapInstr} (hcur : s.vr .TAP = tapCode i) (hi : i ∉ [.extest, .extestPulse, .extestTrain])
    (hmgmt : s.domOn 169 = true) (hcrypto : s.domOn 170 = true) (hstate : s.rd .PM_STAT_PSTATE = 1 ∨ s.rd .PM_STAT_PSTATE = 3)
    (hown : s.mbOwn 0 = true) (hcmd : s.mbCmd 0 = 0xFF01) : s.bootReady = true := by
  have hcode : ¬ (3 ≤ tapCode i ∧ tapCode i ≤ 5) := fun h => hi ((tapCode_extest_iff i).1 h)
  rw [State.bootReady, hmgmt, hcrypto, hown, hcmd, hcur, decide_eq_false hcode]
  rcases hstate with hstate | hstate <;> rw [hstate] <;> rfl

/-- The boot ROM leaves everything as it is where it is not ready for an image. -/
theorem exec_bootImage_of_not_bootReady {s : State} (image : List Byte) (h : ¬ s.bootReady = true) : exec (.bootImage image) s = .next s :=
  if_pos h

/-! ### Requests, measurements and the defect map reach no memory -/

theorem planIn_plans_nil {P : Loc → Prop} : PlanIn P B (plans []) := fun _ => actsIn_nil

theorem planIn_plans_cons {P : Loc → Prop} {p : Plan} {ps : List Plan} (h : PlanIn P B p) (hs : PlanIn P B (plans ps)) :
    PlanIn P B (plans (p :: ps)) := fun s => actsIn_append.2 ⟨h s, hs _⟩

theorem planIn_setPendEn (f : Func) (v slot : Nat) : PlanIn (fun _ => True) B (setPendEn f v slot) := by
  refine fun _ => actsIn_cons trivial ?_
  split
  · exact actsIn_cons trivial actsIn_nil
  · exact actsIn_nil

theorem planIn_startFunc (f : Func) : PlanIn (fun _ => True) B (startFunc f) :=
  planIn_plans_cons (planIn_setPendEn f 0 0) <|
    planIn_plans_cons (fun _ => actsIn_cons trivial (actsIn_cons trivial actsIn_nil)) planIn_plans_nil

theorem planIn_setEn (f : Func) (v : Nat) : PlanIn (fun _ => True) B (setEn f v) := by
  intro s
  unfold setEn
  split
  · exact actsIn_cons trivial actsIn_nil
  · exact actsIn_nil

theorem planIn_enableBody (f : Func) : PlanIn (fun _ => True) B (enableReq.enableBody f) := by
  have hlatched (v : Nat) : PlanIn (fun _ => True) B (setPendDis f v) := fun _ => actsIn_cons trivial actsIn_nil
  intro s
  unfold enableReq.enableBody
  split
  · split
    · exact planIn_setPendEn f 1 1 s
    · exact planIn_startFunc f s
  · exact hlatched 0 s
  · exact hlatched 0 s
  · exact planIn_setPendEn f 1 0 s

/-- An enable request reaches no memory. -/
theorem planIn_enableReq (f : Func) : PlanIn (fun _ => True) B (enableReq f) := by
  refine planIn_plans_cons (planIn_setEn f 1) (planIn_plans_cons (fun s => ?_) planIn_plans_nil)
  split
  · split
    · exact planIn_enableBody f s
    · exact actsIn_nil
  · exact planIn_enableBody f s

theorem actsIn_setMeas (k : Nat) (bs : List Byte) : ActsIn (fun _ => True) B (setMeas k bs) := actsIn_map fun _ _ => trivial

/-- The defect map reaches no memory. -/
theorem planIn_applyDefects (es : List Nat) : PlanIn (fun _ => True) B (applyDefects es) := by
  intro s
  refine actsIn_append.2 ⟨actsIn_append.2 ⟨actsIn_append.2 ⟨?map, ?columns⟩, ?storeRows⟩, ?stackRows⟩
  case map =>
    refine actsIn_flatMap fun l _ => ?_
    split
    · exact actsIn_cons trivial (actsIn_flatMap fun _ _ => actsIn_cons trivial (actsIn_cons trivial actsIn_nil))
    · exact actsIn_flatMap fun _ _ => actsIn_cons trivial (actsIn_cons trivial actsIn_nil)
  case columns =>
    exact actsIn_flatMap fun _ _ => actsIn_cons trivial (actsIn_flatMap fun _ _ => actsIn_cons trivial (actsIn_cons trivial actsIn_nil))
  case storeRows =>
    refine actsIn_flatMap fun t _ a ha => ?_
    obtain ⟨b, -, hb⟩ := List.mem_filterMap.1 ha
    split at hb
    · exact absurd hb (by simp)
    · obtain rfl := Option.some.inj hb
      trivial
  case stackRows => exact actsIn_map fun _ _ => trivial

/-- Bring-up reaches no memory. -/
theorem planIn_bringUp (es : List Nat) : PlanIn (fun _ => True) B (bringUp es) := by
  have henable (ds : List (Fin 174)) : PlanIn (fun _ => True) B (planAll ds fun d => enableReq (.dom d)) :=
    planIn_planAll fun d _ => planIn_enableReq (.dom d)
  exact planIn_plans_cons (planIn_applyDefects es) <| planIn_plans_cons (henable _) <| planIn_plans_cons (henable _) <|
    planIn_plans_cons (fun s => henable _ s) <| planIn_plans_cons (fun s => henable _ s) planIn_plans_nil

/-! ### The acknowledgement of mailbox 0 stands until the return -/

/-- The bytes of the load window and above. -/
def inWindow (a : Nat) : Prop := sramBase ≤ a

theorem not_inWindow_mboxBase : ¬ inWindow (mboxBase 0) := by unfold inWindow; decide

/-- A plan that leaves mailbox 0 acknowledged where it was, and not acknowledged where it was not. -/
def Plan.KeepsAck (p : Plan) : Prop := ∀ s : State, (s.perform p).mbAck 0 = s.mbAck 0

theorem keepsAck_of_planIn {P : Loc → Prop} {p : Plan} (h : PlanIn P inWindow p) : p.KeepsAck := fun s =>
  congrArg (fun b : Byte => testB b.toNat 1) (byte_run_of_actsIn not_inWindow_mboxBase s (h s))

theorem keepsAck_plans_nil : (plans []).KeepsAck := fun _ => rfl

theorem keepsAck_plans_cons {p : Plan} {ps : List Plan} (h : p.KeepsAck) (hs : (plans ps).KeepsAck) : (plans (p :: ps)).KeepsAck := fun s => by
  rw [perform_plans_cons, hs, h]

/-- The return takes back OWN and leaves ACK. -/
theorem mbAck_run_handBack (s t : State) (m : Nat) : (t.run (s.handBack m)).mbAck m = s.mbAck m := by
  have hbyte : (t.run (s.handBack m)).byte (mboxBase m) = s.byte (mboxBase m) &&& 0xFE := by
    have hlater : ActsIn (fun _ => True) (fun _ => False) (wr .MB_OWN_OWN (clrB (s.rd .MB_OWN_OWN) m) :: s.notifyHost m) :=
      actsIn_cons trivial (actsIn_notifyHost s m trivial fun _ => trivial)
    exact (byte_run_of_actsIn id _ hlater).trans ((byte_act_byte ..).trans (if_pos rfl))
  have hbit : (0xFE : Nat).testBit 1 = true := by decide
  simp [State.mbAck, hbyte, testB_eq_testBit, hbit]

theorem keepsAck_mailboxReturn (status : Nat) (rsp : List Byte) (doneBy : Nat) : (mailboxReturn 0 status rsp doneBy).KeepsAck := fun s => by
  rw [perform_mailboxReturn, mbAck_run_handBack]

theorem inside_clearSram {P : Loc → Prop} : clearSram.inside P inWindow := fun _ ha => (of_decide_eq_true ha).1

/-- A refused image leaves the acknowledgement. -/
theorem keepsAck_bootRefused (st : Nat) : (bootRefused st).KeepsAck := by
  have hcounted : PlanIn (fun _ => True) inWindow fun s => [wr .SC_BOOT_LAST_STATUS st, bump s .PM_STAT_BOOT_FAILS 1] :=
    fun _ => actsIn_cons trivial (actsIn_cons trivial actsIn_nil)
  have hrecovery : PlanIn (fun _ => True) inWindow enterRecovery := fun _ =>
    actsIn_cons trivial <| actsIn_cons trivial <| actsIn_cons inside_clearSram <| actsIn_cons trivial <| actsIn_cons trivial <|
      actsIn_cons trivial actsIn_nil
  refine keepsAck_plans_cons (keepsAck_of_planIn hcounted) (keepsAck_plans_cons (keepsAck_of_planIn (P := fun _ => True) fun s => ?_) ?_)
  · exact planIn_logRind _ _ _ _ _ (fun _ _ => trivial) s
  · exact keepsAck_plans_cons (keepsAck_of_planIn hrecovery) (keepsAck_plans_cons (keepsAck_mailboxReturn st [] 0) keepsAck_plans_nil)

/-- A plan that in each state acts as one that keeps the acknowledgement keeps it. -/
theorem keepsAck_of_eq {p : Plan} (h : ∀ s, ∃ q : Plan, p s = q s ∧ q.KeepsAck) : p.KeepsAck := fun s => by
  obtain ⟨q, hq, hkeeps⟩ := h s
  rw [State.perform, hq]
  exact hkeeps s

/-- The start of a verified image leaves the acknowledgement. -/
theorem keepsAck_bootStarts (img : List Byte) (es : List Nat) : (bootStarts img es).KeepsAck := by
  refine keepsAck_of_eq fun s => ⟨plans [_, _, _, _, _, _], rfl, ?_⟩
  refine keepsAck_plans_cons ?slot0 (keepsAck_plans_cons ?fields (keepsAck_plans_cons ?bringUp (keepsAck_plans_cons ?slots
    (keepsAck_plans_cons ?serves (keepsAck_plans_cons ?returned keepsAck_plans_nil)))))
  case slot0 => exact keepsAck_of_planIn fun _ => actsIn_setMeas _ _
  case fields => exact keepsAck_of_planIn (P := fun _ => True) fun _ => by simp [ActsIn, wr, Act.inside]
  case bringUp =>
    split
    · exact keepsAck_of_planIn (planIn_bringUp es)
    · exact keepsAck_plans_nil
  case slots =>
    exact keepsAck_of_planIn fun _ => actsIn_append.2 ⟨actsIn_setMeas _ _, actsIn_flatMap fun _ _ => actsIn_setMeas _ _⟩
  case serves => exact keepsAck_of_planIn (P := fun _ => True) fun _ => by simp [ActsIn, wr, Act.inside]
  case returned => exact keepsAck_mailboxReturn 0 [] 0

/-! ### BOOT_IMAGE (R452, R453) -/

/-- The boot ROM acknowledges mailbox 0. -/
def bootAck : Plan := fun s =>
  putNum (mboxBase 0 + 16) 8 s.gtc ++ [.byte (mboxBase 0) ((s.byte (mboxBase 0)) ||| 2), wr .MB_PEND_PEND (clrB (s.rd .MB_PEND_PEND) 0)]

theorem mbAck_perform_bootAck (s : State) : (s.perform bootAck).mbAck 0 = true := by
  have hbyte : (s.perform bootAck).byte (mboxBase 0) = s.byte (mboxBase 0) ||| 2 := by
    rw [State.perform, bootAck, run_append]
    exact (byte_act_reg ..).trans ((byte_act_byte ..).trans (if_pos rfl))
  have hbit : (2 : Nat).testBit 1 = true := by decide
  simp [State.mbAck, hbyte, testB_eq_testBit, hbit]

/-- The outcome of a BOOT_IMAGE that is taken: mailbox 0 is acknowledged, and what follows keeps that. -/
def TakesImage (o : Host.Outcome State Fault Refusal) : Prop :=
  ∃ (t : State) (ps : List Plan), o = .next (t.perform (plans (bootAck :: ps))) ∧ (plans ps).KeepsAck

theorem TakesImage.mbAck {o : Host.Outcome State Fault Refusal} (h : TakesImage o) : ∃ t, o = .next t ∧ t.mbAck 0 = true := by
  obtain ⟨t, ps, ho, hkeeps⟩ := h
  refine ⟨_, ho, ?_⟩
  rw [perform_plans_cons, hkeeps, mbAck_perform_bootAck]

/-- A boot ROM that is ready takes the image, whether it then refuses it or starts it. -/
theorem takesImage_of_bootReady {s : State} (image : List Byte) (h : s.bootReady = true) : TakesImage (execBootImage image s) := by
  have hlooked (c : Prop) [Decidable c] : Plan.KeepsAck fun s => if c then [] else [bump s .SC_OPS_VERIFY 1] := by
    refine keepsAck_of_planIn (P := fun _ => True) fun s => ?_
    split
    · exact actsIn_nil
    · exact actsIn_cons trivial actsIn_nil
  have hstored (bs : List Byte) : Plan.KeepsAck fun _ => clearSram :: putBytes sramBase bs :=
    keepsAck_of_planIn (P := fun _ => True) fun _ =>
      actsIn_cons inside_clearSram (actsIn_putBytes bs sramBase fun k _ => Nat.le_add_right sramBase k)
  rw [execBootImage, if_neg (not_not_intro h)]
  refine iteInduction (motive := TakesImage) (fun _ => ⟨_, [_, _], rfl, ?refused⟩) (fun _ => ⟨_, [_, _, _], rfl, ?started⟩)
  case refused =>
    exact keepsAck_plans_cons (hlooked _) (keepsAck_plans_cons (keepsAck_bootRefused _) keepsAck_plans_nil)
  case started =>
    exact keepsAck_plans_cons (hlooked _) (keepsAck_plans_cons (hstored _) (keepsAck_plans_cons (keepsAck_bootStarts _ _) keepsAck_plans_nil))

/-- Settles O58: the TAP takes every instruction and serves EXTEST and its kin early only, and the boot ROM takes no image while one is current. -/
theorem boundaryScan : Obligations.BoundaryScan := by
  unfold Obligations.BoundaryScan
  refine ⟨fun s i hon => ?_, fun s i image hi hcur => ?_, fun s i image hi hcur hmgmt hcrypto hstate hown hcmd => ?_⟩
  · obtain ⟨t, hexec, hcur, hstate⟩ := exec_tapInstruction i hon
    refine ⟨t, hexec, tapServed_of_always hcur, fun hi => ?_⟩
    rw [← hstate]
    exact tapServed_of_extest hcur hi
  · exact exec_bootImage_of_not_bootReady image (not_bootReady_of_extest hcur hi)
  · exact (takesImage_of_bootReady image (bootReady_of_not_extest hcur hi hmgmt hcrypto hstate hown hcmd)).mbAck

end Sys2Proof.Machine
end

section
/-! SUPPORT. The line swap (R522). The shadow of a speculation window lists places with their values, and a squash writes back each place listed
(R235). The model fills the list with generator places only (`rnShadow`); but the obligation speaks of every state, and neither the type of the
shadow nor the invariant `State.wf` keeps other places out of it. -/
namespace Sys2Proof.Machine

/-- The lines are swapped, and tile 0 has a window open whose FS_OPEN is queued and whose shadow lists I3C_SWAP, with the value 0. -/
def foreignShadow : State := State.reset.run
  [wv .I3C_SWAP 1, wr .PM_DOM_FSTATE 2 0 0, wr .FS_STAT_WIN 1 0,
   .parts fun p => { p with
     queues := p.queues.set (eKey 0 6) [⟨0, 0, 0, true, false, 0⟩]
     rnShadow := p.rnShadow.put 0 (some [(.var .I3C_SWAP 0 0, 0)]) }]

theorem vr_foreignShadow : foreignShadow.vr .I3C_SWAP = 1 := by decide

/-- The invariant that every step keeps admits the state. -/
theorem wf_foreignShadow : foreignShadow.wf = true := by decide

/-- The squash writes the shadow's 0 back, and the lines count as not swapped. -/
theorem vr_perform_forceSquash_foreignShadow : (foreignShadow.perform (forceSquash 0)).vr .I3C_SWAP = 0 := by decide

/-- Refutes O59: a forced squash takes the swap back in a state whose generator shadow lists I3C_SWAP, a place that `rnShadow` never puts there. -/
theorem not_lineSwap : ¬ Obligations.LineSwap := by
  unfold Obligations.LineSwap
  rintro ⟨-, -, hkept, -⟩
  have hswap : (foreignShadow.perform (forceSquash 0)).vr .I3C_SWAP = 1 :=
    hkept foreignShadow _ (.forceSquash 0) rfl (fun _ => Instr.noConfusion) vr_foreignShadow
  exact absurd (vr_perform_forceSquash_foreignShadow.symm.trans hswap) (by decide)

end Sys2Proof.Machine
end
